-- ==== Sys2Proof/Word.lean ====
section
/-! DEFINITION. The word types of the LF3 and their plainest arithmetic: bytes, the 32-bit symbol count and
millisecond clock, 8-bit superframe numbers, and the saturating 32-bit counter (R1). -/

namespace Sys2Proof

/-- One byte of a frame, unit, message or sample. -/
abbrev Byte := BitVec 8

/-- A run of bytes, the first at the lowest offset (R167). -/
abbrev Bytes := List Byte

/-- A symbol count, or a reading of the 1 ms tick: 32 bits, wrapping (R1, R4, R89). -/
abbrev Word32 := BitVec 32

/-- A superframe number, 0..255, wrapping (R1). -/
abbrev Superframe := BitVec 8

/-- An Ethernet address, the first byte sent being the most significant (R71, R165). -/
abbrev Address := BitVec 48

/-- R1: the superframe distance from `a` to `b` is (b - a) mod 256. -/
def superframeDistance (a b : Superframe) : Nat := (b - a).toNat

/-- R1: the symbol count (or clock reading) `a` is at or after `b` when the interval from `b` to `a`, taken
modulo 2^32, is below 2^31. -/
def atOrAfter (a b : Word32) : Bool := decide ((a - b).toNat < 2 ^ 31)

/-- R1: `a` is before `b` when it is not at or after it. -/
def before (a b : Word32) : Bool := !atOrAfter a b

/-- The largest value of a 32-bit saturating counter (R1, R142). -/
def counterMax : Nat := 2 ^ 32 - 1

/-- R1: one more on a saturating 32-bit counter. -/
def satInc (n : Nat) : Nat := min (n + 1) counterMax

/-- R1: `k` more on a saturating 32-bit counter. -/
def satAdd (n k : Nat) : Nat := min (n + k) counterMax

/-- One more on a count that stops at `top`. -/
def incUpTo (top n : Nat) : Nat := min (n + 1) top

/-- The ceiling of `a / b`. -/
def ceilDiv (a b : Nat) : Nat := (a + b - 1) / b

end Sys2Proof
end

