-- ==== Sys2Proof/Syntax.lean ====
section
/-! DEFINITION. The commands of the LF3: one constructor of `Instr` for each row of spec/opcode_table.json, with the
operands that reach the block with it. A row whose content lies in the block already (a completed frame, a queued
request, a timer that has run out) carries no more than the port, pin, record or direction it concerns. -/

namespace Sys2Proof

/-- The two phone ports; record 1 belongs to port 1 and record 2 to port 2 (R117). -/
inductive PortId where
  | p1
  | p2
  deriving DecidableEq, Repr

/-- The two directions of the line (R1, R167). -/
inductive Direction where
  | receive
  | transmit
  deriving DecidableEq, Repr

/-- The two supply pins (R131). -/
inductive PinId where
  | mainsOk
  | battLow
  deriving DecidableEq, Repr

/-- R9, R175: what a TRAINED record carries: 64 receive loads, 32 transmit loads and both protection levels, as the
transceiver sends them (a load above 12 or a level above 3 fails the line port's check). -/
structure TrainedRecord where
  rxLoads : List Nat
  txLoads : List Nat
  rxLevel : Nat
  txLevel : Nat
  deriving DecidableEq, Repr

/-- R4, R175: one burst of a FRAME-REPORT, a start offset within the superframe and a length. -/
structure ReportedBurst where
  offset : Nat
  length : Nat
  deriving DecidableEq, Repr

/-- R4, R175: what a FRAME-REPORT carries. -/
structure FrameReport where
  superframe : Superframe
  damaged    : Byte
  bursts     : List ReportedBurst
  deriving DecidableEq, Repr

/-- R101: what one frame of the sample bus brings for one port: the sample from the phone and the raw hook bit
(`true` is off hook). -/
structure PortFrame where
  sample : Byte
  rawOff : Bool
  deriving DecidableEq, Repr

/-- The commands: the rows of spec/opcode_table.json, in the table's order. -/
inductive Instr where
  /-- POWER_ON (R137): the RESET pin's power-on reset. -/
  | powerOn
  /-- MS_TICK (R94): the 1 ms tick, with the level each supply pin shows at it (R131). -/
  | msTick (mainsOk battLow : Bool)
  /-- SECOND_TICK (R139): the 1 s tick that the latest 1 ms tick brought. -/
  | secondTick
  /-- INTERVAL_CLOSE (R144). -/
  | intervalClose
  /-- TRAINED (R9): the record from the transceiver. -/
  | trained (r : TrainedRecord)
  /-- TRAIN_FAILED (R10), with the transceiver's reason. -/
  | trainFailed (reason : Byte)
  /-- SIGNAL_LOST (R13). -/
  | signalLost
  /-- FRAME_REPORT (R4). -/
  | frameReport (r : FrameReport)
  /-- GUARD_COUNTDOWN (R56) of one direction's schedule. -/
  | guardCountdown (d : Direction)
  /-- OFFER_DEADLINE (R33). -/
  | offerDeadline
  /-- OFFER_SWITCH (R34). -/
  | offerSwitch
  /-- FAR_CHANGE_SWITCH (R36). -/
  | farChangeSwitch
  /-- CUTBACK_SWITCH (R39). -/
  | cutbackSwitch
  /-- MARGIN_REPORT (R5): the 64 ratios, in qdB. -/
  | marginReport (ratios : List Byte)
  /-- TRAINING_TIMEOUT (R10). -/
  | trainingTimeout
  /-- HOLDOFF_EXPIRY (R11). -/
  | holdoffExpiry
  /-- SILENCE_EXPIRY (R12). -/
  | silenceExpiry
  /-- UNIT_PULL (R18). -/
  | unitPull
  /-- RECEIVED_UNIT (R19): the 64-byte unit and its damaged mark. -/
  | receivedUnit (unit : Bytes) (damaged : Bool)
  /-- DOWNSTREAM_FRAME (R81) of the DATA frame the line port has just completed. -/
  | downstreamFrame
  /-- VOICE_ARRIVAL (R125) of the VOICE frame the line port has just completed. -/
  | voiceArrival
  /-- LOAD_OFFER (R35) from the far end. -/
  | loadOffer
  /-- LOAD_TAKE (R31) from the far end. -/
  | loadTake
  /-- LOAD_DECLINE (R32) from the far end. -/
  | loadDecline
  /-- CUTBACK_TAKEN (R39) from the far end. -/
  | cutbackTaken
  /-- INBOUND_CUTBACK (R42) from the far end. -/
  | inboundCutback
  /-- FAR_QUERY (R157) from the far end. -/
  | farQuery
  /-- HOME_FRAME_ARRIVAL (R72): the frame, and whether its frame check sequence was right. -/
  | homeFrameArrival (frame : Bytes) (fcsRight : Bool)
  /-- HOME_FRAME_SENT (R84): the home port finishes sending a frame. -/
  | homeFrameSent
  /-- HOOK_ACCEPTANCE (R104) at a port. -/
  | hookAcceptance (p : PortId)
  /-- BREAK_PULSES_COMPLETE (R105) at a port. -/
  | breakPulsesComplete (p : PortId)
  /-- HANG_UP (R105) at a port. -/
  | hangUp (p : PortId)
  /-- INTERDIGIT_EXPIRY (R106) at a port. -/
  | interdigitExpiry (p : PortId)
  /-- RING_PHASE_END (R110) at a port. -/
  | ringPhaseEnd (p : PortId)
  /-- PIN_ACCEPTANCE (R131) of a supply pin. -/
  | pinAcceptance (pin : PinId)
  /-- FRAME_BOUNDARY (R122) of a channel record. -/
  | frameBoundary (p : PortId)
  /-- PACING_EXPIRY (R151). -/
  | pacingExpiry
  /-- READ_TABLE (R162). -/
  | readTable
  /-- WRITE_TABLE (R163). -/
  | writeTable
  /-- WRITE_ON (R163). -/
  | writeOn
  /-- READ_STATUS (R160). -/
  | readStatus
  /-- READ_COUNTERS (R142). -/
  | readCounters
  /-- READ_HISTORY (R144). -/
  | readHistory
  /-- READ_LOG (R155). -/
  | readLog
  /-- READ_EVENTS (R149). -/
  | readEvents
  /-- CLEAR_EVENTS (R149). -/
  | clearEvents
  /-- START (R7): LINE-CONTROL START. -/
  | start
  /-- STOP (R15): LINE-CONTROL STOP. -/
  | stop
  /-- RETRAIN (R16): LINE-CONTROL RETRAIN. -/
  | retrain
  /-- CHANNEL_OPEN_LINE (R118). -/
  | channelOpenLine
  /-- CHANNEL_OPEN_INTERCOM (R119). -/
  | channelOpenIntercom
  /-- CHANNEL_CLOSE (R120). -/
  | channelClose
  /-- RING (R109). -/
  | ring
  /-- RING_STOP (R111). -/
  | ringStop
  /-- PORT_CONTROL (R112). -/
  | portControl
  /-- HOST_SLEEP (R152). -/
  | hostSleep
  /-- SET_PARTITION (R164). -/
  | setPartition
  /-- RESET_PART (R166): the request. -/
  | resetPart
  /-- PART_RESET (R166): the reset itself, when its reply has been sent. -/
  | partReset
  /-- RESET_LINE (R21). -/
  | resetLine
  /-- RESET_TRAFFIC (R99). -/
  | resetTraffic
  /-- RESET_VOICE (R130). -/
  | resetVoice
  /-- RESET_MONITOR (R166). -/
  | resetMonitor
  /-- BAD_KIND_REQUEST (R169). -/
  | badKindRequest
  /-- SAMPLE_FRAME (R101): one frame of the sample bus, for port 1 and port 2. -/
  | sampleFrame (one two : PortFrame)
  deriving DecidableEq, Repr

end Sys2Proof
end

