-- ==== Sys2Proof/Decode.lean ====
section
/-! DEFINITION. The commands that a word spells. No row of spec/opcode_table.json gives its command any bits: a command
reaches the part over a port, as a record, a unit, a frame, a tick or a level (R2, R3, R17, R71, R101, R131). So no word
spells a command (log entry 6). The formats that do cross the ports are in Machine/Operands.lean. -/

namespace Sys2Proof

/-- The command that a word of `nbits` bits spells by the table's bits: none does. -/
def decodeTableWord (_nbits _w : Nat) : Option Instr := none

end Sys2Proof
end

