-- ==== Sys2Proof/Config.lean ====
section
/-! DEFINITION. The figures the manual fixes for the part: depths, limits and the defaults that are not parameters; and
the one free value, which the manual leaves open. -/

namespace Sys2Proof.Config

/-- R86: the pool, in units. -/
def poolUnits : Nat := 1024
/-- R93: messages MQ holds. -/
def mqDepth : Nat := 8
/-- R91: frames VQ holds for one record. -/
def vqPerRecord : Nat := 4
/-- R94: the depth of the token bucket, in thousandths of a unit. -/
def creditDepth : Nat := 32000
/-- R94: what one unit costs, in thousandths of a unit. -/
def unitCredit : Nat := 1000
/-- R82: frames the home egress queue holds. -/
def homeQueueDepth : Nat := 32
/-- R83: frames the management egress queue holds. -/
def mgmtQueueDepth : Nat := 8
/-- R159: requests the request queue holds. -/
def requestQueueDepth : Nat := 4
/-- R45: records the burst history holds. -/
def historyDepth : Nat := 8
/-- R45: the age, in symbols, above which a burst record is removed. -/
def burstAge : Nat := 120000
/-- R106, R107: digits a port's queue holds. -/
def digitQueueDepth : Nat := 16
/-- R105: the longest break, in ms, that is a dial pulse. -/
def pulseMax : Nat := 100
/-- R131: the ticks a supply pin must hold a new level. -/
def pinDebounce : Nat := 50
/-- R144: seconds in one interval record. -/
def intervalSeconds : Nat := 900
/-- R144: records the history ring holds. -/
def ringDepth : Nat := 16
/-- R140: the run of seconds that changes the availability state. -/
def availabilityRun : Nat := 10
/-- R137: 1 ms ticks in a 1 s tick. -/
def ticksPerSecond : Nat := 1000
/-- R35, R22: the highest load of a tone group. -/
def maxLoad : Nat := 12
/-- R27: changes one offer may carry. -/
def maxChanges : Nat := 8
/-- R28: the raise count at which a raise is offered. -/
def raiseAt : Nat := 30
/-- R53: the lower-hold count at which a lowering is taken. -/
def lowerHoldAt : Nat := 10
/-- R118: what a line call costs in each direction, in u/s. -/
def callCost : Nat := 200
/-- R117: the idle value of a record that no call has given one, the default of a CHANNEL-OPEN too (R118). -/
def idleDefault : Byte := 255
/-- R72, R19: the longest Ethernet frame. -/
def maxFrame : Nat := 1536
/-- R72, R84: the shortest frame on the home network. -/
def minFrame : Nat := 60
/-- R19: the longest management message. -/
def maxMessage : Nat := 512
/-- R19: the length of a voice frame. -/
def voiceFrame : Nat := 84
/-- R17: payload bytes of one unit. -/
def unitPayload : Nat := 60
/-- R122: samples in one voice frame. -/
def frameSamples : Nat := 80
/-- R73, R168: the type of a management frame. -/
def managementType : Nat := 0xA8F2
/-- R71: the tag marker. -/
def tagMarker : Nat := 0x8100
/-- R165: the default STATION-ADDRESS, 02-4C-5A-00-00-01. -/
def stationDefault : Address := 0x024C5A000001
/-- R165: the broadcast address. -/
def broadcast : Address := 0xFFFFFFFFFFFF
/-- R164: the partition after power-on. -/
def partitionDefault : Nat := 4

/-- R74, R164: class entries at partition `n`. -/
def classSize (n : Nat) : Nat := 32 + 8 * n
/-- R154, R164: log records at partition `n`. -/
def logCapacity (n : Nat) : Nat := 192 - 16 * n

/-- R71, R84: the four bytes of the frame check sequence that the home port computes for a frame it sends. The manual does
not say how it is computed, so the value is free (DESIGN CHOICE, log entry 28). -/
opaque frameCheck : Bytes → Word32

end Sys2Proof.Config
end

