-- ==== Sys2Proof/Machine/State.lean ====
section
/-! DEFINITION. The state of the LF3 as plain data: one structure per block, because each block owns its own state
(00_scope, Block overview), the parts that cross blocks (time base, steps made due, outputs) and the queue of waiting
commands; the reasons a step can stop; and the state right after the power-on reset. -/

namespace Sys2Proof.Machine

/-! ## Containers -/

/-- One value for each direction of the line. -/
structure Dirs (α : Type) where
  rx : α
  tx : α
  deriving DecidableEq, Repr

/-- One value for each phone port (and each channel record). -/
structure Pair (α : Type) where
  one : α
  two : α
  deriving DecidableEq, Repr

/-- One value for each data queue, or for each watch counter. -/
structure Quad (α : Type) where
  i0 : α
  i1 : α
  i2 : α
  i3 : α
  deriving DecidableEq, Repr

/-- The index of a data queue Q0..Q3, or of a watch 0..3. -/
inductive Ix4 where
  | i0
  | i1
  | i2
  | i3
  deriving DecidableEq, Repr

/-- The queues of the deficit round robin (R97). -/
inductive Drr where
  | q1
  | q2
  | q3
  deriving DecidableEq, Repr

/-- One value for each queue of the deficit round robin. -/
structure Tri (α : Type) where
  q1 : α
  q2 : α
  q3 : α
  deriving DecidableEq, Repr

/-- One value for each supply mode (R134). -/
structure PerMode (α : Type) where
  mains    : α
  lifeline : α
  reserve  : α
  deriving DecidableEq, Repr

def Dirs.get {α : Type} (x : Dirs α) : Direction → α
  | .receive => x.rx
  | .transmit => x.tx

def Dirs.set {α : Type} (x : Dirs α) (d : Direction) (v : α) : Dirs α :=
  match d with
  | .receive => { x with rx := v }
  | .transmit => { x with tx := v }

def Pair.get {α : Type} (x : Pair α) : PortId → α
  | .p1 => x.one
  | .p2 => x.two

def Pair.set {α : Type} (x : Pair α) (p : PortId) (v : α) : Pair α :=
  match p with
  | .p1 => { x with one := v }
  | .p2 => { x with two := v }

def Quad.get {α : Type} (x : Quad α) : Ix4 → α
  | .i0 => x.i0
  | .i1 => x.i1
  | .i2 => x.i2
  | .i3 => x.i3

def Quad.set {α : Type} (x : Quad α) (i : Ix4) (v : α) : Quad α :=
  match i with
  | .i0 => { x with i0 := v }
  | .i1 => { x with i1 := v }
  | .i2 => { x with i2 := v }
  | .i3 => { x with i3 := v }

def Tri.get {α : Type} (x : Tri α) : Drr → α
  | .q1 => x.q1
  | .q2 => x.q2
  | .q3 => x.q3

def Tri.set {α : Type} (x : Tri α) (d : Drr) (v : α) : Tri α :=
  match d with
  | .q1 => { x with q1 := v }
  | .q2 => { x with q2 := v }
  | .q3 => { x with q3 := v }

/-! ## Names shared by the blocks -/

/-- R6: the line states. -/
inductive LineState where
  | off
  | training
  | run
  | holdoff
  deriving DecidableEq, Repr

/-- R132: the supply modes. -/
inductive Mode where
  | mains
  | lifeline
  | reserve
  deriving DecidableEq, Repr

def PerMode.get {α : Type} (x : PerMode α) : Mode → α
  | .mains => x.mains
  | .lifeline => x.lifeline
  | .reserve => x.reserve

def PerMode.set {α : Type} (x : PerMode α) (m : Mode) (v : α) : PerMode α :=
  match m with
  | .mains => { x with mains := v }
  | .lifeline => { x with lifeline := v }
  | .reserve => { x with reserve := v }

/-- R50: the protection levels. -/
inductive Level where
  | p0
  | p1
  | p2
  | p3
  deriving DecidableEq, Repr

/-- R64: the binding limits. -/
inductive Binding where
  | line
  | provider
  | supply
  | none
  deriving DecidableEq, Repr

/-- R147: the twenty event kinds. -/
inductive Kind where
  | lineUp
  | lineDown
  | trainFail
  | retrain
  | offerTaken
  | offerFailed
  | farChange
  | cutbackDone
  | cadenceLock
  | cadenceLost
  | ses
  | unavailable
  | supplyChange
  | hook
  | digit
  | flash
  | ringDone
  | channelClosed
  | voiceLoss
  | watch
  deriving DecidableEq, Repr

/-- A set of event kinds: kind k (1..20) is in it when the bit of value 2^(k - 1) is 1 (R167). -/
abbrev KindSet := BitVec 20

/-- R173: the kinds of line management messages. -/
inductive MsgKind where
  | loadOffer
  | loadTake
  | loadDecline
  | cutback
  | cutbackTaken
  | faultReport
  | farQuery
  | farAnswer
  deriving DecidableEq, Repr

/-- R93: the message classes. -/
inductive MsgClass where
  | load
  | supply
  | report
  | query
  deriving DecidableEq, Repr

/-! ## Line port (chapter 1) -/

/-- R19: a reassembly context. -/
inductive Context where
  | idle
  | collecting (held : Bytes)
  | skipping
  deriving DecidableEq, Repr

/-- R4, R6, R19: the line port. A timer holds the ms since it was last started, or nothing when it is stopped. -/
structure LinePort where
  state       : LineState
  training    : Option Nat
  holdoff     : Option Nat
  silence     : Option Nat
  symbolCount : Word32
  superframe  : Superframe
  data        : Context
  manage      : Context
  voice       : List Context
  deriving DecidableEq, Repr

/-- R2, R175: the guard of a TABLE-SET. -/
structure BusGuard where
  period           : Nat
  width            : Nat
  anchorSuperframe : Superframe
  anchorOffset     : Nat
  deriving DecidableEq, Repr

/-- R2: what a TABLE-SET carries. -/
structure TableSet where
  direction   : Direction
  loads       : List Nat
  level       : Level
  guard       : Option BusGuard
  switch      : Superframe
  conditional : Bool
  deriving DecidableEq, Repr

/-- R2: the commands to the transceiver. -/
inductive BusCommand where
  | train (ceiling : Nat)
  | halt
  | tableSet (t : TableSet)
  | tableCancel (d : Direction) (switch : Superframe)
  deriving DecidableEq, Repr

/-! ## Loading engine (chapter 2) -/

/-- R23: a guard in force or offered. -/
structure Guard where
  period : Nat
  width  : Nat
  anchor : Word32
  deriving DecidableEq, Repr

/-- R23: a protection setting. -/
structure Protection where
  level : Level
  guard : Option Guard
  deriving DecidableEq, Repr

/-- R25: the classes of one receive group. -/
structure GroupClass where
  weak    : Bool
  strong  : Bool
  failing : Bool
  deriving DecidableEq, Repr

/-- R25: one receive group at the latest margin report; a group loaded with 12 bits has no headroom. -/
structure GroupReport where
  margin   : Int
  headroom : Option Int
  cls      : GroupClass
  deriving DecidableEq, Repr

/-- R30: the offer that the own-offer record holds; `newProt` is the new protection it carries, if any. -/
structure OwnOffer where
  number  : Byte
  switch  : Superframe
  table   : List Nat
  newProt : Option Protection
  deriving DecidableEq, Repr

/-- R30: the own-offer record. -/
inductive OwnRecord where
  | none
  | outstanding (o : OwnOffer)
  | confirmed (o : OwnOffer)
  deriving DecidableEq, Repr

/-- R36: an accepted far-end change. -/
structure FarPending where
  switch  : Superframe
  table   : List Nat
  newProt : Option Protection
  deriving DecidableEq, Repr

/-- R38: an outstanding cutback. -/
structure CutbackOut where
  switch   : Superframe
  table    : List Nat
  number   : Byte
  answered : Bool
  deriving DecidableEq, Repr

/-- R35: the transmit change record. -/
inductive TxRecord where
  | none
  | farPending (f : FarPending)
  | cutbackOut (c : CutbackOut)
  deriving DecidableEq, Repr

/-- R39: the most recent cutback and whether it has switched. -/
structure LastCutback where
  number   : Byte
  switched : Bool
  deriving DecidableEq, Repr

/-- R43: the loading engine. -/
structure Loading where
  rxLoads       : List Nat
  txLoads       : List Nat
  prot          : Dirs Protection
  thresh        : List Nat
  report        : Option (List GroupReport)
  raiseCount    : Nat
  holdoff       : Nat
  failures      : Nat
  own           : OwnRecord
  offerNumber   : Byte
  lastOffer     : Option Byte
  tx            : TxRecord
  cutbackNumber : Byte
  lastCutback   : Option LastCutback
  deriving DecidableEq, Repr

/-! ## Impulse tracker (chapter 3) -/

/-- R44: a burst record. -/
structure Burst where
  start  : Word32
  length : Nat
  deriving DecidableEq, Repr

/-- R46: what LOCKED holds. -/
structure Lock where
  period    : Nat
  predicted : Word32
  misses    : Nat
  deriving DecidableEq, Repr

/-- R50: a level together with a guard, without the anchor. -/
structure Setting where
  level : Level
  guard : Option (Nat × Nat)
  deriving DecidableEq, Repr

/-- R55: a guard schedule in force. -/
structure Schedule where
  period : Nat
  width  : Nat
  next   : Word32
  deriving DecidableEq, Repr

/-- R59: the impulse tracker; the history is oldest first, and no lock is SEARCH. -/
structure Tracker where
  history        : List Burst
  lock           : Option Lock
  recommendation : Option Setting
  decision       : Option Setting
  lowerHold      : Nat
  sched          : Dirs (Option Schedule)
  deriving DecidableEq, Repr

/-! ## Rate unit (chapter 4) -/

/-- R60: the rate record. -/
structure RateRecord where
  raw         : Dirs Nat
  net         : Dirs Nat
  capacity    : Dirs Nat
  effTx       : Nat
  binding     : Binding
  txAllowance : Nat
  rxAllowance : Nat
  deriving DecidableEq, Repr

/-! ## Classifier (chapter 5) -/

/-- R75: the selectors of a match field. -/
inductive Selector where
  | none
  | type
  | vlan
  | prio
  | destLow
  | word
  deriving DecidableEq, Repr

/-- R75: a match field. -/
structure MatchField where
  selector : Selector
  offset   : Nat
  value    : BitVec 16
  mask     : BitVec 16
  deriving DecidableEq, Repr

/-- R74: the actions of a class entry. -/
inductive Action where
  | queue
  | drop
  | count
  deriving DecidableEq, Repr

/-- R74: a class entry. -/
structure ClassEntry where
  valid  : Bool
  matchA : MatchField
  matchB : MatchField
  action : Action
  queue  : Ix4
  hits   : Nat
  deriving DecidableEq, Repr

/-- R83: a frame of the management egress queue; `partReply` marks the reply that a PART reset waits for (R166). -/
structure MgmtFrame where
  bytes     : Bytes
  partReply : Bool
  deriving DecidableEq, Repr

/-- R84: the frame the home port is sending: the oldest of the management egress queue, the oldest of the home egress
queue, or a frame of a home egress queue that a TRAFFIC reset has emptied since (R82). -/
inductive Sending where
  | mgmt (f : MgmtFrame)
  | home (f : Bytes)
  | homeEmptied (f : Bytes)
  deriving DecidableEq, Repr

/-- R74, R82, R83: the classifier; both queues are oldest first. -/
structure Classifier where
  table     : List ClassEntry
  homeQueue : List Bytes
  mgmtQueue : List MgmtFrame
  sending   : Option Sending
  deriving DecidableEq, Repr

/-! ## Line scheduler (chapter 6) -/

/-- A data frame record; `sent` is the number of units already sent, and the started mark is `sent > 0` (R86). -/
structure FrameRec where
  bytes   : Bytes
  arrival : Word32
  sent    : Nat
  deriving DecidableEq, Repr

/-- R91: a voice frame in VQ; a started one is the VQ frame in progress. -/
structure VqFrame where
  port    : PortId
  stream  : Nat
  bytes   : Bytes
  started : Bool
  deriving DecidableEq, Repr

/-- R93, R173: a line management message, its header included. -/
structure Message where
  kind  : MsgKind
  bytes : Bytes
  deriving DecidableEq, Repr

/-- R93: the management send slot's message and the units of it already sent. -/
structure Slot where
  msg  : Message
  sent : Nat
  deriving DecidableEq, Repr

/-- R86 to R97: the line scheduler; every queue is oldest first. -/
structure Scheduler where
  queues     : Quad (List FrameRec)
  inProgress : Option Ix4
  vq         : List VqFrame
  mq         : List Message
  slot       : Option Slot
  deficit    : Tri Nat
  turn       : Drr
  mark       : Bool
  credit     : Nat
  shedLevel  : Nat
  deriving DecidableEq, Repr

/-! ## Phone port unit (chapter 7) -/

/-- R103: the port states. -/
inductive PortState where
  | onHook
  | ringing
  | offHook
  | inBreak
  | unfed
  deriving DecidableEq, Repr

/-- R109, R110: a ring in progress and its position. -/
structure Ring where
  entry   : Nat
  repeats : Nat
  segment : Nat
  onPhase : Bool
  ms      : Nat
  passes  : Nat
  deriving DecidableEq, Repr

/-- A phone-port record. `rawOff` is the latched hook bit (R101), `accepted` the accepted level, `true` being OFF
(R102), `lastSample` the latest sample from the phone after mute-to-line (R101, R123). -/
structure PhonePort where
  rawOff       : Bool
  accepted     : Bool
  stable       : Nat
  state        : PortState
  pulses       : Nat
  interdigitMs : Nat
  breakMs      : Nat
  digits       : List Nat
  ring         : Option Ring
  muteToLine   : Bool
  muteToPhone  : Bool
  lastSample   : Byte
  deriving DecidableEq, Repr

/-- R108: one cadence segment, in units of 10 ms. -/
structure Segment where
  on  : Nat
  off : Nat
  deriving DecidableEq, Repr

/-- The phone port unit: the two records and the cadence table of 8 entries of four segments (R108). -/
structure Phone where
  ports   : Pair PhonePort
  cadence : List (List Segment)
  deriving DecidableEq, Repr

/-! ## Voice engine (chapter 8) -/

/-- R129: the counts kept per record. -/
structure CallCounts where
  assembled    : Nat
  unsent       : Nat
  vqDrops      : Nat
  received     : Nat
  duplicate    : Nat
  late         : Nat
  resync       : Nat
  played       : Nat
  concealment  : Nat
  underrun     : Nat
  framesPassed : Nat
  deriving DecidableEq, Repr

/-- R125: a frame held in a jitter buffer. -/
structure HeldFrame where
  seq     : BitVec 16
  samples : Bytes
  deriving DecidableEq, Repr

/-- R125: the jitter buffer; not playing is FILLING. -/
structure JitterBuffer where
  playing  : Bool
  expected : Option (BitVec 16)
  held     : List HeldFrame
  last     : Option Bytes
  conceal  : Nat
  deriving DecidableEq, Repr

/-- R117: what an OPEN LINE record holds. `samples` are those stored since the last frame boundary, in the order taken,
`formed` says that a frame has been formed since the open (the FIRST mark, R122), and `chosen` is the choice of the
latest playout tick, if there has been one (R123, R126). -/
structure LineCall where
  stream   : Nat
  target   : Nat
  position : Nat
  seq      : BitVec 16
  samples  : Bytes
  formed   : Bool
  buffer   : JitterBuffer
  chosen   : Option Bytes
  deriving DecidableEq, Repr

/-- R117: what a channel record carries. -/
inductive Call where
  | free
  | line (c : LineCall)
  | intercom (position : Nat)
  deriving DecidableEq, Repr

/-- R117: a channel record. -/
structure ChannelRecord where
  call   : Call
  idle   : Byte
  counts : CallCounts
  deriving DecidableEq, Repr

/-! ## Supply monitor (chapter 9) -/

/-- R131: one pin's debounce; `seen` is the level at the latest tick, kept while the pin has no accepted level. -/
structure PinDebounce where
  accepted : Option Bool
  seen     : Option Bool
  stable   : Nat
  deriving DecidableEq, Repr

/-- R131, R132: the supply monitor. -/
structure Supply where
  mainsOk : PinDebounce
  battLow : PinDebounce
  mode    : Mode
  deriving DecidableEq, Repr

/-! ## Performance monitor (chapter 10) -/

/-- R19: the counts of a reassembly context. -/
structure ReassemblyCounts where
  damaged  : Nat
  broken   : Nat
  orphan   : Nat
  oversize : Nat
  deriving DecidableEq, Repr

/-- R141: the residency counters, and ES, SES and UAS (R142, group 0). -/
structure PerfCounters where
  es              : Nat
  ses             : Nat
  uas             : Nat
  inOff           : Nat
  inTraining      : Nat
  inRun           : Nat
  inHoldoff       : Nat
  inMains         : Nat
  inLifeline      : Nat
  inReserve       : Nat
  boundSupply     : Nat
  boundProvider   : Nat
  boundLine       : Nat
  impulseCost     : Nat
  deriving DecidableEq, Repr

/-- R142: the line group. -/
structure LineCounters where
  retrains           : Nat
  trainFailures      : Nat
  offersTaken        : Nat
  offersFailed       : Nat
  farTaken           : Nat
  farDeclined        : Nat
  cutbacksAnswered   : Nat
  cutbacksUnanswered : Nat
  lateAnswers        : Nat
  strayAnswers       : Nat
  bursts             : Nat
  strays             : Nat
  misses             : Nat
  locks              : Nat
  deriving DecidableEq, Repr

/-- R80: the classifier's counts. -/
structure ClassifierCounts where
  badCheck     : Nat
  runt         : Nat
  giant        : Nat
  mgmtRefused  : Nat
  mgmtOverflow : Nat
  classDrop    : Nat
  defaulted    : Nat
  upstream     : Nat
  downMgmt     : Nat
  downRunt     : Nat
  homeOverflow : Nat
  homeSent     : Nat
  mgmtSent     : Nat
  deriving DecidableEq, Repr

/-- R100: the scheduler's counts in the traffic group. -/
structure SchedulerCounts where
  admitted        : Quad Nat
  shed            : Quad Nat
  tailDropped     : Quad Nat
  stale           : Quad Nat
  cut             : Nat
  framesSent      : Quad Nat
  dataUnits       : Nat
  manageUnits     : Nat
  voiceUnits      : Nat
  fillUnits       : Nat
  messagesSent    : Nat
  evicted         : Nat
  discardedLoad   : Nat
  discardedReport : Nat
  refused         : Nat
  flushed         : Nat
  deriving DecidableEq, Repr

/-- R142: the traffic group. -/
structure TrafficCounters where
  data           : ReassemblyCounts
  manage         : ReassemblyCounts
  unknownChannel : Nat
  inboundReports : Nat
  cls            : ClassifierCounts
  sch            : SchedulerCounts
  malformed      : Nat
  deriving DecidableEq, Repr

/-- R115: the counts of one phone port. -/
structure PortCounts where
  lifts          : Nat
  hangUps        : Nat
  digits         : Nat
  pulseOverflow  : Nat
  digitOverflow  : Nat
  flashes        : Nat
  ringsCompleted : Nat
  ringsStopped   : Nat
  answers        : Nat
  deriving DecidableEq, Repr

/-- R142: the voice group. The VQ drops of R100 are kept here per record, apart from the call counts of the records (R129);
their total is `totals.vqDrops`. -/
structure VoiceCounters where
  reassembly    : ReassemblyCounts
  vqDrops       : Pair Nat
  vqFlushed     : Nat
  framesSent    : Nat
  ports         : Pair PortCounts
  totals        : CallCounts
  unknownStream : Nat
  malformed     : Nat
  deriving DecidableEq, Repr

/-- R143: an interval record. -/
structure Interval where
  stamp        : Nat
  elapsed      : Nat
  es           : Nat
  ses          : Nat
  uas          : Nat
  retrains     : Nat
  offersTaken  : Nat
  offersFailed : Nat
  voiceLost    : Nat
  lifeline     : Nat
  minEffTx     : Option Nat
  minRx        : Option Nat
  noRun        : Bool
  deriving DecidableEq, Repr

/-- R146: the conditions of an EDGE or TIME watch. -/
inductive Condition where
  | lineRun
  | bindingSupply
  | bindingProvider
  | bindingLine
  | guardArmed
  | cadenceLocked
  | onBattery
  | port1OffHook
  | port2OffHook
  deriving DecidableEq, Repr

/-- R145, R171: the direction of a message field. -/
inductive WatchDirection where
  | none
  | inbound
  | outbound
  | any
  deriving DecidableEq, Repr

/-- R145: a message field; no class or kind is ANY. -/
structure MessageField where
  direction : WatchDirection
  cls       : Option MsgClass
  kind      : Option MsgKind
  deriving DecidableEq, Repr

/-- R145, R146: what a watch counts. -/
inductive WatchSource where
  | event (k : Kind)
  | message (a b : MessageField)
  | edge (c : Condition)
  | time (c : Condition)
  deriving DecidableEq, Repr

/-- R145: a watch definition with its count. -/
structure Watch where
  source    : WatchSource
  threshold : Nat
  count     : Nat
  deriving DecidableEq, Repr

/-- The performance monitor. The history ring is newest first (R144). -/
structure Monitor where
  seconds   : Nat
  damage    : Nat
  lossMark  : Bool
  available : Bool
  sesRun    : Nat
  clearRun  : Nat
  perf      : PerfCounters
  line      : LineCounters
  traffic   : TrafficCounters
  voice     : VoiceCounters
  interval  : Interval
  history   : List Interval
  watches   : Quad Watch
  deriving DecidableEq, Repr

/-! ## Event unit (chapter 11) -/

/-- R151: pacing, and the ms its timer has run. -/
inductive Pacing where
  | ready
  | paced (ms : Nat) (refused : Bool)
  deriving DecidableEq, Repr

/-- R154: a fault log record. -/
structure LogRecord where
  stamp   : Nat
  kind    : Kind
  line    : LineState
  mode    : Mode
  detailA : Option Nat
  detailB : Option Nat
  deriving DecidableEq, Repr

/-- R158: the event unit; the log is oldest first. -/
structure EventUnit where
  pending     : KindSet
  noticeDue   : KindSet
  farPending  : KindSet
  pacing      : Pacing
  asleep      : Bool
  wakePin     : Bool
  log         : List LogRecord
  overwritten : Nat
  reportAge   : Nat
  deriving DecidableEq, Repr

/-! ## Management agent (chapter 12) -/

/-- R159, R168: a request in the request queue: the source of its frame, its header's version, kind, tag and body
length, and the bytes that follow the header. -/
structure Request where
  source  : Address
  version : Byte
  kind    : Byte
  tag     : BitVec 16
  bodyLen : Nat
  rest    : Bytes
  deriving DecidableEq, Repr

/-- R176: the parameter table. -/
structure Params where
  trainTimeout   : Nat
  holdoff        : Nat
  silenceCount   : Nat
  reloadEnable   : Nat
  mLow           : Int
  mTarget        : Int
  mDrop          : Int
  cadenceTol     : Nat
  guardMargin    : Nat
  providerCap    : Nat
  voiceShare     : Nat
  supplyCap      : PerMode Nat
  loadCeiling    : PerMode Nat
  shed           : PerMode Nat
  port2Feed      : PerMode Nat
  defaultQueue   : Nat
  qLimit         : Quad Nat
  qWeight        : Tri Nat
  ageLimit       : Nat
  hookDebounce   : Nat
  flashMax       : Nat
  interdigit     : Nat
  jitterTarget   : Nat
  sesThreshold   : Nat
  noticeMask     : KindSet
  wakeMask       : KindSet
  farMask        : KindSet
  noticeInterval : Nat
  farReportEvery : Nat
  manager        : Address
  station        : Address
  deriving DecidableEq, Repr

/-- R163: the write cursor's table id and index. -/
structure Cursor where
  table : Nat
  index : Nat
  deriving DecidableEq, Repr

/-- R159 to R166: the management agent. `partWait` is set from the execution of a PART reset until the reset. -/
structure Agent where
  queue      : List Request
  waiting    : Option MgmtFrame
  partWait   : Bool
  cursor     : Option Cursor
  params     : Params
  partition  : Nat
  lastSource : Option Address
  deriving DecidableEq, Repr

/-! ## Time base, outputs, steps made due -/

/-- R137: the reading of the 1 ms tick (R79, R89), and the 1 ms ticks since the last 1 s tick. -/
structure TimeBase where
  ms      : Word32
  divider : Nat
  deriving DecidableEq, Repr

/-- R101: what the latest sample frame gave one port. -/
structure PortOut where
  sample : Byte
  ring   : Bool
  feed   : Bool
  deriving DecidableEq, Repr

/-- R84: a frame as the home port sends it: its bytes, padded, and the frame check sequence added to them. -/
structure SentFrame where
  bytes : Bytes
  check : Word32
  deriving DecidableEq, Repr

/-- What has left the part: every command sent to the transceiver, in order (R2); the answer to the latest pull (R18);
the latest frame the home port finished sending (R84); what the latest sample frame gave each port (R101). The wake pin
is the event unit's (R152). -/
structure Outputs where
  commands  : List BusCommand
  unit      : Option Bytes
  homeFrame : Option SentFrame
  ports     : Pair PortOut
  deriving DecidableEq, Repr

/-- R20: a frame that the line port has completed and hands on. -/
inductive Arrival where
  | data (frame : Bytes)
  | voice (stream : Nat) (frame : Bytes)
  | message (kind : MsgKind) (tag : Byte) (body : Bytes)
  deriving DecidableEq, Repr

/-- A step of the table that an earlier step has made due (a timer that has run out at the latest tick, a switch that
the latest frame report has reached, a frame that has been completed) and that has not been taken yet. -/
inductive Due where
  | trainingTimeout
  | holdoffExpiry
  | silenceExpiry
  | pin (p : PinId)
  | breakPulses (p : PortId)
  | hangUp (p : PortId)
  | interdigit (p : PortId)
  | ringPhase (p : PortId)
  | hook (p : PortId)
  | pacing
  | secondTick
  | intervalClose
  | guard (d : Direction)
  | offerDeadline
  | offerSwitch
  | farChangeSwitch
  | cutbackSwitch
  | arrival (a : Arrival)
  | frameBoundary (p : PortId)
  | partReset
  deriving DecidableEq, Repr

/-! ## The state -/

/-- The whole LF3, and the commands waiting to be taken, first in, first out. -/
structure State where
  pending : List Instr
  due     : List Due
  time    : TimeBase
  line    : LinePort
  load    : Loading
  track   : Tracker
  rate    : RateRecord
  cls     : Classifier
  sch     : Scheduler
  phone   : Phone
  voice   : Pair ChannelRecord
  supply  : Supply
  mon     : Monitor
  evt     : EventUnit
  agent   : Agent
  out     : Outputs
  deriving DecidableEq, Repr

/-- Why a step could stop with a fault. The manual names no condition that stops the part and every command has its
effect in every state, so no reason exists and nothing raises one (safe: no behaviour is cut short). -/
inductive Fault where
  deriving DecidableEq, Repr

/-- Why a command could be refused. -/
inductive Refusal where
  /-- The command has no meaning in this model yet; raised by exec's arm of that command alone. Safe: the run stops
  where the part would go on. No arm raises it at present. -/
  | notModelled (mnemonic : String)
  deriving DecidableEq, Repr

/-! ## One update per block -/

def State.setDue (s : State) (x : List Due) : State := { s with due := x }
def State.setTime (s : State) (x : TimeBase) : State := { s with time := x }
def State.setLine (s : State) (x : LinePort) : State := { s with line := x }
def State.setLoad (s : State) (x : Loading) : State := { s with load := x }
def State.setTrack (s : State) (x : Tracker) : State := { s with track := x }
def State.setRate (s : State) (x : RateRecord) : State := { s with rate := x }
def State.setCls (s : State) (x : Classifier) : State := { s with cls := x }
def State.setSch (s : State) (x : Scheduler) : State := { s with sch := x }
def State.setPhone (s : State) (x : Phone) : State := { s with phone := x }
def State.setVoice (s : State) (x : Pair ChannelRecord) : State := { s with voice := x }
def State.setSupply (s : State) (x : Supply) : State := { s with supply := x }
def State.setMon (s : State) (x : Monitor) : State := { s with mon := x }
def State.setEvt (s : State) (x : EventUnit) : State := { s with evt := x }
def State.setAgent (s : State) (x : Agent) : State := { s with agent := x }
def State.setOut (s : State) (x : Outputs) : State := { s with out := x }

/-! ## After the power-on reset -/

/-- R7, R19, R21: the line port after power-on. -/
def LinePort.reset : LinePort :=
  { state := .off, training := none, holdoff := none, silence := none, symbolCount := 0, superframe := 0,
    data := .idle, manage := .idle, voice := List.replicate 16 .idle }

/-- R23: no redundancy and no guard. -/
def Protection.none : Protection := { level := .p0, guard := Option.none }

/-- R24: the default threshold table. -/
def threshDefault : List Nat := [0, 40, 52, 64, 76, 88, 100, 112, 124, 136, 148, 160, 172]

/-- R43: the loading engine after power-on. -/
def Loading.reset : Loading :=
  { rxLoads := List.replicate 64 0, txLoads := List.replicate 32 0,
    prot := { rx := Protection.none, tx := Protection.none }, thresh := threshDefault, report := none,
    raiseCount := 0, holdoff := 0, failures := 0, own := .none, offerNumber := 0, lastOffer := none,
    tx := .none, cutbackNumber := 0, lastCutback := none }

/-- R59: the impulse tracker after power-on. -/
def Tracker.reset : Tracker :=
  { history := [], lock := none, recommendation := none, decision := none, lowerHold := 0,
    sched := { rx := none, tx := none } }

/-- R60: the rate record after power-on. -/
def RateRecord.reset : RateRecord :=
  { raw := ⟨0, 0⟩, net := ⟨0, 0⟩, capacity := ⟨0, 0⟩, effTx := 0, binding := .none, txAllowance := 0,
    rxAllowance := 0 }

/-- R74: the match field NONE. -/
def MatchField.none : MatchField := { selector := .none, offset := 0, value := 0, mask := 0 }

/-- R74: an empty class entry. -/
def ClassEntry.empty : ClassEntry :=
  { valid := false, matchA := MatchField.none, matchB := MatchField.none, action := .queue, queue := .i0, hits := 0 }

/-- R74, R82, R83: the classifier after power-on. -/
def Classifier.reset : Classifier :=
  { table := List.replicate (Config.classSize Config.partitionDefault) ClassEntry.empty, homeQueue := [],
    mgmtQueue := [], sending := none }

/-- R99: the line scheduler after power-on, at shedding level `shed`. -/
def Scheduler.reset (shed : Nat) : Scheduler :=
  { queues := ⟨[], [], [], []⟩, inProgress := none, vq := [], mq := [], slot := none, deficit := ⟨0, 0, 0⟩,
    turn := .q1, mark := false, credit := 0, shedLevel := shed }

/-- R116: a phone-port record after power-on, fed. The manual gives the latched hook bit and the previous sample no
value before the first sample frame: ON and the idle value (DESIGN CHOICE, log entry 7). -/
def PhonePort.reset : PhonePort :=
  { rawOff := false, accepted := false, stable := 0, state := .onHook, pulses := 0, interdigitMs := 0, breakMs := 0,
    digits := [], ring := none, muteToLine := false, muteToPhone := false, lastSample := Config.idleDefault }

/-- R108: four empty segments. -/
def cadenceEmpty : List Segment := List.replicate 4 ⟨0, 0⟩

/-- R108: the default cadence table. -/
def cadenceDefault : List (List Segment) :=
  [[⟨40, 20⟩, ⟨40, 200⟩, ⟨0, 0⟩, ⟨0, 0⟩], [⟨100, 300⟩, ⟨0, 0⟩, ⟨0, 0⟩, ⟨0, 0⟩],
   cadenceEmpty, cadenceEmpty, cadenceEmpty, cadenceEmpty, cadenceEmpty, cadenceEmpty]

/-- R116: the phone port unit after power-on. -/
def Phone.reset : Phone := { ports := ⟨PhonePort.reset, PhonePort.reset⟩, cadence := cadenceDefault }

/-- R117: call counts at zero. -/
def CallCounts.zero : CallCounts :=
  { assembled := 0, unsent := 0, vqDrops := 0, received := 0, duplicate := 0, late := 0, resync := 0, played := 0,
    concealment := 0, underrun := 0, framesPassed := 0 }

/-- R117: a channel record after power-on. -/
def ChannelRecord.reset : ChannelRecord := { call := .free, idle := Config.idleDefault, counts := CallCounts.zero }

/-- R131: a pin that has no accepted level and has not been read. -/
def PinDebounce.reset : PinDebounce := { accepted := none, seen := none, stable := 0 }

/-- R136: the supply monitor after power-on. -/
def Supply.reset : Supply := { mainsOk := PinDebounce.reset, battLow := PinDebounce.reset, mode := .mains }

def ReassemblyCounts.zero : ReassemblyCounts := { damaged := 0, broken := 0, orphan := 0, oversize := 0 }

def PerfCounters.zero : PerfCounters :=
  { es := 0, ses := 0, uas := 0, inOff := 0, inTraining := 0, inRun := 0, inHoldoff := 0, inMains := 0,
    inLifeline := 0, inReserve := 0, boundSupply := 0, boundProvider := 0, boundLine := 0, impulseCost := 0 }

def LineCounters.zero : LineCounters :=
  { retrains := 0, trainFailures := 0, offersTaken := 0, offersFailed := 0, farTaken := 0, farDeclined := 0,
    cutbacksAnswered := 0, cutbacksUnanswered := 0, lateAnswers := 0, strayAnswers := 0, bursts := 0, strays := 0,
    misses := 0, locks := 0 }

def ClassifierCounts.zero : ClassifierCounts :=
  { badCheck := 0, runt := 0, giant := 0, mgmtRefused := 0, mgmtOverflow := 0, classDrop := 0, defaulted := 0,
    upstream := 0, downMgmt := 0, downRunt := 0, homeOverflow := 0, homeSent := 0, mgmtSent := 0 }

def SchedulerCounts.zero : SchedulerCounts :=
  { admitted := ⟨0, 0, 0, 0⟩, shed := ⟨0, 0, 0, 0⟩, tailDropped := ⟨0, 0, 0, 0⟩, stale := ⟨0, 0, 0, 0⟩, cut := 0,
    framesSent := ⟨0, 0, 0, 0⟩, dataUnits := 0, manageUnits := 0, voiceUnits := 0, fillUnits := 0,
    messagesSent := 0, evicted := 0, discardedLoad := 0, discardedReport := 0, refused := 0, flushed := 0 }

def TrafficCounters.zero : TrafficCounters :=
  { data := ReassemblyCounts.zero, manage := ReassemblyCounts.zero, unknownChannel := 0, inboundReports := 0,
    cls := ClassifierCounts.zero, sch := SchedulerCounts.zero, malformed := 0 }

def PortCounts.zero : PortCounts :=
  { lifts := 0, hangUps := 0, digits := 0, pulseOverflow := 0, digitOverflow := 0, flashes := 0, ringsCompleted := 0,
    ringsStopped := 0, answers := 0 }

def VoiceCounters.zero : VoiceCounters :=
  { reassembly := ReassemblyCounts.zero, vqDrops := ⟨0, 0⟩, vqFlushed := 0, framesSent := 0,
    ports := ⟨PortCounts.zero, PortCounts.zero⟩, totals := CallCounts.zero, unknownStream := 0, malformed := 0 }

/-- R143: a record that starts at the stamp given. -/
def Interval.start (stamp : Nat) : Interval :=
  { stamp := stamp, elapsed := 0, es := 0, ses := 0, uas := 0, retrains := 0, offersTaken := 0, offersFailed := 0,
    voiceLost := 0, lifeline := 0, minEffTx := none, minRx := none, noRun := false }

/-- R145: a message field that matches nothing. -/
def MessageField.none : MessageField := { direction := .none, cls := Option.none, kind := Option.none }

/-- R145: the definition of a watch after power-on. -/
def Watch.reset : Watch :=
  { source := .message MessageField.none MessageField.none, threshold := 0, count := 0 }

/-- R138 to R145: the performance monitor after power-on. -/
def Monitor.reset : Monitor :=
  { seconds := 0, damage := 0, lossMark := false, available := true, sesRun := 0, clearRun := 0,
    perf := PerfCounters.zero, line := LineCounters.zero, traffic := TrafficCounters.zero,
    voice := VoiceCounters.zero, interval := Interval.start 0, history := [],
    watches := ⟨Watch.reset, Watch.reset, Watch.reset, Watch.reset⟩ }

/-- R158: the event unit after power-on. -/
def EventUnit.reset : EventUnit :=
  { pending := 0, noticeDue := 0, farPending := 0, pacing := .ready, asleep := false, wakePin := false, log := [],
    overwritten := 0, reportAge := 255 }

/-- R176: the parameter table after power-on. The masks are the sets {1, 2, 13, 14, 15, 16, 17, 18}, {14} and
{12, 13} (R148). -/
def Params.reset : Params :=
  { trainTimeout := 60, holdoff := 10, silenceCount := 8, reloadEnable := 1, mLow := 8, mTarget := 24, mDrop := -8,
    cadenceTol := 4, guardMargin := 1, providerCap := 48000, voiceShare := 12, supplyCap := ⟨48000, 4000, 1000⟩,
    loadCeiling := ⟨3072, 1200, 400⟩, shed := ⟨0, 2, 3⟩, port2Feed := ⟨1, 1, 0⟩, defaultQueue := 2,
    qLimit := ⟨128, 256, 256, 256⟩, qWeight := ⟨4, 2, 1⟩, ageLimit := 20, hookDebounce := 20, flashMax := 700,
    interdigit := 300, jitterTarget := 2, sesThreshold := 64, noticeMask := 0x3F003, wakeMask := 0x02000,
    farMask := 0x01800, noticeInterval := 5, farReportEvery := 60, manager := 0, station := Config.stationDefault }

/-- R159, R163 to R165: the management agent after power-on. -/
def Agent.reset : Agent :=
  { queue := [], waiting := none, partWait := false, cursor := none, params := Params.reset,
    partition := Config.partitionDefault, lastSource := none }

/-- Nothing has left the part; the ports' outputs before the first sample frame are a DESIGN CHOICE (log entry 7). -/
def Outputs.reset : Outputs :=
  { commands := [], unit := none, homeFrame := none,
    ports := ⟨⟨Config.idleDefault, false, false⟩, ⟨Config.idleDefault, false, false⟩⟩ }

/-- The part right after the power-on reset: every block as its chapter says, the time base at its start (R137), no
step due and no command waiting. -/
def State.reset : State :=
  { pending := [], due := [], time := { ms := 0, divider := 0 }, line := LinePort.reset, load := Loading.reset,
    track := Tracker.reset, rate := RateRecord.reset, cls := Classifier.reset, sch := Scheduler.reset 0,
    phone := Phone.reset, voice := ⟨ChannelRecord.reset, ChannelRecord.reset⟩, supply := Supply.reset,
    mon := Monitor.reset, evt := EventUnit.reset, agent := Agent.reset, out := Outputs.reset }

end Sys2Proof.Machine
end

