-- ==== Sys2Proof/Machine/Bytes.lean ====
section
/-! DEFINITION. Byte order (R167: the most significant byte first): fields cut out of a run of bytes and fields laid
out as bytes. -/

namespace Sys2Proof.Machine

/-- The byte at an offset, 0 past the end. -/
def byteAt (b : Bytes) (i : Nat) : Nat := (b.getD i 0).toNat

/-- The unsigned number a run of bytes holds, most significant byte first (R167). -/
def ofBytes (b : Bytes) : Nat := b.foldl (fun n x => n * 256 + x.toNat) 0

/-- The unsigned field of `size` bytes at `offset`; bytes past the end read as 0. -/
def field (b : Bytes) (offset size : Nat) : Nat :=
  ofBytes ((List.range size).map fun i => b.getD (offset + i) 0)

/-- The 16-bit field at `offset` (R71). -/
def field16 (b : Bytes) (offset : Nat) : Nat := byteAt b offset * 256 + byteAt b (offset + 1)

/-- The signed 32-bit value that an unsigned 32-bit field holds in two's complement (R167, R176). -/
def signed32 (n : Nat) : Int := (BitVec.ofNat 32 n).toInt

/-- `n` as a field of one byte. -/
def u8 (n : Nat) : Bytes := [BitVec.ofNat 8 n]

/-- `n` as a field of two bytes (R167). -/
def u16 (n : Nat) : Bytes := [BitVec.ofNat 8 (n / 256), BitVec.ofNat 8 n]

/-- `n` as a field of four bytes (R167). -/
def u32 (n : Nat) : Bytes :=
  [BitVec.ofNat 8 (n / 16777216), BitVec.ofNat 8 (n / 65536), BitVec.ofNat 8 (n / 256), BitVec.ofNat 8 n]

/-- A signed field of two bytes, in two's complement (R167). -/
def i16 (n : Int) : Bytes := u16 (BitVec.ofInt 16 n).toNat

/-- A signed field of four bytes, in two's complement (R167). -/
def i32 (n : Int) : Bytes := u32 (BitVec.ofInt 32 n).toNat

/-- An Ethernet address, six bytes (R71). -/
def addressBytes (a : Address) : Bytes := u16 (a.toNat / 4294967296) ++ u32 a.toNat

/-- The address that six bytes at an offset hold. -/
def addressAt (b : Bytes) (offset : Nat) : Address := BitVec.ofNat 48 (field b offset 6)

/-- One byte that is 1 for a flag that is set and 0 for one that is clear. -/
def flagByte (b : Bool) : Bytes := u8 (if b then 1 else 0)

/-- `n` bytes sent as 0. -/
def zeros (n : Nat) : Bytes := List.replicate n 0

/-- A run of bytes padded with zeros to `n` (R84). -/
def padTo (n : Nat) (b : Bytes) : Bytes := b ++ zeros (n - b.length)

end Sys2Proof.Machine
end

