-- ==== Sys2Proof/Machine/Flags.lean ====
section
/-! DEFINITION. The event kinds, their numbers and their sets (R147, R148, R167), and the codes the manual gives the
states, modes, levels and limits (R167, R170). -/

namespace Sys2Proof.Machine

/-- R147: the number of a kind. -/
def Kind.num : Kind → Nat
  | .lineUp => 1
  | .lineDown => 2
  | .trainFail => 3
  | .retrain => 4
  | .offerTaken => 5
  | .offerFailed => 6
  | .farChange => 7
  | .cutbackDone => 8
  | .cadenceLock => 9
  | .cadenceLost => 10
  | .ses => 11
  | .unavailable => 12
  | .supplyChange => 13
  | .hook => 14
  | .digit => 15
  | .flash => 16
  | .ringDone => 17
  | .channelClosed => 18
  | .voiceLoss => 19
  | .watch => 20

/-- R147: the twenty kinds in the order of their numbers. -/
def Kind.all : List Kind :=
  [.lineUp, .lineDown, .trainFail, .retrain, .offerTaken, .offerFailed, .farChange, .cutbackDone, .cadenceLock,
   .cadenceLost, .ses, .unavailable, .supplyChange, .hook, .digit, .flash, .ringDone, .channelClosed, .voiceLoss,
   .watch]

/-- The kind of a number 1..20. -/
def Kind.ofNum (n : Nat) : Option Kind := if n = 0 then none else Kind.all[n - 1]?

/-- R147: when a kind writes a log record: never, at each occurrence, or when its flag was clear. -/
inductive Logged where
  | no
  | each
  | onSet
  deriving DecidableEq, Repr

/-- R147: the last column of the table. -/
def Kind.logged : Kind → Logged
  | .lineUp => .no
  | .lineDown => .each
  | .trainFail => .each
  | .retrain => .each
  | .offerTaken => .no
  | .offerFailed => .each
  | .farChange => .no
  | .cutbackDone => .each
  | .cadenceLock => .onSet
  | .cadenceLost => .onSet
  | .ses => .no
  | .unavailable => .each
  | .supplyChange => .each
  | .hook => .no
  | .digit => .no
  | .flash => .no
  | .ringDone => .each
  | .channelClosed => .each
  | .voiceLoss => .onSet
  | .watch => .onSet

/-- R167: the set holding one kind. -/
def Kind.bit (k : Kind) : KindSet := 1#20 <<< (k.num - 1)

/-- A kind is in a set. -/
def KindSet.has (s : KindSet) (k : Kind) : Bool := s.getLsbD (k.num - 1)

/-- A set with a kind added. -/
def KindSet.insert (s : KindSet) (k : Kind) : KindSet := s ||| k.bit

/-- A set without the kinds of another. -/
def KindSet.without (s t : KindSet) : KindSet := s &&& ~~~t

/-- R167: a kind set as a field of four bytes. -/
def KindSet.bytes (s : KindSet) : Bytes := u32 s.toNat

/-- R147: an occurrence: its kind and details. -/
structure Event where
  kind : Kind
  a    : Option Nat
  b    : Option Nat
  deriving DecidableEq, Repr

/-- An occurrence with no detail. -/
def Event.plain (k : Kind) : Event := ⟨k, none, none⟩

/-- An occurrence with detail A. -/
def Event.withA (k : Kind) (a : Nat) : Event := ⟨k, some a, none⟩

/-- R6: the causes and reasons that LINE-DOWN and RETRAIN share. -/
inductive Cause where
  | signalLost
  | silent
  | margin
  | unavailable
  | ordered
  | stopped
  | holdoff
  deriving DecidableEq, Repr

/-- R6: the code of a cause. -/
def Cause.code : Cause → Nat
  | .signalLost => 1
  | .silent => 2
  | .margin => 3
  | .unavailable => 4
  | .ordered => 5
  | .stopped => 6
  | .holdoff => 7

/-- R167. -/
def LineState.code : LineState → Nat
  | .off => 0
  | .training => 1
  | .run => 2
  | .holdoff => 3

/-- R132, R167. -/
def Mode.code : Mode → Nat
  | .mains => 0
  | .lifeline => 1
  | .reserve => 2

/-- R167. -/
def Level.code : Level → Nat
  | .p0 => 0
  | .p1 => 1
  | .p2 => 2
  | .p3 => 3

/-- R9, R35: the level of a code; outside P0..P3 there is none. -/
def Level.ofCode : Nat → Option Level
  | 0 => some .p0
  | 1 => some .p1
  | 2 => some .p2
  | 3 => some .p3
  | _ => none

/-- R170: a binding limit has no code of R167 and is sent as its place in R60: LINE, PROVIDER, SUPPLY, NONE. -/
def Binding.code : Binding → Nat
  | .line => 0
  | .provider => 1
  | .supply => 2
  | .none => 3

/-- The number of a port. -/
def portNum : PortId → Nat
  | .p1 => 1
  | .p2 => 2

/-- The port of a number, 1 or 2. -/
def portOf : Nat → Option PortId
  | 1 => some .p1
  | 2 => some .p2
  | _ => none

/-- The other port. -/
def otherPort : PortId → PortId
  | .p1 => .p2
  | .p2 => .p1

/-- The number of a data queue or watch. -/
def Ix4.num : Ix4 → Nat
  | .i0 => 0
  | .i1 => 1
  | .i2 => 2
  | .i3 => 3

/-- The data queue or watch of a number 0..3. -/
def Ix4.ofNum : Nat → Option Ix4
  | 0 => some .i0
  | 1 => some .i1
  | 2 => some .i2
  | 3 => some .i3
  | _ => none

/-- Q0..Q3, or watches 0..3, in order. -/
def Ix4.all : List Ix4 := [.i0, .i1, .i2, .i3]

/-- The data queue of a queue of the round robin. -/
def Drr.queue : Drr → Ix4
  | .q1 => .i1
  | .q2 => .i2
  | .q3 => .i3

/-- R97: the turn passes from Q1 to Q2, from Q2 to Q3 and from Q3 back to Q1. -/
def Drr.succ : Drr → Drr
  | .q1 => .q2
  | .q2 => .q3
  | .q3 => .q1

/-- R159, R167: the statuses. -/
inductive Status where
  | ok
  | badKind
  | badTable
  | refused
  | badIndex
  | busy
  | badValue
  | noRoom
  | badLength
  deriving DecidableEq, Repr

/-- R159, R167: the code of a status. -/
def Status.code : Status → Nat
  | .ok => 0
  | .badKind => 1
  | .badTable => 2
  | .refused => 3
  | .badIndex => 4
  | .busy => 5
  | .badValue => 6
  | .noRoom => 7
  | .badLength => 8

/-- R173: the code of a message kind. -/
def MsgKind.code : MsgKind → Nat
  | .loadOffer => 1
  | .loadTake => 2
  | .loadDecline => 3
  | .cutback => 4
  | .cutbackTaken => 5
  | .faultReport => 6
  | .farQuery => 7
  | .farAnswer => 8

/-- R173: the message kind of a code. -/
def MsgKind.ofCode : Nat → Option MsgKind
  | 1 => some .loadOffer
  | 2 => some .loadTake
  | 3 => some .loadDecline
  | 4 => some .cutback
  | 5 => some .cutbackTaken
  | 6 => some .faultReport
  | 7 => some .farQuery
  | 8 => some .farAnswer
  | _ => none

/-- R173: the class of a kind. -/
def MsgKind.cls : MsgKind → MsgClass
  | .loadOffer => .load
  | .loadTake => .load
  | .loadDecline => .load
  | .cutback => .supply
  | .cutbackTaken => .supply
  | .faultReport => .report
  | .farQuery => .query
  | .farAnswer => .query

/-- R173: the code of a class. -/
def MsgClass.code : MsgClass → Nat
  | .load => 1
  | .supply => 2
  | .report => 3
  | .query => 4

/-- R173: the class of a code. -/
def MsgClass.ofCode : Nat → Option MsgClass
  | 1 => some .load
  | 2 => some .supply
  | 3 => some .report
  | 4 => some .query
  | _ => none

/-- R171: the code of a condition. -/
def Condition.code : Condition → Nat
  | .lineRun => 1
  | .bindingSupply => 2
  | .bindingProvider => 3
  | .bindingLine => 4
  | .guardArmed => 5
  | .cadenceLocked => 6
  | .onBattery => 7
  | .port1OffHook => 8
  | .port2OffHook => 9

/-- R171: the condition of a code. -/
def Condition.ofCode : Nat → Option Condition
  | 1 => some .lineRun
  | 2 => some .bindingSupply
  | 3 => some .bindingProvider
  | 4 => some .bindingLine
  | 5 => some .guardArmed
  | 6 => some .cadenceLocked
  | 7 => some .onBattery
  | 8 => some .port1OffHook
  | 9 => some .port2OffHook
  | _ => none

end Sys2Proof.Machine
end

