-- ==== Sys2Proof/Machine/Operands.lean ====
section
/-! DEFINITION. The layouts of chapter 13 and of R71: Ethernet and management frames, line units and voice frames, line
management messages, and the entries of the tables, each read from bytes and written as bytes. -/

namespace Sys2Proof.Machine

/-! ## Ethernet frames (R71) -/

/-- R71: the 16-bit field at offset 12 is the tag marker. -/
def isTagged (f : Bytes) : Bool := field16 f 12 == Config.tagMarker

/-- R71: the frame type: offset 12 untagged, offset 16 tagged. A tagged frame from the line of 14 to 17 bytes has no whole
field at offset 16; that its missing bytes read as 0 is the model's choice (log entry 27). -/
def frameType (f : Bytes) : Nat := if isTagged f then field16 f 16 else field16 f 12

/-- R71: the source address, offsets 6..11. -/
def frameSource (f : Bytes) : Address := addressAt f 6

/-- R168: where the management payload begins. -/
def payloadOffset (f : Bytes) : Nat := if isTagged f then 18 else 14

/-- R168: the request that a management frame carries. -/
def Request.ofFrame (f : Bytes) : Request :=
  let p := f.drop (payloadOffset f)
  { source := frameSource f, version := p.getD 0 0, kind := p.getD 1 0, tag := BitVec.ofNat 16 (field16 p 2),
    bodyLen := field16 p 4, rest := p.drop 7 }

/-- R168: the body of a request; the body length field says where it ends. -/
def Request.body (r : Request) : Bytes := r.rest.take r.bodyLen

/-- R165, R168, R170: a frame the part builds: destination, source, type, management header and body, untagged. -/
def managementFrame (dst src : Address) (kind tag status : Nat) (body : Bytes) : Bytes :=
  addressBytes dst ++ addressBytes src ++ u16 Config.managementType ++ u8 1 ++ u8 kind ++ u16 tag ++
    u16 body.length ++ u8 status ++ body

/-- R168: the kind code of a notice. -/
def noticeKind : Nat := 32

/-! ## The rows of the request kinds (R160, R168) -/

/-- The request rows of the table of commands. -/
inductive RequestRow where
  | readTable
  | writeTable
  | writeOn
  | readStatus
  | readCounters
  | readHistory
  | readLog
  | readEvents
  | clearEvents
  | start
  | stop
  | retrain
  | channelOpenLine
  | channelOpenIntercom
  | channelClose
  | ring
  | ringStop
  | portControl
  | hostSleep
  | setPartition
  | resetPart
  | resetLine
  | resetTraffic
  | resetVoice
  | resetMonitor
  | badKind
  deriving DecidableEq, Repr

/-- R168, R169: the row that executes a request. A LINE-CONTROL of an unknown action stands under START, a RESET of an
unknown scope under RESET_PART and a CHANNEL-OPEN of an unknown kind under CHANNEL_OPEN_LINE (DESIGN CHOICE, log
entry 4): each is refused there. -/
def Request.row (r : Request) : RequestRow :=
  if r.version ≠ 1 then .badKind else
  let first := byteAt r.body 0
  match r.kind.toNat with
  | 1 => .readTable
  | 2 => .writeTable
  | 3 => .writeOn
  | 4 => .readStatus
  | 5 => .readCounters
  | 6 => .readHistory
  | 7 => .readLog
  | 8 => .readEvents
  | 9 => .clearEvents
  | 10 => if first = 2 then .stop else if first = 3 then .retrain else .start
  | 11 => if first = 2 then .channelOpenIntercom else .channelOpenLine
  | 12 => .channelClose
  | 13 => .ring
  | 14 => .ringStop
  | 15 => .portControl
  | 16 => .hostSleep
  | 17 => .setPartition
  | 18 =>
    if first = 2 then .resetLine else if first = 3 then .resetTraffic else if first = 4 then .resetVoice
    else if first = 5 then .resetMonitor else .resetPart
  | _ => .badKind

/-! ## Line units and voice frames (R17, R96, R172) -/

/-- R17: the channels. -/
inductive Channel where
  | fill
  | data
  | manage
  | voice
  deriving DecidableEq, Repr

/-- R172: the code of a channel. -/
def Channel.code : Channel → Nat
  | .fill => 0
  | .data => 1
  | .manage => 2
  | .voice => 3

/-- R172: the channel of a code; 4..7 are not defined. -/
def Channel.ofCode : Nat → Option Channel
  | 0 => some .fill
  | 1 => some .data
  | 2 => some .manage
  | 3 => some .voice
  | _ => none

/-- R172: what a received unit's header says; `channel` is nothing where the value is not defined. -/
structure UnitHeader where
  channel : Option Channel
  start   : Bool
  last    : Bool
  stream  : Nat
  count   : Nat
  deriving DecidableEq, Repr

/-- R172: the header of a unit. -/
def unitHeader (u : Bytes) : UnitHeader :=
  let b0 := byteAt u 0
  { channel := Channel.ofCode (b0 / 32), start := b0 / 16 % 2 == 1, last := b0 / 8 % 2 == 1,
    stream := byteAt u 1 % 16, count := byteAt u 2 }

/-- R172: the payload bytes in use of a unit. -/
def unitPayload (u : Bytes) : Bytes := (u.drop 4).take (unitHeader u).count

/-- R172: a unit: its header and its payload, padded with zeros to 64 bytes. -/
def unitBytes (c : Channel) (stream : Nat) (start last : Bool) (payload : Bytes) : Bytes :=
  u8 (c.code * 32 + (if start then 16 else 0) + (if last then 8 else 0)) ++ u8 (stream % 16) ++
    u8 payload.length ++ u8 0 ++ padTo Config.unitPayload payload

/-- R18: the FILL unit. -/
def fillUnit : Bytes := unitBytes .fill 0 false false []

/-- R17: the units a frame of `n` bytes occupies. -/
def unitsOf (n : Nat) : Nat := ceilDiv n Config.unitPayload

/-- R96: unit `i` (from 0) of an item of bytes `b`. -/
def itemUnit (c : Channel) (stream : Nat) (b : Bytes) (i : Nat) : Bytes :=
  unitBytes c stream (i == 0) (i + 1 == unitsOf b.length)
    ((b.drop (Config.unitPayload * i)).take Config.unitPayload)

/-- R122, R172: the voice frame of a stream. -/
def voiceFrameBytes (stream : Nat) (isFirst : Bool) (seq : BitVec 16) (samples : Bytes) : Bytes :=
  u8 (stream % 16) ++ flagByte isFirst ++ u16 seq.toNat ++ samples

/-- R172: the stream field of a voice frame. -/
def voiceStream (f : Bytes) : Nat := byteAt f 0 % 16

/-- R172: the sequence number of a voice frame. -/
def voiceSeq (f : Bytes) : BitVec 16 := BitVec.ofNat 16 (field16 f 2)

/-! ## Line management messages (R173, R174) -/

/-- R173: a message: its header and body. -/
def mkMessage (k : MsgKind) (tag : Byte) (body : Bytes) : Message :=
  ⟨k, u8 1 ++ u8 k.cls.code ++ u8 k.code ++ [tag] ++ u16 body.length ++ body⟩

/-- R174: what a MANAGE frame holds, unless it is malformed at the header. -/
def readMessage (f : Bytes) : Option (MsgKind × Byte × Bytes) :=
  if f.length < 6 then none
  else if byteAt f 0 ≠ 1 then none
  else
    match MsgClass.ofCode (byteAt f 1), MsgKind.ofCode (byteAt f 2) with
    | some c, some k =>
      if k.cls = c ∧ f.length = 6 + field16 f 4 then some (k, f.getD 3 0, f.drop 6) else none
    | _, _ => none

/-- The guard of an offer as the message gives it (R173). -/
structure OfferGuard where
  period           : Nat
  width            : Nat
  anchorSuperframe : Nat
  anchorOffset     : Nat
  deriving DecidableEq, Repr

/-- The protection setting of an offer as the message gives it (R173); the level is not yet checked. -/
structure OfferProt where
  level : Nat
  guard : Option OfferGuard
  deriving DecidableEq, Repr

/-- The body of a LOAD-OFFER (R173): a change names a group and its new load. -/
structure OfferBody where
  number  : Byte
  switch  : Superframe
  prot    : Option OfferProt
  changes : List (Nat × Nat)
  deriving DecidableEq, Repr

/-- R173: the bytes of the protection part of an offer. -/
def offerProtBytes : Option OfferProt → Bytes
  | none => u8 0
  | some ⟨level, none⟩ => u8 1 ++ u8 level ++ u8 0
  | some ⟨level, some g⟩ =>
    u8 1 ++ u8 level ++ u8 1 ++ u16 g.period ++ u8 g.width ++ u8 g.anchorSuperframe ++ u8 g.anchorOffset

/-- R173: the body of a LOAD-OFFER as bytes. -/
def offerBodyBytes (o : OfferBody) : Bytes :=
  [o.number, o.switch] ++ u8 o.changes.length ++ offerProtBytes o.prot ++
    o.changes.flatMap fun c => u8 c.1 ++ u8 c.2

/-- R173: the changes, two bytes each. -/
def readChanges : Bytes → List (Nat × Nat)
  | g :: l :: rest => (g.toNat, l.toNat) :: readChanges rest
  | _ => []

/-- R174: the body of a LOAD-OFFER, unless it is not exactly as its change count and present marks require. A present
mark is taken as 1 when it is not 0 (DEDUCED from R169, log entry 17). -/
def readOfferBody (b : Bytes) : Option OfferBody :=
  if b.length < 4 then none
  else
    let protLen := if byteAt b 3 = 0 then 0 else if byteAt b 5 = 0 then 2 else 7
    if b.length ≠ 4 + protLen + 2 * byteAt b 2 then none
    else
      let guard : Option OfferGuard :=
        if byteAt b 5 = 0 then none
        else some { period := field16 b 6, width := byteAt b 8, anchorSuperframe := byteAt b 9,
                    anchorOffset := byteAt b 10 }
      let prot : Option OfferProt := if byteAt b 3 = 0 then none else some { level := byteAt b 4, guard := guard }
      some { number := b.getD 0 0, switch := b.getD 1 0, prot := prot, changes := readChanges (b.drop (4 + protLen)) }

/-! ## Entries of the tables (R171) -/

/-- R75: the code of a selector. -/
def Selector.code : Selector → Nat
  | .none => 0
  | .type => 1
  | .vlan => 2
  | .prio => 3
  | .destLow => 4
  | .word => 5

/-- R75: the selector of a code. -/
def Selector.ofCode : Nat → Option Selector
  | 0 => some .none
  | 1 => some .type
  | 2 => some .vlan
  | 3 => some .prio
  | 4 => some .destLow
  | 5 => some .word
  | _ => none

/-- R171: the code of an action. -/
def Action.code : Action → Nat
  | .queue => 0
  | .drop => 1
  | .count => 2

/-- R171: the action of a code. -/
def Action.ofCode : Nat → Option Action
  | 0 => some .queue
  | 1 => some .drop
  | 2 => some .count
  | _ => none

/-- R171: a match field, 8 bytes. -/
def matchFieldBytes (m : MatchField) : Bytes :=
  u8 m.selector.code ++ u8 m.offset ++ u16 m.value.toNat ++ u16 m.mask.toNat ++ zeros 2

/-- R171: a CLASS entry, 32 bytes. -/
def classEntryBytes (e : ClassEntry) : Bytes :=
  flagByte e.valid ++ u8 e.action.code ++ u8 e.queue.num ++ u8 0 ++ matchFieldBytes e.matchA ++
    matchFieldBytes e.matchB ++ u32 e.hits ++ zeros 8

/-- R76: the offset a selector may have: an even one in 14..126 for WORD, 0 for any other. -/
def offsetAllowed (sel : Selector) (offset : Nat) : Bool :=
  match sel with
  | .word => offset % 2 == 0 && 14 ≤ offset && offset ≤ 126
  | .none => offset == 0
  | .type => offset == 0
  | .vlan => offset == 0
  | .prio => offset == 0
  | .destLow => offset == 0

/-- R76, R171: the match field at an offset of an entry, unless it is malformed. -/
def readMatchField (b : Bytes) (at_ : Nat) : Option MatchField :=
  match Selector.ofCode (byteAt b at_) with
  | none => none
  | some sel =>
    if offsetAllowed sel (byteAt b (at_ + 1)) then
      some { selector := sel, offset := byteAt b (at_ + 1), value := BitVec.ofNat 16 (field16 b (at_ + 2)),
             mask := BitVec.ofNat 16 (field16 b (at_ + 4)) }
    else none

/-- R76, R171: a written CLASS entry, unless it is malformed; its hit count becomes 0. -/
def readClassEntry (b : Bytes) : Option ClassEntry :=
  match Action.ofCode (byteAt b 1), Ix4.ofNum (byteAt b 2), readMatchField b 4, readMatchField b 12 with
  | some act, some q, some ma, some mb =>
    some { valid := byteAt b 0 ≠ 0, matchA := ma, matchB := mb, action := act, queue := q, hits := 0 }
  | _, _, _, _ => none

/-- R171: the code of a message field's direction. -/
def WatchDirection.code : WatchDirection → Nat
  | .none => 0
  | .inbound => 1
  | .outbound => 2
  | .any => 3

/-- R171: the direction of a code. -/
def WatchDirection.ofCode : Nat → Option WatchDirection
  | 0 => some .none
  | 1 => some .inbound
  | 2 => some .outbound
  | 3 => some .any
  | _ => none

/-- R171: a message field, 3 bytes; no class or kind is ANY, code 0. -/
def messageFieldBytes (f : MessageField) : Bytes :=
  u8 f.direction.code ++ u8 (match f.cls with | none => 0 | some c => c.code) ++
    u8 (match f.kind with | none => 0 | some k => k.code)

/-- R171: the message field at an offset of an entry, unless a code is not listed. -/
def readMessageField (b : Bytes) (at_ : Nat) : Option MessageField :=
  let c := byteAt b (at_ + 1)
  let k := byteAt b (at_ + 2)
  match WatchDirection.ofCode (byteAt b at_) with
  | none => none
  | some d =>
    if c ≠ 0 ∧ MsgClass.ofCode c = none then none
    else if k ≠ 0 ∧ MsgKind.ofCode k = none then none
    else some { direction := d, cls := MsgClass.ofCode c, kind := MsgKind.ofCode k }

/-- R171: a WATCH entry, 24 bytes. -/
def watchBytes (w : Watch) : Bytes :=
  (match w.source with
    | .event k => u8 1 ++ u8 k.num ++ zeros 6
    | .message a b => u8 1 ++ u8 0 ++ messageFieldBytes a ++ messageFieldBytes b
    | .edge c => u8 2 ++ u8 c.code ++ zeros 6
    | .time c => u8 3 ++ u8 c.code ++ zeros 6) ++
    u32 w.threshold ++ u32 w.count ++ zeros 8

/-- R145, R171: the source of a written WATCH entry, unless its mode or source is not one the manual names. The message
fields are read only for a message source. -/
def readWatchSource (b : Bytes) : Option WatchSource :=
  match byteAt b 0 with
  | 1 =>
    if byteAt b 1 = 0 then
      match readMessageField b 2, readMessageField b 5 with
      | some x, some y => some (.message x y)
      | _, _ => none
    else (Kind.ofNum (byteAt b 1)).map WatchSource.event
  | 2 => (Condition.ofCode (byteAt b 1)).map WatchSource.edge
  | 3 => (Condition.ofCode (byteAt b 1)).map WatchSource.time
  | _ => none

/-- R145: a written WATCH entry; its count becomes 0. -/
def readWatch (b : Bytes) : Option Watch :=
  (readWatchSource b).map fun src => { source := src, threshold := field b 8 4, count := 0 }

/-- R171: a CADENCE entry: its four segments, an on time and an off time of two bytes each. -/
def cadenceBytes (e : List Segment) : Bytes := e.flatMap fun g => u16 g.on ++ u16 g.off

/-- R171: the four segments of a written CADENCE entry. -/
def readCadence (b : Bytes) : List Segment :=
  (List.range 4).map fun i => { on := field16 b (4 * i), off := field16 b (4 * i + 2) }

/-- R108: every segment after the first (0, 0) is (0, 0) too. -/
def cadenceTailEmpty : List Segment → Bool
  | [] => true
  | g :: rest => if g = ⟨0, 0⟩ then rest.all (· == ⟨0, 0⟩) else cadenceTailEmpty rest

/-- R108: a CADENCE entry that a write may store. -/
def cadenceAllowed (e : List Segment) : Bool := e.all (fun g => g.on ≤ 400 && g.off ≤ 400) && cadenceTailEmpty e

/-- R108: the list of an entry ends at its first (0, 0) segment. -/
def cadenceList : List Segment → List Segment
  | [] => []
  | g :: rest => if g = ⟨0, 0⟩ then [] else g :: cadenceList rest

/-- R108: an entry is valid when a segment of its list has an on time above 0. -/
def cadenceValid (e : List Segment) : Bool := (cadenceList e).any fun g => 0 < g.on

/-! ## The parameter table (R176) -/

/-- R176: a numeric entry, 8 bytes. -/
def numEntry (v : Int) : Bytes := i32 v ++ zeros 4

/-- R176: a mask entry. -/
def maskEntry (m : KindSet) : Bytes := m.bytes ++ zeros 4

/-- R176: an address entry. -/
def addressEntry (a : Address) : Bytes := addressBytes a ++ zeros 2

/-- R176: the parameter at an index, as its entry of 8 bytes. -/
def Params.entry (p : Params) : Nat → Bytes
  | 0 => numEntry p.trainTimeout
  | 1 => numEntry p.holdoff
  | 2 => numEntry p.silenceCount
  | 3 => numEntry p.reloadEnable
  | 4 => numEntry p.mLow
  | 5 => numEntry p.mTarget
  | 6 => numEntry p.mDrop
  | 7 => numEntry p.cadenceTol
  | 8 => numEntry p.guardMargin
  | 9 => numEntry p.providerCap
  | 10 => numEntry p.voiceShare
  | 11 => numEntry p.supplyCap.mains
  | 12 => numEntry p.supplyCap.lifeline
  | 13 => numEntry p.supplyCap.reserve
  | 14 => numEntry p.loadCeiling.mains
  | 15 => numEntry p.loadCeiling.lifeline
  | 16 => numEntry p.loadCeiling.reserve
  | 17 => numEntry p.shed.mains
  | 18 => numEntry p.shed.lifeline
  | 19 => numEntry p.shed.reserve
  | 20 => numEntry p.port2Feed.mains
  | 21 => numEntry p.port2Feed.lifeline
  | 22 => numEntry p.port2Feed.reserve
  | 23 => numEntry p.defaultQueue
  | 24 => numEntry p.qLimit.i0
  | 25 => numEntry p.qLimit.i1
  | 26 => numEntry p.qLimit.i2
  | 27 => numEntry p.qLimit.i3
  | 28 => numEntry p.qWeight.q1
  | 29 => numEntry p.qWeight.q2
  | 30 => numEntry p.qWeight.q3
  | 31 => numEntry p.ageLimit
  | 32 => numEntry p.hookDebounce
  | 33 => numEntry p.flashMax
  | 34 => numEntry p.interdigit
  | 35 => numEntry p.jitterTarget
  | 36 => numEntry p.sesThreshold
  | 37 => maskEntry p.noticeMask
  | 38 => maskEntry p.wakeMask
  | 39 => maskEntry p.farMask
  | 40 => numEntry p.noticeInterval
  | 41 => numEntry p.farReportEvery
  | 42 => addressEntry p.manager
  | 43 => addressEntry p.station
  | _ => []

/-- R163, R176: a written numeric value, clamped to its range by signed comparison. -/
def clampTo (lo hi : Int) (b : Bytes) : Int := max lo (min hi (signed32 (field b 0 4)))

/-- `clampTo` for a range that lies at or above 0. -/
def clampNat (lo hi : Nat) (b : Bytes) : Nat := (clampTo lo hi b).toNat

/-- R167, R176: a written mask; the bits of value 2^20 and above are cleared. -/
def readMask (b : Bytes) : KindSet := BitVec.ofNat 20 (field b 0 4)

/-- R163: a written address, the group bit of its first byte cleared. -/
def readAddress (b : Bytes) : Address := addressAt b 0 &&& ~~~(0x010000000000 : Address)

/-- R163, R176: the parameter table after one entry of 8 bytes is written at an index. -/
def Params.store (p : Params) (i : Nat) (b : Bytes) : Params :=
  match i with
  | 0 => { p with trainTimeout := clampNat 10 255 b }
  | 1 => { p with holdoff := clampNat 1 255 b }
  | 2 => { p with silenceCount := clampNat 2 63 b }
  | 3 => { p with reloadEnable := clampNat 0 1 b }
  | 4 => { p with mLow := clampTo (-40) 40 b }
  | 5 => { p with mTarget := clampTo 0 60 b }
  | 6 => { p with mDrop := clampTo (-80) 0 b }
  | 7 => { p with cadenceTol := clampNat 1 16 b }
  | 8 => { p with guardMargin := clampNat 0 4 b }
  | 9 => { p with providerCap := clampNat 100 48000 b }
  | 10 => { p with voiceShare := clampNat 1 16 b }
  | 11 => { p with supplyCap := { p.supplyCap with mains := clampNat 100 48000 b } }
  | 12 => { p with supplyCap := { p.supplyCap with lifeline := clampNat 100 48000 b } }
  | 13 => { p with supplyCap := { p.supplyCap with reserve := clampNat 100 48000 b } }
  | 14 => { p with loadCeiling := { p.loadCeiling with mains := clampNat 0 3072 b } }
  | 15 => { p with loadCeiling := { p.loadCeiling with lifeline := clampNat 0 3072 b } }
  | 16 => { p with loadCeiling := { p.loadCeiling with reserve := clampNat 0 3072 b } }
  | 17 => { p with shed := { p.shed with mains := clampNat 0 3 b } }
  | 18 => { p with shed := { p.shed with lifeline := clampNat 0 3 b } }
  | 19 => { p with shed := { p.shed with reserve := clampNat 0 3 b } }
  | 20 => { p with port2Feed := { p.port2Feed with mains := clampNat 0 1 b } }
  | 21 => { p with port2Feed := { p.port2Feed with lifeline := clampNat 0 1 b } }
  | 22 => { p with port2Feed := { p.port2Feed with reserve := clampNat 0 1 b } }
  | 23 => { p with defaultQueue := clampNat 0 3 b }
  | 24 => { p with qLimit := { p.qLimit with i0 := clampNat 16 1024 b } }
  | 25 => { p with qLimit := { p.qLimit with i1 := clampNat 16 1024 b } }
  | 26 => { p with qLimit := { p.qLimit with i2 := clampNat 16 1024 b } }
  | 27 => { p with qLimit := { p.qLimit with i3 := clampNat 16 1024 b } }
  | 28 => { p with qWeight := { p.qWeight with q1 := clampNat 1 15 b } }
  | 29 => { p with qWeight := { p.qWeight with q2 := clampNat 1 15 b } }
  | 30 => { p with qWeight := { p.qWeight with q3 := clampNat 1 15 b } }
  | 31 => { p with ageLimit := clampNat 1 50 b }
  | 32 => { p with hookDebounce := clampNat 5 50 b }
  | 33 => { p with flashMax := clampNat 200 1000 b }
  | 34 => { p with interdigit := clampNat 200 800 b }
  | 35 => { p with jitterTarget := clampNat 1 6 b }
  | 36 => { p with sesThreshold := clampNat 1 4000 b }
  | 37 => { p with noticeMask := readMask b }
  | 38 => { p with wakeMask := readMask b }
  | 39 => { p with farMask := readMask b }
  | 40 => { p with noticeInterval := clampNat 0 255 b }
  | 41 => { p with farReportEvery := clampNat 1 255 b }
  | 42 => { p with manager := readAddress b }
  | 43 => { p with station := readAddress b }
  | _ => p

/-- R176: the entries of table PARAM. -/
def paramCount : Nat := 44

/-- R168: the entry size of a table. -/
def entrySize : Nat → Nat
  | 1 => 32
  | 2 => 2
  | 3 => 1
  | 4 => 1
  | 5 => 16
  | 6 => 8
  | 7 => 64
  | 8 => 24
  | _ => 0

/-- A run of `count` entries cut into entries of `size` bytes. -/
def cutEntries (size : Nat) : Nat → Bytes → List Bytes
  | 0, _ => []
  | count + 1, b => b.take size :: cutEntries size count (b.drop size)

end Sys2Proof.Machine
end

