-- ==== Sys2Proof/Machine/Ops.lean ====
section
/-! DEFINITION. The operations every block uses: counting, sending to the transceiver, the management egress queue and
the home port (R83, R84), taking an occurrence and raising it (R148), notices (R150), watches (R145, R146) and MQ
(R93). -/

namespace Sys2Proof.Machine

/-! ## Changing one block -/

def State.modTime (s : State) (f : TimeBase → TimeBase) : State := s.setTime (f s.time)
def State.modLine (s : State) (f : LinePort → LinePort) : State := s.setLine (f s.line)
def State.modLoad (s : State) (f : Loading → Loading) : State := s.setLoad (f s.load)
def State.modTrack (s : State) (f : Tracker → Tracker) : State := s.setTrack (f s.track)
def State.modCls (s : State) (f : Classifier → Classifier) : State := s.setCls (f s.cls)
def State.modSch (s : State) (f : Scheduler → Scheduler) : State := s.setSch (f s.sch)
def State.modMon (s : State) (f : Monitor → Monitor) : State := s.setMon (f s.mon)
def State.modEvt (s : State) (f : EventUnit → EventUnit) : State := s.setEvt (f s.evt)
def State.modAgent (s : State) (f : Agent → Agent) : State := s.setAgent (f s.agent)
def State.modOut (s : State) (f : Outputs → Outputs) : State := s.setOut (f s.out)

/-! ## Reading the state -/

/-- The parameter table (R176). -/
def State.params (s : State) : Params := s.agent.params

/-- The line is in RUN (R6). -/
def State.inRun (s : State) : Bool := s.line.state == .run

/-- R113: a port is fed unless it is UNFED. -/
def PhonePort.fed (p : PhonePort) : Bool := p.state != .unfed

/-- R103, R167: the code of the hook state a port reports: ON-HOOK 0, OFF-HOOK 1, UNFED 2. -/
def PhonePort.hookCode (p : PhonePort) : Nat :=
  match p.state with
  | .onHook => 0
  | .ringing => 0
  | .offHook => 1
  | .inBreak => 1
  | .unfed => 2

/-- R146: the condition holds. -/
def conditionHolds (s : State) : Condition → Bool
  | .lineRun => s.inRun
  | .bindingSupply => s.rate.binding == .supply
  | .bindingProvider => s.rate.binding == .provider
  | .bindingLine => s.rate.binding == .line
  | .guardArmed => s.track.sched.rx.isSome || s.track.sched.tx.isSome
  | .cadenceLocked => s.track.lock.isSome
  | .onBattery => s.supply.mode != .mains
  | .port1OffHook => s.phone.ports.one.hookCode == 1
  | .port2OffHook => s.phone.ports.two.hookCode == 1

/-! ## Counting (R142) -/

def State.countLine (s : State) (f : LineCounters → LineCounters) : State :=
  s.modMon fun m => { m with line := f m.line }

def State.countTraffic (s : State) (f : TrafficCounters → TrafficCounters) : State :=
  s.modMon fun m => { m with traffic := f m.traffic }

def State.countCls (s : State) (f : ClassifierCounts → ClassifierCounts) : State :=
  s.countTraffic fun t => { t with cls := f t.cls }

def State.countSch (s : State) (f : SchedulerCounts → SchedulerCounts) : State :=
  s.countTraffic fun t => { t with sch := f t.sch }

def State.countVoice (s : State) (f : VoiceCounters → VoiceCounters) : State :=
  s.modMon fun m => { m with voice := f m.voice }

def State.countPort (s : State) (p : PortId) (f : PortCounts → PortCounts) : State :=
  s.countVoice fun v => { v with ports := v.ports.set p (f (v.ports.get p)) }

/-- R129: a count kept per record and as a total. -/
def State.countCall (s : State) (p : PortId) (f : CallCounts → CallCounts) : State :=
  let r := s.voice.get p
  (s.setVoice (s.voice.set p { r with counts := f r.counts })).countVoice fun v => { v with totals := f v.totals }

def State.modInterval (s : State) (f : Interval → Interval) : State :=
  s.modMon fun m => { m with interval := f m.interval }

/-- One more on the count of one queue. -/
def Quad.inc (q : Quad Nat) (i : Ix4) : Quad Nat := q.set i (satInc (q.get i))

/-! ## The transceiver (R2) -/

/-- R2: a command goes to the transceiver, behind those sent before it. -/
def State.send (s : State) (c : BusCommand) : State :=
  s.modOut fun o => { o with commands := o.commands ++ [c] }

/-! ## The home port and the management egress queue (R83, R84) -/

/-- R84: a free port takes the oldest frame of the management egress queue, or else of the home egress queue. -/
def portTake (c : Classifier) : Classifier :=
  match c.sending, c.mgmtQueue, c.homeQueue with
  | none, f :: _, _ => { c with sending := some (.mgmt f) }
  | none, [], f :: _ => { c with sending := some (.home f) }
  | _, _, _ => c

/-- R83: a frame offered to the management egress queue joins it, unless 8 frames are waiting. -/
def mgmtOffer (f : MgmtFrame) (s : State) : Option State :=
  if s.cls.mgmtQueue.length < Config.mgmtQueueDepth then
    some (s.modCls fun c => portTake { c with mgmtQueue := c.mgmtQueue ++ [f] })
  else none

/-! ## Notices (R150, R151, R165) -/

/-- R150, R168: what a notice carries. -/
def noticeBody (s : State) : Bytes :=
  KindSet.bytes (s.evt.pending &&& s.params.noticeMask) ++ u8 s.line.state.code ++ u8 s.supply.mode.code ++
    u8 s.phone.ports.one.hookCode ++ u8 s.phone.ports.two.hookCode

/-- R165: where a notice is sent. -/
def noticeDestination (s : State) : Address :=
  if s.params.manager ≠ 0 then s.params.manager else s.agent.lastSource.getD Config.broadcast

/-- R150, R168: the notice as a frame. -/
def noticeFrame (s : State) : MgmtFrame :=
  { bytes := managementFrame (noticeDestination s) s.params.station noticeKind 0 0 (noticeBody s), partReply := false }

/-- R150: a notice is owed and may be offered. -/
def noticeOwed (s : State) : Bool :=
  s.evt.noticeDue != 0 && !s.evt.asleep && !s.evt.wakePin && s.evt.pacing == .ready

/-- R150, R151: an owed notice is offered; pacing follows from whether it is taken. -/
def offerNotice (s : State) : State :=
  if noticeOwed s then
    match mgmtOffer (noticeFrame s) s with
    | some t =>
      t.modEvt fun e =>
        { e with noticeDue := 0, pacing := if s.params.noticeInterval = 0 then .ready else .paced 0 false }
    | none => s.modEvt fun e => { e with pacing := .paced 0 true }
  else s

/-! ## Occurrences (R148, R153, R154) -/

/-- R154: the record of an occurrence joins the log; the oldest leaves a full log and is counted. -/
def writeLog (e : Event) (s : State) : State :=
  let r : LogRecord :=
    { stamp := s.mon.seconds, kind := e.kind, line := s.line.state, mode := s.supply.mode, detailA := e.a,
      detailB := e.b }
  s.modEvt fun v =>
    if v.log.length < Config.logCapacity s.agent.partition then { v with log := v.log ++ [r] }
    else { v with log := v.log.drop 1 ++ [r], overwritten := satInc v.overwritten }

/-- R148: whether an occurrence writes a log record, from whether its flag was set before it. -/
def logsNow (k : Kind) (wasSet : Bool) : Bool :=
  match k.logged with
  | .no => false
  | .each => true
  | .onSet => !wasSet

/-- R148, R153: the flag, the two sets and the wake that an occurrence brings. -/
def markEvent (k : Kind) (p : Params) (e : EventUnit) : EventUnit :=
  let wakes := p.wakeMask.has k && e.asleep
  { e with
    pending := e.pending.insert k
    farPending := if p.farMask.has k then e.farPending.insert k else e.farPending
    noticeDue := if p.noticeMask.has k then e.noticeDue.insert k else e.noticeDue
    asleep := if wakes then false else e.asleep
    wakePin := if wakes then true else e.wakePin }

/-- R148: the event unit takes an occurrence whole; its watches are counted by `raiseAt`. -/
def takeOccurrence (e : Event) (s : State) : State :=
  let wasSet := s.evt.pending.has e.kind
  let t := s.modEvt (markEvent e.kind s.params)
  if logsNow e.kind wasSet then writeLog e t else t

/-! ## Watches (R145, R146) -/

/-- R146: one more on a watch's count. -/
def countWatch (i : Ix4) (s : State) : State :=
  let w := s.mon.watches.get i
  s.modMon fun m => { m with watches := m.watches.set i { w with count := satInc w.count } }

/-- R146: the next count of a watch is its nonzero threshold and is reached by increasing. -/
def watchCrosses (w : Watch) : Bool :=
  satInc w.count != w.count && w.threshold != 0 && satInc w.count == w.threshold

/-- Every watch whose source `p` holds of counts once, and raises WATCH through `raiseWatch` when it crosses. That the
watches are taken by ascending index, and the WATCH of one is followed to its end before the next is counted, is the
model's choice (R148 lets either of two come first; log entry 24). -/
def fireWith (raiseWatch : Event → State → State) (p : WatchSource → Bool) (s : State) : State :=
  Ix4.all.foldl
    (fun t i =>
      let w := t.mon.watches.get i
      if p w.source then
        if watchCrosses w then raiseWatch (.withA .watch i.num) (countWatch i t) else countWatch i t
      else t)
    s

/-- R148: an occurrence is taken, an owed notice offered, and the watches on its kind counted; a WATCH that this brings
is raised in the same way. That the notice is offered before those watches count, so that it does not carry their WATCH, is
the model's choice (R148 sets no order; log entry 24). The first argument bounds the chain of R146: each of the four
watches crosses at most once, so five is never reached. -/
def raiseAt : Nat → Event → State → State
  | 0, _, s => s
  | n + 1, e, s => fireWith (raiseAt n) (fun src => src == .event e.kind) (offerNotice (takeOccurrence e s))

/-- R148: a block raises an occurrence. -/
def raise (e : Event) (s : State) : State := raiseAt 5 e s

/-- R146: a condition is entered. -/
def enterCondition (c : Condition) (s : State) : State := fireWith raise (fun src => src == .edge c) s

/-- R146: at a 1 s tick the watches in TIME mode count whose condition holds. -/
def countTimeWatches (s : State) : State :=
  fireWith raise
    (fun src => match src with
      | .time c => conditionHolds s c
      | .event _ => false
      | .message _ _ => false
      | .edge _ => false)
    s

/-- R145: a message field matches a message in a direction. -/
def MessageField.admits (f : MessageField) (inbound : Bool) (k : MsgKind) : Bool :=
  (match f.direction with
    | .none => false
    | .inbound => inbound
    | .outbound => !inbound
    | .any => true) &&
  (match f.cls with
    | .none => true
    | .some c => c == k.cls) &&
  (match f.kind with
    | .none => true
    | .some x => x == k)

/-- R145: the watches see a line management message; one matching both fields counts once. -/
def seeMessage (inbound : Bool) (k : MsgKind) (s : State) : State :=
  fireWith raise
    (fun src => match src with
      | .message a b => a.admits inbound k || b.admits inbound k
      | .event _ => false
      | .edge _ => false
      | .time _ => false)
    s

/-! ## MQ (R93) -/

/-- R93: a message of class REPORT or QUERY gives way. -/
def MsgClass.givesWay : MsgClass → Bool
  | .load => false
  | .supply => false
  | .report => true
  | .query => true

/-- R93: MQ without its oldest REPORT or QUERY message, if it holds one. -/
def dropOldestReport : List Message → Option (List Message)
  | [] => none
  | m :: rest => if m.kind.cls.givesWay then some rest else (dropOldestReport rest).map (m :: ·)

/-- R93: a message is offered to MQ. The offering block is told only of a refusal, which is the line not being in RUN. -/
def mqOffer (m : Message) (s : State) : State :=
  if !s.inRun then s.countSch fun c => { c with refused := satInc c.refused }
  else if s.sch.mq.length < Config.mqDepth then s.modSch fun q => { q with mq := q.mq ++ [m] }
  else if m.kind.cls.givesWay then s.countSch fun c => { c with discardedReport := satInc c.discardedReport }
  else
    match dropOldestReport s.sch.mq with
    | some rest =>
      (s.modSch fun q => { q with mq := rest ++ [m] }).countSch fun c => { c with evicted := satInc c.evicted }
    | none => s.countSch fun c => { c with discardedLoad := satInc c.discardedLoad }

end Sys2Proof.Machine
end

