-- ==== Sys2Proof/Machine/Queues.lean ====
section
/-! DEFINITION. The line scheduler's queues (R86 to R92, R98): admission, limits, staleness, shedding, VQ, and what
leaving RUN and the resets do to them. -/

namespace Sys2Proof.Machine

/-! ## Data queues (R86, R87) -/

/-- R86: the size of a frame in units. -/
def FrameRec.units (f : FrameRec) : Nat := unitsOf f.bytes.length

/-- R86: the occupancy of a queue, in units. -/
def occupancy (q : List FrameRec) : Nat := (q.map FrameRec.units).sum

/-- R86: the pool occupancy. -/
def poolOccupancy (q : Quad (List FrameRec)) : Nat := occupancy q.i0 + occupancy q.i1 + occupancy q.i2 + occupancy q.i3

/-- R90: the queues shed at a level. -/
def shedAt (level : Nat) : Ix4 → Bool
  | .i0 => false
  | .i1 => 3 ≤ level
  | .i2 => 2 ≤ level
  | .i3 => 1 ≤ level

/-- R87: a frame handed over for a queue is admitted or dropped at once. -/
def admitFrame (i : Ix4) (frame : Bytes) (s : State) : State :=
  let q := s.sch.queues.get i
  let size := unitsOf frame.length
  if shedAt s.sch.shedLevel i then s.countSch fun c => { c with shed := c.shed.inc i }
  else if occupancy q + size > s.params.qLimit.get i then s.countSch fun c => { c with tailDropped := c.tailDropped.inc i }
  else if poolOccupancy s.sch.queues + size > Config.poolUnits then
    s.countSch fun c => { c with tailDropped := c.tailDropped.inc i }
  else
    (s.modSch fun x =>
      { x with queues := x.queues.set i (q ++ [{ bytes := frame, arrival := s.time.ms, sent := 0 }]) }).countSch
        fun c => { c with admitted := c.admitted.inc i }

/-- `k` more on the count of one queue. -/
def Quad.addAt (q : Quad Nat) (i : Ix4) (k : Nat) : Quad Nat := q.set i (satAdd (q.get i) k)

/-! ## Limits (R88) -/

/-- R88: the frames of a queue held newest first that stay when it must come within a limit. -/
def trimNewest (limit : Nat) : List FrameRec → List FrameRec
  | [] => []
  | f :: rest => if occupancy (f :: rest) ≤ limit then f :: rest else trimNewest limit rest

/-- R88: the frames of a queue that stay under a limit. -/
def keptWithin (limit : Nat) (q : List FrameRec) : List FrameRec := (trimNewest limit q.reverse).reverse

/-- R86: the data frame in progress is in this queue. -/
def Scheduler.progressIn (x : Scheduler) (i : Ix4) : Bool := x.inProgress == some i

/-- R88: a written limit of a queue takes effect. -/
def applyLimit (i : Ix4) (s : State) : State :=
  let q := s.sch.queues.get i
  let kept := keptWithin (s.params.qLimit.get i) q
  let cut := s.sch.progressIn i && kept.isEmpty && !q.isEmpty
  (s.modSch fun x =>
    { x with queues := x.queues.set i kept, inProgress := if cut then none else x.inProgress }).countSch fun c =>
      { c with tailDropped := c.tailDropped.addAt i (q.length - kept.length)
               cut := if cut then satInc c.cut else c.cut }

/-! ## Staleness (R89) -/

/-- R89: a frame is stale when its age is above AGE-LIMIT × 100 ms. -/
def FrameRec.stale (f : FrameRec) (now : Word32) (ageLimit : Nat) : Bool := (now - f.arrival).toNat > ageLimit * 100

/-- R89: stale heads of a queue are discarded; the data frame in progress is not tested. -/
def dropStale (i : Ix4) (s : State) : State :=
  if s.sch.progressIn i then s
  else
    let q := s.sch.queues.get i
    let kept := q.dropWhile fun f => f.stale s.time.ms s.params.ageLimit
    (s.modSch fun x => { x with queues := x.queues.set i kept }).countSch fun c =>
      { c with stale := c.stale.addAt i (q.length - kept.length) }

/-- R89: the sweep at the 1 s tick. -/
def staleSweep (s : State) : State := Ix4.all.foldl (fun t i => dropStale i t) s

/-! ## Shedding (R90) -/

/-- The queue of the round robin that a data queue is. -/
def Ix4.drr : Ix4 → Option Drr
  | .i0 => none
  | .i1 => some .q1
  | .i2 => some .q2
  | .i3 => some .q3

/-- R90: a queue that becomes shed is flushed, its frames counted, and its deficit becomes 0. -/
def flushShed (i : Ix4) (s : State) : State :=
  let q := s.sch.queues.get i
  let cut := s.sch.progressIn i
  (s.modSch fun x =>
    { x with
      queues := x.queues.set i []
      inProgress := if cut then none else x.inProgress
      deficit := match i.drr with
        | some d => x.deficit.set d 0
        | none => x.deficit }).countSch fun c =>
      { c with shed := c.shed.addAt i q.length, cut := if cut then satInc c.cut else c.cut }

/-- R90: the shedding level in force is set; the queues newly shed are flushed. -/
def setShedLevel (level : Nat) (s : State) : State :=
  let old := s.sch.shedLevel
  let t := s.modSch fun x => { x with shedLevel := level }
  Ix4.all.foldl (fun t i => if shedAt level i && !shedAt old i then flushShed i t else t) t

/-! ## VQ (R91, R92) -/

/-- R91: the frames of a record in VQ. -/
def vqOf (vq : List VqFrame) (p : PortId) : List VqFrame := vq.filter fun f => f.port == p

/-- R91: VQ without a record's oldest frame that has not been started. -/
def dropOldestUnstarted (p : PortId) (vq : List VqFrame) : List VqFrame := vq.eraseP fun f => f.port == p && !f.started

/-- R91, R100, R129: a VQ drop of a record is counted in the voice group and in the record's call counts. -/
def countVqDrop (p : PortId) (s : State) : State :=
  (s.countCall p fun c => { c with vqDrops := satInc c.vqDrops }).countVoice fun v =>
    { v with vqDrops := v.vqDrops.set p (satInc (v.vqDrops.get p)) }

/-- R91: a record's fifth frame removes its oldest unstarted one: a VQ drop, and VOICE-LOSS. -/
def vqDrop (p : PortId) (s : State) : State :=
  raise (.withA .voiceLoss (portNum p)) <|
    (countVqDrop p (s.modSch fun x => { x with vq := dropOldestUnstarted p x.vq })).modInterval fun r =>
      { r with voiceLost := satInc r.voiceLost }

/-- R91: a record's assembled frame is offered to VQ. -/
def vqOffer (f : VqFrame) (s : State) : State :=
  let t := if (vqOf s.sch.vq f.port).length < Config.vqPerRecord then s else vqDrop f.port s
  t.modSch fun x => { x with vq := x.vq ++ [f] }

/-- R92: every VQ frame of a record is removed, without a count. -/
def vqRemove (p : PortId) (s : State) : State :=
  s.modSch fun x => { x with vq := x.vq.filter fun f => f.port != p }

/-! ## Leaving RUN and the resets (R98, R99) -/

/-- R98: the data frame in progress is to start again from its first unit. -/
def restartProgress (x : Scheduler) : Scheduler :=
  match x.inProgress with
  | none => x
  | some i =>
    { x with
      inProgress := none
      queues := x.queues.set i (match x.queues.get i with
        | [] => []
        | f :: rest => { f with sent := 0 } :: rest) }

/-- VQ, MQ and the slot emptied. -/
def emptyLineQueues (x : Scheduler) : Scheduler := { x with vq := [], mq := [], slot := none }

/-- R98: what the line-down event does to the scheduler. -/
def schedulerLineDown (s : State) : State :=
  let x := s.sch
  let messages := x.mq.length + (if x.slot.isSome then 1 else 0)
  ((s.setSch (emptyLineQueues (restartProgress x))).countVoice fun v =>
    { v with vqFlushed := satAdd v.vqFlushed x.vq.length }).countSch fun c =>
      { c with flushed := satAdd c.flushed messages }

/-- R99: a LINE reset of the scheduler. -/
def schedulerLineReset (s : State) : State := s.modSch fun x => emptyLineQueues (restartProgress x)

/-- R99: a TRAFFIC reset of the scheduler; the shedding level in force stays (R90). -/
def schedulerTrafficReset (s : State) : State := s.modSch fun x => Scheduler.reset x.shedLevel

end Sys2Proof.Machine
end

