-- ==== Sys2Proof/Machine/Pull.lean ====
section
/-! DEFINITION. The answer to a pull (R18, R94 to R97). -/

namespace Sys2Proof.Machine

/-- R95: a unit given takes 1000 from the credit. -/
def payUnit (x : Scheduler) : Scheduler := { x with credit := x.credit - Config.unitCredit }

/-! ## Selecting a data frame (R97) -/

/-- R97: the quantum of a queue of the round robin. -/
def quantum (p : Params) (d : Drr) : Nat := 8 * p.qWeight.get d

/-- R97: a queue of the round robin is shed or empty. -/
def idleQueue (x : Scheduler) (d : Drr) : Bool :=
  shedAt x.shedLevel d.queue || (x.queues.get d.queue).isEmpty

/-- R97: the turn passes on and the mark is cleared. -/
def passTurn (x : Scheduler) : Scheduler := { x with turn := x.turn.succ, mark := false }

/-- R97: the queue whose turn it is receives its quantum, unless it has received it in this turn. -/
def giveQuantum (p : Params) (x : Scheduler) : Scheduler :=
  if x.mark then x
  else { x with deficit := x.deficit.set x.turn (x.deficit.get x.turn + quantum p x.turn), mark := true }

/-- R97: one visit of the queue whose turn it is, once its stale heads are gone. -/
def drrVisit (p : Params) (x : Scheduler) : Scheduler :=
  if idleQueue x x.turn then passTurn { x with deficit := x.deficit.set x.turn 0 }
  else
    let y := giveQuantum p x
    match y.queues.get y.turn.queue with
    | [] => passTurn y
    | f :: _ =>
      if f.units ≤ y.deficit.get y.turn then
        { y with deficit := y.deficit.set y.turn (y.deficit.get y.turn - f.units), inProgress := some y.turn.queue }
      else passTurn y

/-- R97: visits are repeated until a frame is selected or Q1, Q2 and Q3 are all shed or empty. The first argument bounds
the visits: a queue that is not empty gains at least 8 units on every turn and no frame is larger than 26, so a
frame is selected within 16 (log entry 20). -/
def drrSelect : Nat → State → State
  | 0, s => s
  | n + 1, s =>
    if idleQueue s.sch .q1 && idleQueue s.sch .q2 && idleQueue s.sch .q3 then
      s.modSch fun x => { x with deficit := ⟨0, 0, 0⟩, mark := false }
    else
      let t := if shedAt s.sch.shedLevel s.sch.turn.queue then s else dropStale s.sch.turn.queue s
      let u := t.modSch (drrVisit t.params)
      if u.sch.inProgress.isSome then u else drrSelect n u

/-- R97: a new data frame is selected: Q0 first, then the round robin. -/
def selectData (s : State) : State :=
  let t := dropStale .i0 s
  if (t.sch.queues.get .i0).isEmpty then drrSelect 64 t else t.modSch fun x => { x with inProgress := some .i0 }

/-! ## Giving a unit (R95, R96) -/

/-- R96: the next unit of the data frame in progress; with its last unit the frame leaves its queue. -/
def giveData (i : Ix4) (s : State) : State × Option Bytes :=
  match s.sch.queues.get i with
  | [] => (s, none)
  | f :: rest =>
    let unit := itemUnit .data 0 f.bytes f.sent
    let t := s.countSch fun c => { c with dataUnits := satInc c.dataUnits }
    if f.sent + 1 ≥ f.units then
      ((t.modSch fun x => payUnit { x with queues := x.queues.set i rest, inProgress := none }).countSch fun c =>
        { c with framesSent := c.framesSent.inc i }, some unit)
    else
      (t.modSch fun x => payUnit { x with queues := x.queues.set i ({ f with sent := f.sent + 1 } :: rest) }, some unit)

/-- R96: the next unit of a message; with its last unit the message leaves the slot, and the watches see it (R145). -/
def giveMessage (m : Message) (sent : Nat) (s : State) : State × Option Bytes :=
  let unit := itemUnit .manage 0 m.bytes sent
  let t := s.countSch fun c => { c with manageUnits := satInc c.manageUnits }
  if sent + 1 ≥ unitsOf m.bytes.length then
    (seeMessage false m.kind <| (t.modSch fun x => payUnit { x with slot := none }).countSch fun c =>
      { c with messagesSent := satInc c.messagesSent }, some unit)
  else (t.modSch fun x => payUnit { x with slot := some { msg := m, sent := sent + 1 } }, some unit)

/-- R95, R96: VQ's unit: the second of the frame in progress, or else the first of the oldest frame. -/
def giveVoice (s : State) : State × Option Bytes :=
  let t := s.countSch fun c => { c with voiceUnits := satInc c.voiceUnits }
  match s.sch.vq.find? (·.started) with
  | some f =>
    ((t.modSch fun x => payUnit { x with vq := x.vq.eraseP (·.started) }).countVoice fun v =>
      { v with framesSent := satInc v.framesSent }, some (itemUnit .voice f.stream f.bytes 1))
  | none =>
    match s.sch.vq with
    | [] => (s, none)
    | f :: rest =>
      (t.modSch fun x => payUnit { x with vq := { f with started := true } :: rest },
        some (itemUnit .voice f.stream f.bytes 0))

/-- R95: the data candidates: the frame in progress, or else a newly selected one. -/
def nextData (s : State) : State × Option Bytes :=
  match s.sch.inProgress with
  | some i => giveData i s
  | none =>
    let t := selectData s
    match t.sch.inProgress with
    | some i => giveData i t
    | none => (t, none)

/-- R95: the scheduler's answer when the line port asks for the next unit. -/
def nextUnit (s : State) : State × Option Bytes :=
  if s.sch.credit < Config.unitCredit then (s, none)
  else
    match s.sch.slot, s.sch.mq with
    | some x, _ => giveMessage x.msg x.sent s
    | none, m :: rest => giveMessage m 0 (s.modSch fun x => { x with mq := rest })
    | none, [] =>
      match s.sch.vq with
      | _ :: _ => giveVoice s
      | [] => nextData s

/-- R18: the line port's answer to a pull stands as the unit output. -/
def answerUnit (u : Bytes) (s : State) : State := s.modOut fun o => { o with unit := some u }

/-- R18, R100: a pull in RUN is answered with the scheduler's unit, or with a FILL unit that is counted; outside RUN
with a FILL unit, without asking the scheduler. -/
def pullUnit (s : State) : State :=
  if s.inRun then
    match nextUnit s with
    | (t, some u) => answerUnit u t
    | (t, none) => answerUnit fillUnit (t.countSch fun c => { c with fillUnits := satInc c.fillUnits })
  else answerUnit fillUnit s

end Sys2Proof.Machine
end

