-- ==== Sys2Proof/Machine/Reassembly.lean ====
section
/-! DEFINITION. Received units and their reassembly (R19, R20, R174): what a unit does to its context, what is counted,
and which step a completed frame makes due. -/

namespace Sys2Proof.Machine

/-- The contexts: DATA, MANAGE, and one for each voice stream 0..15 (R19). -/
inductive Lane where
  | data
  | manage
  | voice (stream : Nat)
  deriving DecidableEq, Repr

/-- R19: the longest frame of a channel. -/
def Lane.limit : Lane → Nat
  | .data => Config.maxFrame
  | .manage => Config.maxMessage
  | .voice _ => Config.voiceFrame

/-- What a unit does to its context: the context after it, what is counted, and the frame completed. -/
structure Taken where
  context  : Context
  damaged  : Bool := false
  broken   : Bool := false
  orphan   : Bool := false
  oversize : Bool := false
  frame    : Option Bytes := none
  deriving DecidableEq, Repr

/-- R19: bytes have been added to a frame: it is oversize, complete, or goes on. -/
def grow (limit : Nat) (held : Bytes) (last broken : Bool) : Taken :=
  if limit < held.length then { context := if last then .idle else .skipping, broken := broken, oversize := true }
  else if last then { context := .idle, broken := broken, frame := some held }
  else { context := .collecting held, broken := broken }

/-- R19: the table: a unit acts on its context by its marks and damage. -/
def takeUnit (limit : Nat) (ctx : Context) (damaged start last : Bool) (payload : Bytes) : Taken :=
  match ctx, damaged, start with
  | .idle, true, _ => { context := .idle }
  | .collecting _, true, _ => { context := .skipping, damaged := true }
  | .skipping, true, _ => { context := .skipping }
  | .idle, false, true => grow limit payload last false
  | .collecting _, false, true => grow limit payload last true
  | .skipping, false, true => grow limit payload last false
  | .idle, false, false => { context := .idle, orphan := true }
  | .collecting held, false, false => grow limit (held ++ payload) last false
  | .skipping, false, false => { context := if last then .idle else .skipping }

/-- R19: the context of a lane. -/
def LinePort.context (l : LinePort) : Lane → Context
  | .data => l.data
  | .manage => l.manage
  | .voice n => l.voice.getD n .idle

/-- R19: the context of a lane is replaced. -/
def LinePort.setContext (l : LinePort) (lane : Lane) (c : Context) : LinePort :=
  match lane with
  | .data => { l with data := c }
  | .manage => { l with manage := c }
  | .voice n => { l with voice := l.voice.set n c }

/-- R19: the counts of a context after a unit. -/
def ReassemblyCounts.after (r : ReassemblyCounts) (t : Taken) : ReassemblyCounts :=
  { damaged := if t.damaged then satInc r.damaged else r.damaged
    broken := if t.broken then satInc r.broken else r.broken
    orphan := if t.orphan then satInc r.orphan else r.orphan
    oversize := if t.oversize then satInc r.oversize else r.oversize }

/-- R19: the counts of DATA and MANAGE go to the traffic group, those of VOICE to the voice group. -/
def countTaken (lane : Lane) (t : Taken) (s : State) : State :=
  match lane with
  | .data => s.countTraffic fun c => { c with data := c.data.after t }
  | .manage => s.countTraffic fun c => { c with manage := c.manage.after t }
  | .voice _ => s.countVoice fun c => { c with reassembly := c.reassembly.after t }

/-- A step is made due, behind those due already. -/
def State.makeDue (s : State) (d : Due) : State := s.setDue (s.due ++ [d])

/-- R174: a malformed message is counted. -/
def countMalformed (s : State) : State := s.countTraffic fun c => { c with malformed := satInc c.malformed }

/-- R20, R174: a MANAGE frame that has been completed. -/
def handMessage (f : Bytes) (s : State) : State :=
  match readMessage f with
  | none => countMalformed s
  | some (k, tag, body) =>
    let t := seeMessage true k s
    match k with
    | .faultReport => t.countTraffic fun c => { c with inboundReports := satInc c.inboundReports }
    | .farAnswer => countMalformed t
    | .loadOffer => t.makeDue (.arrival (.message .loadOffer tag body))
    | .loadTake => t.makeDue (.arrival (.message .loadTake tag body))
    | .loadDecline => t.makeDue (.arrival (.message .loadDecline tag body))
    | .cutback => t.makeDue (.arrival (.message .cutback tag body))
    | .cutbackTaken => t.makeDue (.arrival (.message .cutbackTaken tag body))
    | .farQuery => t.makeDue (.arrival (.message .farQuery tag body))

/-- R20: a completed frame is handed on according to its channel. -/
def handOn (lane : Lane) (f : Bytes) (s : State) : State :=
  match lane with
  | .data => s.makeDue (.arrival (.data f))
  | .voice n =>
    if voiceStream f = n then s.makeDue (.arrival (.voice n f))
    else s.countVoice fun c => { c with reassembly := { c.reassembly with broken := satInc c.reassembly.broken } }
  | .manage => handMessage f s

/-- R19: the context a unit belongs to; a FILL unit belongs to none. -/
def laneOf : Channel → Nat → Option Lane
  | .fill, _ => none
  | .data, _ => some .data
  | .manage, _ => some .manage
  | .voice, n => some (.voice n)

/-- R19: a received unit. One delivered outside RUN is dropped without a count; one whose channel is not defined is
counted; a FILL unit is dropped; a count outside 1..60 makes a unit damaged. -/
def receiveUnit (u : Bytes) (damaged : Bool) (s : State) : State :=
  let h := unitHeader u
  if !s.inRun then s
  else
    match h.channel with
    | none => s.countTraffic fun c => { c with unknownChannel := satInc c.unknownChannel }
    | some ch =>
      match laneOf ch h.stream with
      | none => s
      | some lane =>
        let bad := damaged || h.count = 0 || decide (Config.unitPayload < h.count)
        let t := takeUnit lane.limit (s.line.context lane) bad h.start h.last (unitPayload u)
        let v := countTaken lane t (s.modLine fun l => l.setContext lane t.context)
        match t.frame with
        | none => v
        | some f => handOn lane f v

end Sys2Proof.Machine
end

