-- ==== Sys2Proof/Machine/Classify.lean ====
section
/-! DEFINITION. The classifier (chapter 5): the home port's arrivals, the class table, the downstream filter, and what the
home port does when it finishes a frame. -/

namespace Sys2Proof.Machine

/-! ## The class table (R74 to R78) -/

/-- R75: the frame value that a selector names, if the frame has one. That the priority is the top three bits of the tag,
and the VLAN id its low twelve, is taken from Ethernet's tagging (PRESUMED, log entry 26). -/
def frameValue (f : Bytes) (sel : Selector) (offset : Nat) : Option Nat :=
  match sel with
  | .none => none
  | .type => some (frameType f)
  | .vlan => if isTagged f then some (field16 f 14 % 4096) else none
  | .prio => some (if isTagged f then field16 f 14 / 8192 else 0)
  | .destLow => some (field16 f 4)
  | .word => if f.length < offset + 2 then none else some (field16 f offset)

/-- R75: a match field matches a frame. -/
def MatchField.admits (m : MatchField) (f : Bytes) : Bool :=
  match frameValue f m.selector m.offset with
  | .none => false
  | .some v => (BitVec.ofNat 16 v &&& m.mask) == (m.value &&& m.mask)

/-- R74: an entry matches a frame. -/
def ClassEntry.admits (e : ClassEntry) (f : Bytes) : Bool := e.matchA.admits f || e.matchB.admits f

/-- R78: what decides a data frame. -/
inductive Verdict where
  | queue (i : Ix4)
  | drop
  | defaulted
  deriving DecidableEq, Repr

/-- R78: the walk of the class table: the hit counts after it and the verdict. -/
def classWalk (f : Bytes) : List ClassEntry → List ClassEntry × Verdict
  | [] => ([], .defaulted)
  | e :: rest =>
    if e.valid && e.admits f then
      let hit := { e with hits := satInc e.hits }
      match e.action with
      | .queue => (hit :: rest, .queue e.queue)
      | .drop => (hit :: rest, .drop)
      | .count =>
        let r := classWalk f rest
        (hit :: r.1, r.2)
    else
      let r := classWalk f rest
      (e :: r.1, r.2)

/-- R79: a frame is handed to the line scheduler. -/
def handUpstream (i : Ix4) (f : Bytes) (s : State) : State :=
  admitFrame i f (s.countCls fun c => { c with upstream := satInc c.upstream })

/-- R78, R79: a data frame is classified. -/
def classifyFrame (f : Bytes) (s : State) : State :=
  let r := classWalk f s.cls.table
  let t := s.modCls fun c => { c with table := r.1 }
  match r.2 with
  | .queue i => handUpstream i f t
  | .drop => t.countCls fun c => { c with classDrop := satInc c.classDrop }
  | .defaulted =>
    handUpstream ((Ix4.ofNum s.params.defaultQueue).getD .i2) f
      (t.countCls fun c => { c with defaulted := satInc c.defaulted })

/-! ## Management frames (R73, R153) -/

/-- R153: a management frame joins the request queue: the pin is released, a sleeping host is awake, and the notices
withheld become owed. -/
def joinRequest (f : Bytes) (s : State) : State :=
  offerNotice <|
    (s.modAgent fun a =>
      { a with queue := a.queue ++ [Request.ofFrame f], lastSource := some (frameSource f) }).modEvt fun e =>
        { e with asleep := false, wakePin := false }

/-- R73: a management frame joins the request queue, or is refused or overflows. -/
def managementArrival (f : Bytes) (s : State) : State :=
  if s.params.manager ≠ 0 ∧ frameSource f ≠ s.params.manager then
    s.countCls fun c => { c with mgmtRefused := satInc c.mgmtRefused }
  else if s.agent.queue.length < Config.requestQueueDepth then joinRequest f s
  else s.countCls fun c => { c with mgmtOverflow := satInc c.mgmtOverflow }

/-- R72, R73: a frame arrives at the home port. -/
def homeArrival (f : Bytes) (fcsRight : Bool) (s : State) : State :=
  if !fcsRight then s.countCls fun c => { c with badCheck := satInc c.badCheck }
  else if f.length < Config.minFrame then s.countCls fun c => { c with runt := satInc c.runt }
  else if Config.maxFrame < f.length then s.countCls fun c => { c with giant := satInc c.giant }
  else if frameType f = Config.managementType then managementArrival f s
  else classifyFrame f s

/-! ## Downstream (R81, R82) -/

/-- R81, R82: a DATA frame from the line passes the downstream filter into the home egress queue, or is discarded. -/
def downstream (f : Bytes) (s : State) : State :=
  if f.length < 14 then s.countCls fun c => { c with downRunt := satInc c.downRunt }
  else if frameType f = Config.managementType then s.countCls fun c => { c with downMgmt := satInc c.downMgmt }
  else if s.cls.homeQueue.length < Config.homeQueueDepth then
    s.modCls fun c => portTake { c with homeQueue := c.homeQueue ++ [f] }
  else s.countCls fun c => { c with homeOverflow := satInc c.homeOverflow }

/-! ## The home port finishes a frame (R83, R84) -/

/-- R83: a reply that waits with the agent is offered again. -/
def offerWaiting (s : State) : State :=
  match s.agent.waiting with
  | none => s
  | some f =>
    match mgmtOffer f s with
    | some t => t.modAgent fun a => { a with waiting := none }
    | none => s

/-- R72, R84: a frame as it is sent: padded to 60 bytes, and with the frame check sequence of what is sent, whose value is
free (log entry 28). -/
def sentFrame (f : Bytes) : SentFrame :=
  let padded := padTo Config.minFrame f
  { bytes := padded, check := Config.frameCheck padded }

/-- R84: what has left the home port. -/
def emitHome (f : Bytes) (s : State) : State := s.modOut fun o => { o with homeFrame := some (sentFrame f) }

/-- R84: a management frame has been sent: it leaves its queue, a waiting reply is offered again (R83), and the port is
free for the next frame. The reply to a PART reset makes the reset due (R166), and the port waits for it. -/
def mgmtSent (f : MgmtFrame) (s : State) : State :=
  let t := (emitHome f.bytes s).countCls fun c => { c with mgmtSent := satInc c.mgmtSent }
  if f.partReply then
    (t.modCls fun c => { c with mgmtQueue := c.mgmtQueue.drop 1, sending := none }).setDue (t.due ++ [.partReset])
  else
    offerWaiting <| t.modCls fun c => portTake { c with mgmtQueue := c.mgmtQueue.drop 1, sending := none }

/-- R84: a frame of the home egress queue has been sent. -/
def homeSent (f : Bytes) (inQueue : Bool) (s : State) : State :=
  ((emitHome f s).countCls fun c => { c with homeSent := satInc c.homeSent }).modCls fun c =>
    portTake { c with homeQueue := if inQueue then c.homeQueue.drop 1 else c.homeQueue, sending := none }

/-- R84: the home port finishes sending the frame it is sending; a free port has none to finish. -/
def finishSending (s : State) : State :=
  match s.cls.sending with
  | none => s
  | some (.mgmt f) => mgmtSent f s
  | some (.home f) => homeSent f true s
  | some (.homeEmptied f) => homeSent f false s

/-- R82, R85: a TRAFFIC reset empties the home egress queue; a frame being sent is finished. -/
def homeTrafficReset (c : Classifier) : Classifier :=
  { c with
    homeQueue := []
    sending := match c.sending with
      | some (.home f) => some (.homeEmptied f)
      | some (.homeEmptied f) => some (.homeEmptied f)
      | some (.mgmt f) => some (.mgmt f)
      | none => none }

end Sys2Proof.Machine
end

