-- ==== Sys2Proof/Machine/Rate.lean ====
section
/-! DEFINITION. The rate unit (chapter 4): the five stages, when they run, and what entering a binding limit brings. -/

namespace Sys2Proof.Machine

/-- R50: the redundancy share of a level, in 32nds. -/
def Level.share : Level → Nat
  | .p0 => 0
  | .p1 => 2
  | .p2 => 4
  | .p3 => 8

/-- R61: the raw load of a table, in bits per symbol. -/
def rawOf (loads : List Nat) : Nat := 8 * loads.sum

/-- R62: the net load. -/
def netOf (raw : Nat) (l : Level) : Nat := raw * (32 - l.share) / 32

/-- R63: the line capacity of a net load, with a guard of period and width or without one. -/
def capacityOf (net : Nat) : Option (Nat × Nat) → Nat
  | none => 125 * net / 16
  | some (p, w) => 125 * net * (p - w) / (16 * p)

/-- A guard's period and width. -/
def Guard.shape (g : Guard) : Nat × Nat := (g.period, g.width)

/-- R64: the effective transmit capacity. -/
def effectiveTx (lineCap provider supply : Nat) : Nat := min lineCap (min provider supply)

/-- R64: the binding limit; of equal terms the first in the order SUPPLY, PROVIDER, LINE. -/
def bindingOf (lineCap provider supply : Nat) : Binding :=
  let m := effectiveTx lineCap provider supply
  if supply = m then .supply else if provider = m then .provider else .line

/-- R65: a voice allowance. -/
def allowanceOf (capacity share : Nat) : Nat := capacity * share / 16

/-- R61 to R67: the record that the tables, protection, line state, caps, mode and share in force give. -/
def rateRecord (s : State) : RateRecord :=
  let raw : Dirs Nat := ⟨rawOf s.load.rxLoads, rawOf s.load.txLoads⟩
  let net : Dirs Nat := ⟨netOf raw.rx s.load.prot.rx.level, netOf raw.tx s.load.prot.tx.level⟩
  if s.inRun then
    let cap : Dirs Nat :=
      ⟨capacityOf net.rx (s.load.prot.rx.guard.map Guard.shape), capacityOf net.tx (s.load.prot.tx.guard.map Guard.shape)⟩
    let provider := s.params.providerCap
    let supply := s.params.supplyCap.get s.supply.mode
    let eff := effectiveTx cap.tx provider supply
    { raw := raw, net := net, capacity := cap, effTx := eff, binding := bindingOf cap.tx provider supply,
      txAllowance := allowanceOf eff s.params.voiceShare, rxAllowance := allowanceOf cap.rx s.params.voiceShare }
  else
    { raw := raw, net := net, capacity := ⟨0, 0⟩, effTx := 0, binding := .none, txAllowance := 0, rxAllowance := 0 }

/-- R146: the condition of a binding limit. -/
def Binding.condition : Binding → Option Condition
  | .line => some .bindingLine
  | .provider => some .bindingProvider
  | .supply => some .bindingSupply
  | .none => Option.none

/-- R66, R146: the rate unit recomputes all five stages; a binding limit changed to another is an entry of its
condition. -/
def recompute (s : State) : State :=
  let r := rateRecord s
  let t := s.setRate r
  match r.binding.condition with
  | some c => if r.binding = s.rate.binding then t else enterCondition c t
  | none => t

/-- R65: a write of VOICE-SHARE recomputes stage 5 alone, from the capacities held. -/
def recomputeAllowances (s : State) : State :=
  if s.inRun then
    s.setRate { s.rate with
      txAllowance := allowanceOf s.rate.effTx s.params.voiceShare
      rxAllowance := allowanceOf s.rate.capacity.rx s.params.voiceShare }
  else s.setRate { s.rate with txAllowance := 0, rxAllowance := 0 }

end Sys2Proof.Machine
end

