-- ==== Sys2Proof/Machine/Guards.lean ====
section
/-! DEFINITION. Guard anchors and the guard schedules in force (R30, R54 to R57), and the protection setting in force of
a direction (R23). -/

namespace Sys2Proof.Machine

/-- The first guard start at or after `sym` of the guards that start at `start` and every `period` after it (R56, R57). -/
def guardAtOrAfter (start : Word32) (period : Nat) (sym : Word32) : Word32 :=
  if atOrAfter start sym then start
  else start + BitVec.ofNat 32 (period * ceilDiv (sym - start).toNat period)

/-- R54, R55: the place a whole number of periods from `base`, at or after `sym` and less than a period after it. -/
def anchorFrom (base : Word32) (period : Nat) (sym : Word32) : Word32 :=
  sym + BitVec.ofNat 32 ((base - sym).toInt % (period : Int)).toNat

/-- R30: the symbol count of the first symbol of the superframe that lies `distance` ahead. -/
def switchSymbol (count : Word32) (distance : Nat) : Word32 := count + BitVec.ofNat 32 (100 * distance)

/-- R56: the end of the coverage of the report whose count is `c`. -/
def coverageEnd (c : Word32) : Word32 := c + 100

/-- R55, R56: the schedule of a guard, caught up to the current report. -/
def Guard.schedule (g : Guard) (c : Word32) : Schedule :=
  { period := g.period, width := g.width, next := guardAtOrAfter g.anchor g.period (coverageEnd c) }

/-- R56: the countdown of one schedule at the report whose count is `c`. -/
def Schedule.countdown (x : Schedule) (c : Word32) : Schedule :=
  { x with next := guardAtOrAfter x.next x.period (coverageEnd c) }

/-- R56: a guard has started before the end of the report's coverage. -/
def Schedule.overdue (x : Schedule) (c : Word32) : Bool := before x.next (coverageEnd c)

/-- R56: the countdown of a direction's schedule. -/
def guardCountdown (d : Direction) (s : State) : State :=
  s.modTrack fun t =>
    { t with sched := t.sched.set d ((t.sched.get d).map fun x => x.countdown s.line.symbolCount) }

/-- R23, R55, R146: a protection setting comes into force in a direction: its guard is handed to the tracker, and a guard
installed while neither direction had one is an entry of GUARD-ARMED. -/
def installProtection (d : Direction) (p : Protection) (s : State) : State :=
  let armed := s.track.sched.rx.isSome || s.track.sched.tx.isSome
  let t := (s.modLoad fun l => { l with prot := l.prot.set d p }).modTrack fun t =>
    { t with sched := t.sched.set d (p.guard.map fun g => g.schedule s.line.symbolCount) }
  if p.guard.isSome && !armed then enterCondition .guardArmed t else t

/-- R30, R57: the setting in force of a direction, its guard's anchor moved on to the first guard start at or after the
switch symbol. -/
def carriedProtection (d : Direction) (sym : Word32) (s : State) : Protection :=
  let p := s.load.prot.get d
  { p with
    guard := p.guard.map fun g =>
      { g with
        anchor := match s.track.sched.get d with
          | some x => guardAtOrAfter x.next x.period sym
          | none => guardAtOrAfter g.anchor g.period sym } }

/-- R55, R175: a guard as a superframe and offset, for a change that switches at superframe `switch`, symbol `sym`. -/
def busGuard (switch : Superframe) (sym : Word32) (g : Guard) : BusGuard :=
  let n := (g.anchor - sym).toNat
  { period := g.period, width := g.width, anchorSuperframe := switch + BitVec.ofNat 8 (n / 100),
    anchorOffset := n % 100 }

/-- R2: the TABLE-SET of a change. -/
def tableSetOf (d : Direction) (loads : List Nat) (p : Protection) (switch : Superframe) (sym : Word32)
    (conditional : Bool) : BusCommand :=
  .tableSet { direction := d, loads := loads, level := p.level, guard := p.guard.map (busGuard switch sym),
              switch := switch, conditional := conditional }

end Sys2Proof.Machine
end

