-- ==== Sys2Proof/Machine/LineControl.lean ====
section
/-! DEFINITION. Entering TRAINING, HOLDOFF and RUN, and leaving RUN (R8 to R16), with what the line-down event does to
each block (R14), and the cutback test and its cutback (R37, R38), which entry to RUN is an occasion of. -/

namespace Sys2Proof.Machine

/-! ## Cutback (R37, R38) -/

/-- The LOAD-CEILING of the supply mode in force (R134). -/
def loadCeiling (s : State) : Nat := s.params.loadCeiling.get s.supply.mode

/-- R38: `need` bits of load taken from a table held highest group first. -/
def takeBits : Nat → List Nat → List Nat
  | _, [] => []
  | need, b :: rest => (b - need) :: takeBits (need - b) rest

/-- R38: the bits to take so that 8 × (sum of loads) comes to or below the ceiling. -/
def excessBits (loads : List Nat) (ceiling : Nat) : Nat := ceilDiv (rawOf loads - ceiling) 8

/-- R38: the transmit table of a cutback: bits come off the highest groups first. -/
def cutTable (loads : List Nat) (ceiling : Nat) : List Nat := (takeBits (excessBits loads ceiling) loads.reverse).reverse

/-- R37: a cutback is needed. -/
def cutbackNeeded (s : State) : Bool :=
  s.supply.mode != .mains && s.inRun && loadCeiling s < rawOf s.load.txLoads

/-- R38: a cutback is built and sent, its switch 8 superframes on. -/
def sendCutback (s : State) : State :=
  let table := cutTable s.load.txLoads (loadCeiling s)
  let number := s.load.cutbackNumber + 1
  let switch : Superframe := s.line.superframe + 8
  let sym := switchSymbol s.line.symbolCount 8
  let prot := carriedProtection .transmit sym s
  let body : Bytes := [number, switch] ++ table.flatMap u8
  let t := (mqOffer (mkMessage .cutback 0 body) s).send (tableSetOf .transmit table prot switch sym false)
  t.modLoad fun l =>
    { l with
      cutbackNumber := number
      lastCutback := some { number := number, switched := false }
      tx := .cutbackOut { switch := switch, table := table, number := number, answered := false } }

/-- R37: the cutback test: a needed cutback is sent when the transmit change record is NONE, and otherwise the test runs
again when the change in flight switches. -/
def cutbackTest (s : State) : State :=
  if cutbackNeeded s then
    match s.load.tx with
    | .none => sendCutback s
    | .farPending _ => s
    | .cutbackOut _ => s
  else s

/-! ## The line-down event (R14) -/

/-- R14: the loading engine's part: records NONE, guards absent. -/
def loadingLineDown (l : Loading) : Loading :=
  { l with
    own := .none
    tx := .none
    prot := ⟨{ l.prot.rx with guard := none }, { l.prot.tx with guard := none }⟩ }

/-- R14, R59: no guard schedule is in force. -/
def clearSchedules (t : Tracker) : Tracker := { t with sched := ⟨none, none⟩ }

/-- R14, R19: the line port's part: every context IDLE. -/
def idleContexts (l : LinePort) : LinePort :=
  { l with data := .idle, manage := .idle, voice := List.replicate 16 .idle }

/-- R14: the line leaves RUN for a state, and the line-down event acts on every block concerned. -/
def leaveRun (dest : LineState) (s : State) : State :=
  recompute <| schedulerLineDown <|
    ((s.modLine fun l => idleContexts { l with state := dest, silence := none }).modLoad loadingLineDown).modTrack
      clearSchedules

/-! ## Entering TRAINING (R8) -/

/-- R8, R142, R143: RETRAIN is raised and counted. -/
def raiseRetrain (c : Cause) (s : State) : State :=
  raise (.withA .retrain c.code) <|
    (s.countLine fun n => { n with retrains := satInc n.retrains }).modInterval fun r =>
      { r with retrains := satInc r.retrains }

/-- R8: the line enters TRAINING: TRAIN with the ceiling of the mode in force, and the training timer from 0. -/
def enterTraining (s : State) : State :=
  (s.send (.train (loadCeiling s))).modLine fun l =>
    { l with state := .training, training := some 0, holdoff := none }

/-- R13: the line leaves RUN for TRAINING with a cause; in any other state the order is ignored. -/
def retrainFromRun (c : Cause) (s : State) : State :=
  if s.inRun then
    raiseRetrain c <| enterTraining <| State.send (c := .halt) <| leaveRun .training <|
      raise (.withA .lineDown c.code) s
  else s

/-! ## Training failure and success (R9, R10, R41) -/

/-- R10: a training attempt has failed with a reason. -/
def trainingFailed (reason : Nat) (s : State) : State :=
  let t := raise (.withA .trainFail reason) <|
    (s.modLine fun l => { l with training := none }).countLine fun n => { n with trainFailures := satInc n.trainFailures }
  t.modLine fun l => { l with state := .holdoff, holdoff := some 0 }

/-- R10: the reason of a TRAIN-FAILED record: NO-SIGNAL, FAR-SILENT and LOW-SNR keep their codes, any other is OTHER. -/
def trainFailReason (reason : Byte) : Nat :=
  if reason = 1 then 1 else if reason = 2 then 2 else if reason = 3 then 3 else 5

/-- R9: the levels of a TRAINED record that passes the check. -/
def checkTrained (r : TrainedRecord) : Option (Dirs Level) :=
  if r.rxLoads.all (· ≤ Config.maxLoad) && r.txLoads.all (· ≤ Config.maxLoad) then
    match Level.ofCode r.rxLevel, Level.ofCode r.txLevel with
    | some a, some b => some ⟨a, b⟩
    | _, _ => none
  else none

/-- R9, R22, R23, R41: the tables and levels of a TRAINED record come into force, with no guard; the loading engine's
counts start at 0. -/
def installTrained (r : TrainedRecord) (lv : Dirs Level) (l : Loading) : Loading :=
  { l with
    rxLoads := r.rxLoads
    txLoads := r.txLoads
    prot := ⟨{ level := lv.rx, guard := none }, { level := lv.tx, guard := none }⟩
    raiseCount := 0
    holdoff := 0
    failures := 0 }

/-- R9, R41, R53: a TRAINED record that passes: the line enters RUN. -/
def enterRun (r : TrainedRecord) (lv : Dirs Level) (s : State) : State :=
  let t := (s.modLoad (installTrained r lv)).modTrack fun x => { clearSchedules x with lowerHold := 0 }
  let u := t.modLine fun l => { l with state := .run, training := none, silence := some 0 }
  cutbackTest <| recompute <| enterCondition .lineRun <| raise (.plain .lineUp) u

end Sys2Proof.Machine
end

