-- ==== Sys2Proof/Machine/Tracking.lean ====
section
/-! DEFINITION. The impulse tracker (chapter 3): the burst history, the cadence, and the protection decision. -/

namespace Sys2Proof.Machine

/-! ## The burst history (R44, R45) -/

/-- R44: the end of a record is the first symbol after the burst. -/
def Burst.stop (b : Burst) : Word32 := b.start + BitVec.ofNat 32 b.length

/-- R44: a burst touches or overlaps a record. -/
def Burst.touches (b r : Burst) : Bool := atOrAfter b.start r.start && atOrAfter r.stop b.start

/-- R44: a burst merged into a record: the later of the two ends, the length capped at 16. -/
def Burst.mergedWith (r b : Burst) : Burst :=
  { r with length := min 16 (max r.length ((b.start - r.start).toNat + b.length)) }

/-- R45: a record joins the ring of 8 as the newest. -/
def addBurst (h : List Burst) (b : Burst) : List Burst :=
  if h.length < Config.historyDepth then h ++ [b] else h.drop 1 ++ [b]

/-- R45: the largest length held, 0 when the history is empty. -/
def longestBurst (h : List Burst) : Nat := h.foldl (fun n b => max n b.length) 0

/-- R45: ageing removes every record older than 30 s. -/
def ageHistory (c : Word32) (h : List Burst) : List Burst :=
  h.filter fun b => (c - b.start).toNat ≤ Config.burstAge

/-- R4: bursts whose offset or length is out of range are removed from the report. -/
def burstInRange (b : ReportedBurst) : Bool := b.offset ≤ 99 && 1 ≤ b.length && b.length ≤ 16

/-- A burst put into a run held in ascending order of start offset. -/
def insertByOffset (b : ReportedBurst) : List ReportedBurst → List ReportedBurst
  | [] => [b]
  | x :: rest => if b.offset < x.offset then b :: x :: rest else x :: insertByOffset b rest

/-- R44: the bursts of a report in ascending order of start offset. -/
def sortBursts (bs : List ReportedBurst) : List ReportedBurst := bs.foldl (fun l b => insertByOffset b l) []

/-- R4: the bursts of a report as the tracker takes them, each start a symbol count. -/
def reportBursts (c : Word32) (bs : List ReportedBurst) : List Burst :=
  (sortBursts (bs.filter burstInRange)).map fun b => { start := c + BitVec.ofNat 32 b.offset, length := b.length }

/-! ## Cadence (R46 to R48) -/

/-- The intervals between the starts of consecutive records (R46). -/
def intervals : List Burst → List Nat
  | a :: b :: rest => (b.start - a.start).toNat :: intervals (b :: rest)
  | _ => []

/-- R46: the five newest records, in order. -/
def newestFive (h : List Burst) : List Burst := h.drop (h.length - 5)

/-- R46: the period that the lock test finds, if it passes. -/
def lockTest (tol : Nat) (h : List Burst) : Option Nat :=
  if h.length < 5 then none
  else
    let iv := intervals (newestFive h)
    let mean := iv.sum / 4
    if iv.all fun x => 400 ≤ x && x ≤ 16000 && x ≤ mean + tol && mean ≤ x + tol then some mean else none

/-- R47: a start lies in the window about the predicted start, both ends included. -/
def isHit (tol : Nat) (predicted start : Word32) : Bool :=
  atOrAfter start (predicted - BitVec.ofNat 32 tol) && atOrAfter (predicted + BitVec.ofNat 32 tol) start

/-- R46, R47: cadence tracking takes a new record. -/
def trackBurst (b : Burst) (s : State) : State :=
  match s.track.lock with
  | some k =>
    if isHit s.params.cadenceTol k.predicted b.start then
      s.modTrack fun t =>
        { t with lock := some { k with predicted := b.start + BitVec.ofNat 32 k.period, misses := 0 } }
    else s.countLine fun c => { c with strays := satInc c.strays }
  | none =>
    match lockTest s.params.cadenceTol s.track.history with
    | some p =>
      enterCondition .cadenceLocked <| raise ⟨.cadenceLock, none, some p⟩ <|
        (s.modTrack fun t =>
          { t with lock := some { period := p, predicted := b.start + BitVec.ofNat 32 p, misses := 0 } }).countLine
            fun c => { c with locks := satInc c.locks }
    | none => s

/-- R44: one burst is merged into the newest record, or becomes a new one and is tracked. -/
def takeBurst (s : State) (b : Burst) : State :=
  match s.track.history.getLast? with
  | some r =>
    if b.touches r then s.modTrack fun t => { t with history := t.history.dropLast ++ [r.mergedWith b] }
    else
      trackBurst b <| (s.modTrack fun t => { t with history := addBurst t.history b }).countLine
        fun c => { c with bursts := satInc c.bursts }
  | none =>
    trackBurst b <| (s.modTrack fun t => { t with history := addBurst t.history b }).countLine
      fun c => { c with bursts := satInc c.bursts }

/-- R48: the miss test of a report whose count is `c`. -/
def missTest (c : Word32) (s : State) : State :=
  match s.track.lock with
  | none => s
  | some k =>
    if before (k.predicted + BitVec.ofNat 32 s.params.cadenceTol) (coverageEnd c) then
      let t := s.countLine fun n => { n with misses := satInc n.misses }
      if k.misses + 1 ≥ 3 then
        raise ⟨.cadenceLost, none, some k.period⟩ (t.modTrack fun x => { x with history := [], lock := none })
      else
        t.modTrack fun x =>
          { x with lock := some { k with predicted := k.predicted + BitVec.ofNat 32 k.period, misses := k.misses + 1 } }
    else s

/-- R44, R48: the tracker takes the bursts of a report and then makes its miss test. -/
def trackReport (bs : List ReportedBurst) (s : State) : State :=
  let c := s.line.symbolCount
  missTest c ((reportBursts c bs).foldl takeBurst s)

/-! ## The protection decision (R50 to R54) -/

/-- R50: the capacity of a setting at a raw load. -/
def Setting.capacity (x : Setting) (raw : Nat) : Nat := capacityOf (netOf raw x.level) x.guard

/-- R51: the smallest level that covers bursts of length `lb`, P3 above 4. -/
def coveringLevel (lb : Nat) : Level :=
  if lb = 0 then .p0 else if lb = 1 then .p1 else if lb = 2 then .p2 else .p3

/-- R51: the protect candidate. -/
def protectCandidate (lb : Nat) : Setting := { level := coveringLevel lb, guard := none }

/-- R51: the guard candidate, when its three conditions hold. -/
def guardCandidate (lock : Option Lock) (lb margin : Nat) : Option Setting :=
  match lock with
  | none => none
  | some k =>
    let w := lb + 2 * margin
    if 1 ≤ lb ∧ w < k.period then some { level := .p0, guard := some (k.period, w) } else none

/-- R52: the candidate with the higher capacity; the protect candidate when they are equal. -/
def recommend (raw lb : Nat) (lock : Option Lock) (margin : Nat) : Setting :=
  match guardCandidate lock lb margin with
  | none => protectCandidate lb
  | some g => if (protectCandidate lb).capacity raw < g.capacity raw then g else protectCandidate lb

/-- R53: a protection setting without its anchor. -/
def Protection.setting (p : Protection) : Setting := { level := p.level, guard := p.guard.map Guard.shape }

/-- R53: the decision and the lower-hold count after it. -/
def decide53 (raw : Nat) (recommended inForce : Setting) (hold : Nat) : Setting × Nat :=
  if recommended = inForce then (inForce, 0)
  else if recommended.capacity raw < inForce.capacity raw then (recommended, 0)
  else
    let h := incUpTo 255 hold
    if h ≥ Config.lowerHoldAt then (recommended, h) else (inForce, h)

/-- R45, R51 to R54: the tracker's work at a margin report. -/
def decideProtection (s : State) : State :=
  let h := ageHistory s.line.symbolCount s.track.history
  let raw := rawOf s.load.rxLoads
  let r := recommend raw (longestBurst h) s.track.lock s.params.guardMargin
  let d := decide53 raw r s.load.prot.rx.setting s.track.lowerHold
  s.modTrack fun t => { t with history := h, recommendation := some r, decision := some d.1, lowerHold := d.2 }

/-- R54: the anchor of a guard of the decision, formed from the predicted start. -/
def decisionAnchor (s : State) (period : Nat) (sym : Word32) : Word32 :=
  match s.track.lock with
  | some k => anchorFrom (k.predicted - BitVec.ofNat 32 s.params.guardMargin) period sym
  | none => sym

/-- R54: the decision as a protection setting that switches at symbol `sym`. -/
def decisionProtection (s : State) (x : Setting) (sym : Word32) : Protection :=
  { level := x.level,
    guard := x.guard.map fun g => { period := g.1, width := g.2, anchor := decisionAnchor s g.1 sym } }

end Sys2Proof.Machine
end

