-- ==== Sys2Proof/Machine/Offers.lean ====
section
/-! DEFINITION. The reload exchange (R25 to R36, R39, R40): margins and classes, own offers, far-end offers, the answers
to both, and the switches. -/

namespace Sys2Proof.Machine

/-! ## Margins and classes (R25, R26) -/

/-- R24: the threshold of a load. -/
def threshold (l : Loading) (b : Nat) : Int := (l.thresh.getD b 0 : Nat)

/-- R25: the figures and classes of a group of load `b` whose ratio is `ratio`. -/
def groupReport (p : Params) (l : Loading) (b : Nat) (ratio : Byte) : GroupReport :=
  let m : Int := (ratio.toNat : Int) - threshold l b
  let h : Option Int := if b < Config.maxLoad then some ((ratio.toNat : Int) - threshold l (b + 1)) else none
  let weak := decide (0 < b) && decide (m < p.mLow)
  { margin := m, headroom := h,
    cls :=
      { weak := weak
        strong := !weak && (match h with
          | some x => decide (p.mTarget ≤ x)
          | none => false)
        failing := decide (0 < b) && decide (m < p.mDrop) } }

/-- R25: every receive group at a margin report. -/
def marginReport (p : Params) (l : Loading) (ratios : List Byte) : List GroupReport :=
  List.zipWith (groupReport p l) l.rxLoads ratios

/-- R26: the raise count after a report. -/
def nextRaiseCount (gs : List GroupReport) (n : Nat) : Nat :=
  if gs.any (·.cls.weak) || (gs.filter (·.cls.strong)).length < 4 then 0 else incUpTo 255 n

/-- R40: a receive group is failing in the classes held. -/
def anyFailing (l : Loading) : Bool :=
  match l.report with
  | none => false
  | some gs => gs.any (·.cls.failing)

/-! ## Building an own offer (R27 to R30) -/

/-- `x` put into a list ranked by a key, behind those of equal key. -/
def insertRanked (key : Nat × Int) : List (Nat × Int) → List (Nat × Int)
  | [] => [key]
  | y :: rest => if key.2 < y.2 then key :: y :: rest else y :: insertRanked key rest

/-- The indices of a list of (index, key), ranked by ascending key, the lower index first on a tie. -/
def rankAscending (l : List (Nat × Int)) : List Nat := (l.foldl (fun r x => insertRanked x r) []).map (·.1)

/-- R28: the weak groups in ascending order of margin. -/
def weakRanked (gs : List GroupReport) : List Nat :=
  rankAscending ((gs.zipIdx.filter (·.1.cls.weak)).map fun x => (x.2, x.1.margin))

/-- R28: the strong groups, the largest headroom first. -/
def strongRanked (gs : List GroupReport) : List Nat :=
  rankAscending ((gs.zipIdx.filter (·.1.cls.strong)).map fun x => (x.2, -(x.1.headroom.getD 0)))

/-- R28: the walk of the weak groups: paired moves while a strong group is left, then pure decreases, at most eight
changes in all. That an offer lists its changes in the order of the walk, the loss of a weak group before its partner's gain,
is the model's choice (R27, R30 and R173 set no order; log entry 29). -/
def moveChanges (loads : List Nat) : List Nat → List Nat → List (Nat × Nat) → List (Nat × Nat)
  | [], _, acc => acc
  | g :: ws, p :: ps, acc =>
    if acc.length + 2 ≤ Config.maxChanges then
      moveChanges loads ws ps (acc ++ [(g, loads.getD g 0 - 1), (p, loads.getD p 0 + 1)])
    else acc
  | g :: ws, [], acc =>
    if acc.length + 1 ≤ Config.maxChanges then moveChanges loads ws [] (acc ++ [(g, loads.getD g 0 - 1)]) else acc

/-- R28: the raises of the first eight strong groups. That an offer lists them in the order of their ranking is the model's
choice (log entry 29). -/
def raiseChanges (loads : List Nat) (strong : List Nat) : List (Nat × Nat) :=
  (strong.take Config.maxChanges).map fun g => (g, loads.getD g 0 + 1)

/-- R28: the changes of an offer built from a report. -/
def offerChanges (loads : List Nat) (gs : List GroupReport) (raiseCount : Nat) : List (Nat × Nat) :=
  if gs.any (·.cls.weak) then moveChanges loads (weakRanked gs) (strongRanked gs) []
  else if Config.raiseAt ≤ raiseCount then raiseChanges loads (strongRanked gs)
  else []

/-- A table with the changes of an offer applied. -/
def applyChanges (loads : List Nat) (changes : List (Nat × Nat)) : List Nat :=
  changes.foldl (fun l c => l.set c.1 c.2) loads

/-- R173: a protection setting as an offer gives it. -/
def offerProtOf (switch : Superframe) (sym : Word32) (p : Protection) : OfferProt :=
  { level := p.level.code,
    guard := p.guard.map fun g =>
      let b := busGuard switch sym g
      { period := b.period, width := b.width, anchorSuperframe := b.anchorSuperframe.toNat,
        anchorOffset := b.anchorOffset } }

/-- R30: a non-empty offer is sent: LOAD-OFFER to MQ, a conditional receive TABLE-SET, and the record OUTSTANDING. -/
def sendOffer (changes : List (Nat × Nat)) (newProt : Option Protection) (s : State) : State :=
  let number := s.load.offerNumber + 1
  let switch : Superframe := s.line.superframe + 8
  let sym := switchSymbol s.line.symbolCount 8
  let table := applyChanges s.load.rxLoads changes
  let prot := newProt.getD (carriedProtection .receive sym s)
  let body := offerBodyBytes { number := number, switch := switch, changes := changes,
                               prot := newProt.map (offerProtOf switch sym) }
  let t := (mqOffer (mkMessage .loadOffer 0 body) s).send (tableSetOf .receive table prot switch sym true)
  t.modLoad fun l =>
    { l with
      offerNumber := number
      lastOffer := some number
      raiseCount := 0
      own := .outstanding { number := number, switch := switch, table := table, newProt := newProt } }

/-- R29: the new protection that the tracker's decision calls for. -/
def newProtection (s : State) : Option Protection :=
  match s.track.decision with
  | none => none
  | some x =>
    if x = s.load.prot.rx.setting then none
    else some (decisionProtection s x (switchSymbol s.line.symbolCount 8))

/-- R27 to R30: the offer that a report and its decision call for is built, and sent unless it is empty. -/
def buildOffer (gs : List GroupReport) (s : State) : State :=
  let changes := offerChanges s.load.rxLoads gs s.load.raiseCount
  let prot := newProtection s
  if changes.isEmpty && prot.isNone then s else sendOffer changes prot s

/-- R25 to R27: the loading engine's work at a margin report. -/
def loadingMargins (ratios : List Byte) (s : State) : State :=
  let gs := marginReport s.params s.load ratios
  let t := s.modLoad fun l => { l with report := some gs, raiseCount := nextRaiseCount gs l.raiseCount }
  if 0 < t.load.holdoff then t.modLoad fun l => { l with holdoff := l.holdoff - 1 }
  else if t.params.reloadEnable = 1 ∧ t.load.own = .none then buildOffer gs t
  else t

/-! ## The end of an own offer (R31 to R34, R40) -/

/-- R40: at a failure that brings the count to 3 or more, a failing group held sends the line port a retrain order. -/
def marginRetrain (s : State) : State :=
  if 3 ≤ s.load.failures ∧ anyFailing s.load = true then retrainFromRun .margin s else s

/-- R32, R33, R40: an own offer has failed, declined (detail 1) or late (detail 2). -/
def offerFailed (detail : Nat) (o : OwnOffer) (s : State) : State :=
  let t := (s.send (.tableCancel .receive o.switch)).modLoad fun l =>
    { l with own := .none, holdoff := 4, failures := incUpTo 255 l.failures }
  let u := (t.countLine fun n => { n with offersFailed := satInc n.offersFailed }).modInterval fun r =>
    { r with offersFailed := satInc r.offersFailed }
  marginRetrain (raise ⟨.offerFailed, some detail, some o.number.toNat⟩ u)

/-- R34, R53: an own offer switches. -/
def switchOffer (o : OwnOffer) (s : State) : State :=
  let t := s.modLoad fun l => { l with rxLoads := o.table, own := .none, holdoff := 1, failures := 0 }
  let u := match o.newProt with
    | none => t
    | some p => (installProtection .receive p t).modTrack fun x => { x with lowerHold := 0 }
  let v := ((recompute u).countLine fun n => { n with offersTaken := satInc n.offersTaken }).modInterval fun r =>
    { r with offersTaken := satInc r.offersTaken }
  raise (.plain .offerTaken) v

/-- R31, R32: an answer that changes no offer is late when its number is that of the most recent own offer and that
offer has ended, and stray otherwise. -/
def countAnswer (n : Byte) (s : State) : State :=
  if s.load.lastOffer = some n ∧ s.load.own = .none then s.countLine fun c => { c with lateAnswers := satInc c.lateAnswers }
  else s.countLine fun c => { c with strayAnswers := satInc c.strayAnswers }

/-- R30: the distance to a switch superframe. -/
def distanceTo (s : State) (switch : Superframe) : Nat := superframeDistance s.line.superframe switch

/-- R31: a LOAD-TAKE of a number. -/
def takeAnswer (n : Byte) (s : State) : State :=
  match s.load.own with
  | .outstanding o =>
    if o.number = n ∧ 3 ≤ distanceTo s o.switch ∧ distanceTo s o.switch ≤ 8 then
      s.modLoad fun l => { l with own := .confirmed o }
    else countAnswer n s
  | .confirmed o => if o.number = n then s else countAnswer n s
  | .none => countAnswer n s

/-- R32: a LOAD-DECLINE of a number. -/
def declineAnswer (n : Byte) (s : State) : State :=
  match s.load.own with
  | .outstanding o => if o.number = n then offerFailed 1 o s else countAnswer n s
  | .confirmed o => if o.number = n then offerFailed 1 o s else countAnswer n s
  | .none => countAnswer n s

/-! ## Far-end offers (R35, R36, R55) -/

/-- R35: a guard of an offer is well formed: a width that is not 0 and below the period, an offset of a superframe. -/
def guardAllowed (g : OfferGuard) : Bool := 0 < g.width && g.width < g.period && g.anchorOffset ≤ 99

/-- R35: the contents of an offer pass the FORMAT check. -/
def offerFormat (o : OfferBody) : Bool :=
  o.changes.length ≤ Config.maxChanges && o.changes.all (fun c => c.1 ≤ 31 && c.2 ≤ Config.maxLoad) &&
    decide (o.changes.map (·.1)).Nodup &&
    (match o.prot with
      | none => true
      | some p => (Level.ofCode p.level).isSome && (match p.guard with
        | none => true
        | some g => guardAllowed g))

/-- R35: the reasons of a LOAD-DECLINE. -/
inductive DeclineReason where
  | format
  | busy
  | timing
  | supply
  deriving DecidableEq, Repr

/-- R35: the code of a reason. -/
def DeclineReason.code : DeclineReason → Nat
  | .format => 1
  | .busy => 2
  | .timing => 3
  | .supply => 4

/-- R35: the first condition that an offer fails, in the order of the table. -/
def offerRefusal (o : OfferBody) (s : State) : Option DeclineReason :=
  if !offerFormat o then some .format
  else if s.load.tx ≠ .none then some .busy
  else if distanceTo s o.switch < 4 ∨ 128 < distanceTo s o.switch then some .timing
  else if s.supply.mode ≠ .mains ∧ loadCeiling s < rawOf (applyChanges s.load.txLoads o.changes) then some .supply
  else none

/-- R35: an offer is declined. -/
def declineOffer (number : Byte) (r : DeclineReason) (s : State) : State :=
  (mqOffer (mkMessage .loadDecline 0 ([number] ++ u8 r.code)) s).countLine fun c =>
    { c with farDeclined := satInc c.farDeclined }

/-- R55: the protection setting of an accepted offer, its anchor a symbol count at or after the switch symbol. -/
def farProtection (switch : Superframe) (sym : Word32) (p : OfferProt) : Protection :=
  { level := (Level.ofCode p.level).getD .p0,
    guard := p.guard.map fun g =>
      { period := g.period, width := g.width,
        anchor := anchorFrom
          (sym + BitVec.ofNat 32
            (100 * superframeDistance switch (BitVec.ofNat 8 g.anchorSuperframe) + g.anchorOffset)) g.period sym } }

/-- R36: an offer is accepted: LOAD-TAKE to MQ, an unconditional transmit TABLE-SET, and the record FAR-PENDING. -/
def acceptOffer (o : OfferBody) (s : State) : State :=
  let sym := switchSymbol s.line.symbolCount (distanceTo s o.switch)
  let table := applyChanges s.load.txLoads o.changes
  let newProt := o.prot.map (farProtection o.switch sym)
  let prot := newProt.getD (carriedProtection .transmit sym s)
  let t := (mqOffer (mkMessage .loadTake 0 [o.number]) s).send (tableSetOf .transmit table prot o.switch sym false)
  t.modLoad fun l => { l with tx := .farPending { switch := o.switch, table := table, newProt := newProt } }

/-- R35, R174: a LOAD-OFFER from the far end, in RUN. -/
def farOffer (body : Bytes) (s : State) : State :=
  match readOfferBody body with
  | none => declineOffer (body.getD 0 0) .format s
  | some o =>
    match offerRefusal o s with
    | some r => declineOffer o.number r s
    | none => acceptOffer o s

/-- R36: the far-end change switches, and the cutback test runs again. -/
def switchFarChange (f : FarPending) (s : State) : State :=
  let t := s.modLoad fun l => { l with txLoads := f.table, tx := .none }
  let u := match f.newProt with
    | none => t
    | some p => installProtection .transmit p t
  cutbackTest <| raise (.plain .farChange) <|
    (recompute u).countLine fun n => { n with farTaken := satInc n.farTaken }

/-- R39: the cutback switches, answered or not, and the cutback test runs again. A cutback carries no new protection (R38),
so that the setting in force, its anchor included, and the schedule stay as they are (R23, R55); that the guard which its
TABLE-SET carries on is no such new setting is DEDUCED (log entry 30). -/
def switchCutback (c : CutbackOut) (s : State) : State :=
  let t := recompute <| s.modLoad fun l =>
    { l with txLoads := c.table, tx := .none, lastCutback := some { number := c.number, switched := true } }
  let u := t.countLine fun n =>
    if c.answered then { n with cutbacksAnswered := satInc n.cutbacksAnswered }
    else { n with cutbacksUnanswered := satInc n.cutbacksUnanswered }
  cutbackTest <| raise ⟨.cutbackDone, some (if c.answered then 1 else 0), some u.rate.capacity.tx⟩ u

/-- R39: a CUTBACK-TAKEN of a number. -/
def cutbackAnswer (n : Byte) (s : State) : State :=
  let count : State :=
    if s.load.lastCutback = some { number := n, switched := true } then
      s.countLine fun c => { c with lateAnswers := satInc c.lateAnswers }
    else s.countLine fun c => { c with strayAnswers := satInc c.strayAnswers }
  match s.load.tx with
  | .cutbackOut c =>
    if c.number = n then s.modLoad fun l => { l with tx := .cutbackOut { c with answered := true } } else count
  | .farPending _ => count
  | .none => count

/-! ## What a frame report makes due (R33, R34, R36, R39, R56) -/

/-- R33: the deadline of an OUTSTANDING offer has passed. -/
def deadlineReached (s : State) : Bool :=
  match s.load.own with
  | .outstanding o => distanceTo s o.switch ≤ 2 || 8 < distanceTo s o.switch
  | .confirmed _ => false
  | .none => false

/-- R34: the switch of a CONFIRMED offer has come. -/
def offerSwitchReached (s : State) : Bool :=
  match s.load.own with
  | .confirmed o => distanceTo s o.switch == 0 || 8 < distanceTo s o.switch
  | .outstanding _ => false
  | .none => false

/-- R36: the switch of a far-end change has come. -/
def farSwitchReached (s : State) : Bool :=
  match s.load.tx with
  | .farPending f => distanceTo s f.switch == 0 || 128 < distanceTo s f.switch
  | .cutbackOut _ => false
  | .none => false

/-- R39: the switch of a cutback has come. -/
def cutbackSwitchReached (s : State) : Bool :=
  match s.load.tx with
  | .cutbackOut c => distanceTo s c.switch == 0 || 8 < distanceTo s c.switch
  | .farPending _ => false
  | .none => false

/-- R56: the guard of a direction has started before the end of the report's coverage. -/
def guardOverdue (s : State) (d : Direction) : Bool :=
  match s.track.sched.get d with
  | some x => x.overdue s.line.symbolCount
  | none => false

end Sys2Proof.Machine
end

