-- ==== Sys2Proof/Machine/Ports.lean ====
section
/-! DEFINITION. The phone port unit (chapter 7): the debounce, the hook states, dialling, ringing, feed, and the voice
engine's part of a loss of feed (R121). -/

namespace Sys2Proof.Machine

/-- A phone port's record. -/
def State.port (s : State) (p : PortId) : PhonePort := s.phone.ports.get p

/-- A phone port's record is changed. -/
def State.modPort (s : State) (p : PortId) (f : PhonePort → PhonePort) : State :=
  s.setPhone { s.phone with ports := s.phone.ports.set p (f (s.port p)) }

/-- R146: the condition that a lift of a port enters. -/
def offHookCondition : PortId → Condition
  | .p1 => .port1OffHook
  | .p2 => .port2OffHook

/-! ## Ringing (R109, R110) -/

/-- The segment of a ring's entry at a number 1..4; past the end of the list there is none. -/
def ringSegment (table : List (List Segment)) (r : Ring) : Option Segment :=
  (cadenceList (table.getD r.entry []))[r.segment - 1]?

/-- R110: how long the phase of a ring lasts, in ms. -/
def phaseLength (table : List (List Segment)) (r : Ring) : Nat :=
  match ringSegment table r with
  | none => 0
  | some g => 10 * (if r.onPhase then g.on else g.off)

/-- R110: the number of segments in the list of a ring's entry. -/
def segmentCount (table : List (List Segment)) (r : Ring) : Nat := (cadenceList (table.getD r.entry [])).length

/-- R110: the ring after the end of its phase, or nothing when it has completed. -/
def nextPhase (table : List (List Segment)) (r : Ring) : Option Ring :=
  if r.onPhase then some { r with onPhase := false, ms := 0 }
  else if r.segment < segmentCount table r then some { r with segment := r.segment + 1, onPhase := true, ms := 0 }
  else
    let passes := satInc r.passes
    if r.repeats ≠ 0 ∧ passes = r.repeats then none
    else some { r with segment := 1, onPhase := true, ms := 0, passes := passes }

/-- R110: phases of value 0 are passed over at once. The first argument bounds the phases passed over: an entry that
rings has a phase that is not 0 among its eight at most. -/
def skipEmpty (table : List (List Segment)) : Nat → Option Ring → Option Ring
  | 0, r => r
  | _ + 1, none => none
  | n + 1, some r => if phaseLength table r = 0 then skipEmpty table n (nextPhase table r) else some r

/-- R109: the ring that a RING starts. -/
def startRing (table : List (List Segment)) (entry repeats : Nat) : Option Ring :=
  skipEmpty table 8 (some { entry := entry, repeats := repeats, segment := 1, onPhase := true, ms := 0, passes := 0 })

/-- R110: the ring after the phase that has reached its length, phases of value 0 passed over. -/
def advanceRing (table : List (List Segment)) (r : Ring) : Option Ring := skipEmpty table 8 (nextPhase table r)

/-- A port's ring ends and the port takes a state. -/
def PhonePort.endRing (q : PhonePort) (st : PortState) : PhonePort := { q with state := st, ring := none }

/-- R110, R111, R113: RING-DONE, completed (0) or stopped (1), counted. -/
def raiseRingDone (p : PortId) (detail : Nat) (s : State) : State :=
  raise (.withA .ringDone detail) <| s.countPort p fun c =>
    if detail = 0 then { c with ringsCompleted := satInc c.ringsCompleted }
    else { c with ringsStopped := satInc c.ringsStopped }

/-- R110: a ring phase has reached its length. -/
def ringPhaseStep (p : PortId) (s : State) : State :=
  match (s.port p).ring with
  | none => s
  | some r =>
    match advanceRing s.phone.cadence r with
    | some r' => s.modPort p fun q => { q with ring := some r' }
    | none => raiseRingDone p 0 (s.modPort p fun q => q.endRing .onHook)

/-! ## Digits (R106) -/

/-- R106: the digit of a pulse count 1..10. -/
def digitOf (pulses : Nat) : Option Nat :=
  if 1 ≤ pulses ∧ pulses ≤ 9 then some pulses else if pulses = 10 then some 0 else none

/-- R106: the pending pulses are completed as a digit, which joins the queue or is counted as an overflow. -/
def completeDigit (p : PortId) (s : State) : State :=
  let q := s.port p
  let t := s.modPort p fun q => { q with pulses := 0 }
  match digitOf q.pulses with
  | none => t.countPort p fun c => { c with pulseOverflow := satInc c.pulseOverflow }
  | some d =>
    if q.digits.length < Config.digitQueueDepth then
      raise (.plain .digit) <| (t.modPort p fun q => { q with digits := q.digits ++ [d] }).countPort p fun c =>
        { c with digits := satInc c.digits }
    else t.countPort p fun c => { c with digitOverflow := satInc c.digitOverflow }

/-- R105: the break timer has reached 101: pulses pending are completed. -/
def breakPulsesStep (p : PortId) (s : State) : State :=
  if (s.port p).state = .inBreak ∧ 0 < (s.port p).pulses then completeDigit p s else s

/-- R106: the interdigit timer has reached INTERDIGIT. -/
def interdigitStep (p : PortId) (s : State) : State :=
  if (s.port p).state = .offHook ∧ 0 < (s.port p).pulses then completeDigit p s else s

/-- R105: the break has outlasted FLASH-MAX: a hang-up. -/
def hangUpStep (p : PortId) (s : State) : State :=
  if (s.port p).state = .inBreak then
    raise (.plain .hook) <| (s.modPort p fun q => { q with state := .onHook }).countPort p fun c =>
      { c with hangUps := satInc c.hangUps }
  else s

/-! ## Acceptances (R102, R104, R105, R111) -/

/-- R104, R146: a lift: the port is OFF-HOOK with no pulses, HOOK is raised, and the port's condition is entered. -/
def liftPort (p : PortId) (s : State) : State :=
  enterCondition (offHookCondition p) <| raise (.plain .hook) <|
    (s.modPort p fun q => { q.endRing .offHook with pulses := 0, interdigitMs := 0 }).countPort p fun c =>
      { c with lifts := satInc c.lifts }

/-- R105: an off-hook accepted in BREAK: a dial pulse up to 100 ms, a flash beyond. -/
def breakEnds (p : PortId) (s : State) : State :=
  if (s.port p).breakMs ≤ Config.pulseMax then
    s.modPort p fun q => { q with state := .offHook, pulses := incUpTo 255 q.pulses, interdigitMs := 0 }
  else
    raise (.plain .flash) <| (s.modPort p fun q => { q with state := .offHook, pulses := 0, interdigitMs := 0 }).countPort
      p fun c => { c with flashes := satInc c.flashes }

/-- R104, R105, R111: an accepted off-hook. -/
def acceptOffHook (p : PortId) (s : State) : State :=
  match (s.port p).state with
  | .onHook => liftPort p s
  | .ringing => liftPort p (s.countPort p fun c => { c with answers := satInc c.answers })
  | .inBreak => breakEnds p s
  | .offHook => s
  | .unfed => s

/-- R104: an accepted on-hook in OFF-HOOK begins a break, the pulses still pending. -/
def acceptOnHook (p : PortId) (s : State) : State :=
  if (s.port p).state = .offHook then s.modPort p fun q => { q with state := .inBreak, breakMs := 0 } else s

/-- R102: the raw level becomes the accepted level, and the acceptance is handed to the port's states. -/
def acceptHook (p : PortId) (s : State) : State :=
  if (s.port p).state = .unfed then s
  else
    let off := !(s.port p).accepted
    let t := s.modPort p fun q => { q with accepted := off, stable := 0 }
    if off then acceptOffHook p t else acceptOnHook p t

/-! ## The 1 ms tick (R102, R105, R106, R110) -/

/-- R102: the debounce of a fed port at a tick. The level accepted is the raw level at the tick that reaches the limit,
which differs from the accepted one. -/
def debounce (q : PhonePort) : PhonePort :=
  if q.rawOff == q.accepted then { q with stable := 0 } else { q with stable := q.stable + 1 }

/-- R105, R106, R110: the timers of a port at a tick. -/
def tickTimers (q : PhonePort) : PhonePort :=
  match q.state with
  | .onHook => q
  | .ringing => { q with ring := q.ring.map fun r => { r with ms := r.ms + 1 } }
  | .offHook => if 0 < q.pulses then { q with interdigitMs := q.interdigitMs + 1 } else q
  | .inBreak => { q with breakMs := q.breakMs + 1 }
  | .unfed => q

/-- R102, R113: a port at a tick; an unfed port has no debounce running. -/
def tickPort (q : PhonePort) : PhonePort := if q.fed then tickTimers (debounce q) else q

/-- A phase of a port's ring has reached its length. -/
def ringPhaseDone (table : List (List Segment)) (q : PhonePort) : Bool :=
  match q.ring with
  | none => false
  | some r => phaseLength table r ≤ r.ms

/-- R102, R105, R106, R110: the steps a tick makes due at a port, in the order R105 asks for. That the end of a
ring's phase, which can complete the ring, comes due before a hook acceptance of the same tick is the model's choice (R111
lets either be taken first, with RING-DONE or without; log entry 24). -/
def portDues (p : PortId) (s : State) : List Due :=
  let q := s.port p
  (if q.state = .inBreak ∧ q.breakMs = Config.pulseMax + 1 ∧ 0 < q.pulses then [Due.breakPulses p] else []) ++
  (if q.state = .inBreak ∧ s.params.flashMax < q.breakMs then [Due.hangUp p] else []) ++
  (if q.state = .offHook ∧ 0 < q.pulses ∧ s.params.interdigit ≤ q.interdigitMs then [Due.interdigit p] else []) ++
  (if q.state = .ringing ∧ ringPhaseDone s.phone.cadence q then [Due.ringPhase p] else []) ++
  (if q.fed ∧ 0 < q.stable ∧ s.params.hookDebounce ≤ q.stable then [Due.hook p] else [])

/-! ## Feed (R113, R114, R121) -/

/-- R92, R120: a record is freed: its buffer and last frame go with it; the idle value and the counts stay. -/
def freeRecord (p : PortId) (s : State) : State :=
  vqRemove p (s.setVoice (s.voice.set p { s.voice.get p with call := .free }))

/-- R117, R120: a record is freed, and with an INTERCOM record its partner. -/
def closeRecord (p : PortId) (s : State) : State :=
  match (s.voice.get p).call with
  | .free => s
  | .line _ => freeRecord p s
  | .intercom _ => freeRecord (otherPort p) (freeRecord p s)

/-- R121: the voice engine's part of port 2's loss of feed. That of an intercom's two CHANNEL-CLOSED occurrences port 1's is
raised first is the model's choice (R148 lets either be first; log entry 24). -/
def feedLossClose (s : State) : State :=
  match (s.voice.get .p2).call with
  | .free => s
  | .line _ => raise (.withA .channelClosed 2) (freeRecord .p2 s)
  | .intercom _ =>
    raise (.withA .channelClosed 2) <| raise (.withA .channelClosed 1) <| freeRecord .p1 (freeRecord .p2 s)

/-- A due step that concerns a port's hook, pulses or ring. -/
def Due.ofPort (p : PortId) : Due → Bool
  | .breakPulses q => q == p
  | .hangUp q => q == p
  | .interdigit q => q == p
  | .ringPhase q => q == p
  | .hook q => q == p
  | _ => false

/-- R113: port 2 loses its feed. That RING-DONE is raised before CHANNEL-CLOSED is the model's choice (R113 has neither block
go first; log entry 24). -/
def loseFeed (s : State) : State :=
  let wasRinging := (s.port .p2).state == .ringing
  let t := s.modPort .p2 fun q => { q.endRing .unfed with pulses := 0, digits := [], stable := 0 }
  let u := t.setDue (t.due.filter fun d => !d.ofPort .p2)
  feedLossClose (if wasRinging then raiseRingDone .p2 1 u else u)

/-- R114: port 2's feed returns. -/
def returnFeed (s : State) : State :=
  s.modPort .p2 fun q => { q with state := .onHook, pulses := 0, accepted := false, stable := 0 }

/-- R113: port 2's feed is set; the feed it already has changes nothing. -/
def setPort2Feed (on : Bool) (s : State) : State :=
  if (s.port .p2).fed then (if on then s else loseFeed s) else (if on then returnFeed s else s)

/-! ## Resets (R116, R130) -/

/-- R116: a port's record starts again, fed or not; the latch and the latest sample stand, as the bus set them (log
entry 16). -/
def PhonePort.restart (q : PhonePort) (isFed : Bool) : PhonePort :=
  { PhonePort.reset with
    rawOff := q.rawOff, lastSample := q.lastSample, state := if isFed then .onHook else .unfed }

/-- R113, R116: port 2 is fed in a mode. -/
def port2FedIn (p : Params) (m : Mode) : Bool := p.port2Feed.get m == 1

/-- R116: both records start again. -/
def restartPorts (s : State) : State :=
  s.setPhone { s.phone with
    ports := ⟨(s.port .p1).restart true, (s.port .p2).restart (port2FedIn s.params s.supply.mode)⟩ }

end Sys2Proof.Machine
end

