-- ==== Sys2Proof/Machine/VoiceOps.lean ====
section
/-! DEFINITION. The voice engine (chapter 8): opening calls, samples in and out, frame boundaries, the jitter buffer and
playout; and one frame of the sample bus (R101). -/

namespace Sys2Proof.Machine

/-- A channel record. -/
def State.record (s : State) (p : PortId) : ChannelRecord := s.voice.get p

/-- A channel record is replaced. -/
def State.setRecord (s : State) (p : PortId) (r : ChannelRecord) : State := s.setVoice (s.voice.set p r)

/-- R117: the state OPEN. -/
def Call.isOpen : Call → Bool
  | .free => false
  | .line _ => true
  | .intercom _ => true

/-- R118: an OPEN LINE record, with its stream. -/
def Call.lineStream : Call → Option Nat
  | .free => none
  | .line c => some c.stream
  | .intercom _ => none

/-! ## Opening (R118, R119) -/

/-- R118: an empty jitter buffer, FILLING. -/
def JitterBuffer.fresh : JitterBuffer := { playing := false, expected := none, held := [], last := none, conceal := 0 }

/-- R118: a LINE call at its open. -/
def LineCall.fresh (stream target : Nat) : LineCall :=
  { stream := stream, target := target, position := 0, seq := 0, samples := [], formed := false,
    buffer := JitterBuffer.fresh, chosen := none }

/-- R118: the number of OPEN LINE records. -/
def openLines (v : Pair ChannelRecord) : Nat :=
  (if v.one.call.lineStream.isSome then 1 else 0) + (if v.two.call.lineStream.isSome then 1 else 0)

/-- R118: one more call at 200 u/s fits in both allowances of the rate record. -/
def roomForCall (s : State) : Bool :=
  s.inRun && decide (Config.callCost * (openLines s.voice + 1) ≤ s.rate.txAllowance) &&
    decide (Config.callCost * (openLines s.voice + 1) ≤ s.rate.rxAllowance)

/-- R118: the record of a port opens as a LINE call. -/
def openLine (p : PortId) (stream target : Nat) (idle : Byte) (s : State) : State :=
  s.setRecord p { call := .line (LineCall.fresh stream target), idle := idle, counts := CallCounts.zero }

/-- R119: both records open together as a linked intercom. -/
def openIntercom (idle : Byte) (s : State) : State :=
  let r : ChannelRecord := { call := .intercom 0, idle := idle, counts := CallCounts.zero }
  s.setVoice ⟨r, r⟩

/-! ## Arrivals (R124, R125) -/

/-- R125: an arrival's place relative to the expected number. -/
inductive Placed where
  | received
  | duplicate
  | late
  | resync
  deriving DecidableEq, Repr

/-- R125: the case of an arrival, by d = (seq - expected) mod 65536. -/
def placeArrival (b : JitterBuffer) (seq : BitVec 16) : Placed :=
  match b.expected with
  | none => .received
  | some e =>
    let d := (seq - e).toNat
    if d ≤ 7 then (if b.held.any (·.seq == seq) then .duplicate else .received)
    else if 32768 ≤ d then .late
    else .resync

/-- R125: the buffer after an arrival. -/
def bufferArrival (b : JitterBuffer) (f : HeldFrame) : JitterBuffer :=
  match placeArrival b f.seq with
  | .received => { b with expected := some (b.expected.getD f.seq), held := b.held ++ [f] }
  | .duplicate => b
  | .late => b
  | .resync => { playing := false, expected := some f.seq, held := [f], last := none, conceal := 0 }

/-- R125, R129: what an arrival counts. -/
def countPlaced (x : Placed) (c : CallCounts) : CallCounts :=
  match x with
  | .received => { c with received := satInc c.received }
  | .duplicate => { c with duplicate := satInc c.duplicate }
  | .late => { c with late := satInc c.late }
  | .resync => { c with resync := satInc c.resync, received := satInc c.received }

/-- R124: the record that holds a stream as an OPEN LINE record. -/
def holderOf (v : Pair ChannelRecord) (stream : Nat) : Option PortId :=
  if v.one.call.lineStream = some stream then some .p1
  else if v.two.call.lineStream = some stream then some .p2
  else none

/-- R124, R125: a VOICE frame that the line port hands over; no arrival happens outside RUN. -/
def voiceArrives (stream : Nat) (f : Bytes) (s : State) : State :=
  if !s.inRun then s
  else if f.length ≠ Config.voiceFrame then s.countVoice fun v => { v with malformed := satInc v.malformed }
  else
    match holderOf s.voice stream with
    | none => s.countVoice fun v => { v with unknownStream := satInc v.unknownStream }
    | some p =>
      let r := s.record p
      match r.call with
      | .line c =>
        let h : HeldFrame := { seq := voiceSeq f, samples := f.drop 4 }
        (s.setRecord p { r with call := .line { c with buffer := bufferArrival c.buffer h } }).countCall p
          (countPlaced (placeArrival c.buffer h.seq))
      | .free => s
      | .intercom _ => s

/-! ## Playout (R126, R127) -/

/-- R126: 80 idle values. -/
def idleFrame (idle : Byte) : Bytes := List.replicate Config.frameSamples idle

/-- R126, R127: what a playout tick chooses and counts, and the buffer after it. -/
structure Tick where
  buffer   : JitterBuffer
  chosen   : Bytes
  played   : Bool
  conceals : Bool
  underrun : Bool
  deriving DecidableEq, Repr

/-- R126: a tick in FILLING. -/
def tickFilling (target : Nat) (idle : Byte) (b : JitterBuffer) : Tick :=
  { buffer := { b with playing := decide (target ≤ b.held.length) }, chosen := idleFrame idle, played := false,
    conceals := false, underrun := false }

/-- R126, R127: a tick in PLAYING whose expected frame is absent. -/
def tickAbsent (idle : Byte) (e : BitVec 16) (b : JitterBuffer) : Tick :=
  let n := b.conceal + 1
  let choice := if n = 1 then b.last.getD (idleFrame idle) else idleFrame idle
  if 5 ≤ n ∧ b.held = [] then
    { buffer := JitterBuffer.fresh, chosen := choice, played := false, conceals := true, underrun := true }
  else
    { buffer := { b with expected := some (e + 1), conceal := n }, chosen := choice, played := false, conceals := true,
      underrun := false }

/-- R126: a tick in PLAYING. -/
def tickPlaying (idle : Byte) (e : BitVec 16) (b : JitterBuffer) : Tick :=
  match b.held.find? (·.seq == e) with
  | some f =>
    { buffer := { b with expected := some (e + 1), held := b.held.eraseP (·.seq == e), last := some f.samples,
                         conceal := 0 },
      chosen := f.samples, played := true, conceals := false, underrun := false }
  | none => tickAbsent idle e b

/-- R126: the playout tick of a buffer. -/
def playoutTick (target : Nat) (idle : Byte) (b : JitterBuffer) : Tick :=
  match b.playing, b.expected with
  | true, some e => tickPlaying idle e b
  | true, none => tickFilling target idle b
  | false, _ => tickFilling target idle b

/-- R129: what a playout tick counts. -/
def countTick (t : Tick) (c : CallCounts) : CallCounts :=
  { c with
    played := if t.played then satInc c.played else c.played
    concealment := if t.conceals then satInc c.concealment else c.concealment
    underrun := if t.underrun then satInc c.underrun else c.underrun }

/-- R126, R127, R143: the playout tick of a LINE record. -/
def takePlayout (p : PortId) (s : State) : State :=
  let r := s.record p
  match r.call with
  | .line c =>
    let t := playoutTick c.target r.idle c.buffer
    let u := (s.setRecord p { r with call := .line { c with buffer := t.buffer, chosen := some t.chosen } }).countCall p
      (countTick t)
    let v := if t.conceals then u.modInterval fun i => { i with voiceLost := satInc i.voiceLost } else u
    if t.underrun then raise (.withA .voiceLoss (portNum p)) v else v
  | .free => s
  | .intercom _ => s

/-! ## Frame boundaries (R122) -/

/-- R122: the record's 80 samples form a voice frame, offered to VQ in RUN and discarded as unsent otherwise. -/
def formFrame (p : PortId) (s : State) : State :=
  let r := s.record p
  match r.call with
  | .line c =>
    let frame := voiceFrameBytes c.stream (!c.formed) c.seq c.samples
    let t := (s.setRecord p
      { r with call := .line { c with seq := c.seq + 1, samples := [], formed := true } }).countCall p fun n =>
        { n with assembled := satInc n.assembled }
    if s.inRun then vqOffer { port := p, stream := c.stream, bytes := frame, started := false } t
    else t.countCall p fun n => { n with unsent := satInc n.unsent }
  | .free => s
  | .intercom _ => s

/-- R122: a frame boundary of a LINE record: a frame toward the line, and the playout tick. -/
def boundaryStep (p : PortId) (s : State) : State := takePlayout p (formFrame p s)

/-! ## One frame of the sample bus (R101, R112, R122, R123) -/

/-- R101, R112: the sample a port passes on, after mute-to-line. -/
def sampleIn (q : PhonePort) (idle : Byte) (x : Byte) : Byte := if q.muteToLine then idle else x

/-- R123: the sample the voice engine gives for a port; `other` is the other port's sample of the frame before. -/
def sampleOut (r : ChannelRecord) (other : Byte) : Byte :=
  match r.call with
  | .free => r.idle
  | .line c =>
    match c.chosen with
    | some x => x.getD c.position r.idle
    | none => r.idle
  | .intercom _ => other

/-- R110, R111: the ring command is asserted in the on phases of a RINGING port. -/
def ringCommand (q : PhonePort) : Bool :=
  q.state == .ringing && (match q.ring with
    | some r => r.onPhase
    | none => false)

/-- R101, R112: what a sample frame gives one port. -/
def portOut (q : PhonePort) (r : ChannelRecord) (other : Byte) : PortOut :=
  { sample := if q.muteToPhone then r.idle else sampleOut r other, ring := ringCommand q, feed := q.fed }

/-- R122, R123: a record takes its port's sample; the flag says that the record has come to a frame boundary. -/
def recordSample (r : ChannelRecord) (x : Byte) : ChannelRecord × Bool :=
  match r.call with
  | .free => (r, false)
  | .line c =>
    let edge := c.position + 1 == Config.frameSamples
    ({ r with call := .line { c with samples := c.samples ++ [x], position := if edge then 0 else c.position + 1 } }, edge)
  | .intercom n =>
    let edge := n + 1 == Config.frameSamples
    ({ r with call := .intercom (if edge then 0 else n + 1) }, edge)

/-- R101: the latch and the latest sample of a port after a sample frame. -/
def latchFrame (q : PhonePort) (idle : Byte) (x : PortFrame) : PhonePort :=
  { q with rawOff := x.rawOff, lastSample := sampleIn q idle x.sample }

/-- R122, R123, R129: a record takes a sample; a boundary makes a LINE record's FRAME_BOUNDARY due, and counts a block of
80 samples passed for an INTERCOM record. -/
def takeSample (p : PortId) (x : Byte) (s : State) : State :=
  let r := s.record p
  let t := recordSample r x
  let u := s.setRecord p t.1
  if t.2 then
    match r.call with
    | .line _ => u.setDue (u.due ++ [.frameBoundary p])
    | .intercom _ => u.countCall p fun n => { n with framesPassed := satInc n.framesPassed }
    | .free => u
  else u

/-- R101: one frame of the sample bus, for both ports. That the frame boundary of port 1 comes due before that of port 2, when
both records reach theirs at one sample frame, is the model's choice (R122 sets no order; log entry 24). -/
def sampleStep (one two : PortFrame) (s : State) : State :=
  let q1 := s.phone.ports.one
  let q2 := s.phone.ports.two
  let r1 := s.voice.one
  let r2 := s.voice.two
  let t := (s.modOut fun o =>
    { o with ports := ⟨portOut q1 r1 q2.lastSample, portOut q2 r2 q1.lastSample⟩ }).setPhone
      { s.phone with ports := ⟨latchFrame q1 r1.idle one, latchFrame q2 r2.idle two⟩ }
  takeSample .p2 (sampleIn q2 r2.idle two.sample) (takeSample .p1 (sampleIn q1 r1.idle one.sample) t)

/-- R130: a record after a VOICE reset. -/
def resetRecords (s : State) : State := vqRemove .p2 (vqRemove .p1 (s.setVoice ⟨ChannelRecord.reset, ChannelRecord.reset⟩))

end Sys2Proof.Machine
end

