-- ==== Sys2Proof/Machine/Reports.lean ====
section
/-! DEFINITION. What the part reports (R142, R157, R160, R170, R171): the counter groups, the interval records, the log
records, the CHANNEL entries and the status, laid out as bytes. -/

namespace Sys2Proof.Machine

/-! ## The counter groups (R142, R170) -/

/-- The four counts of a quad, in ascending order. -/
def Quad.list (q : Quad Nat) : List Nat := [q.i0, q.i1, q.i2, q.i3]

/-- R170: the reassembly counts, as damaged, broken, orphan and oversize. -/
def ReassemblyCounts.list (r : ReassemblyCounts) : List Nat := [r.damaged, r.broken, r.orphan, r.oversize]

/-- R142, R141: the performance group. -/
def performanceGroup (m : Monitor) : List Nat :=
  let p := m.perf
  [m.seconds, p.es, p.ses, p.uas, p.inOff, p.inTraining, p.inRun, p.inHoldoff, p.inMains, p.inLifeline, p.inReserve,
   p.boundSupply, p.boundProvider, p.boundLine, p.impulseCost]

/-- R142: the line group. -/
def lineGroup (c : LineCounters) : List Nat :=
  [c.retrains, c.trainFailures, c.offersTaken, c.offersFailed, c.farTaken, c.farDeclined, c.cutbacksAnswered,
   c.cutbacksUnanswered, c.lateAnswers, c.strayAnswers, c.bursts, c.strays, c.misses, c.locks]

/-- R80: the classifier's counts, in the order of its table. -/
def classifierGroup (c : ClassifierCounts) : List Nat :=
  [c.badCheck, c.runt, c.giant, c.mgmtRefused, c.mgmtOverflow, c.classDrop, c.defaulted, c.upstream, c.downMgmt,
   c.downRunt, c.homeOverflow, c.homeSent, c.mgmtSent]

/-- R100: the scheduler's traffic counts, in the order of its table. -/
def schedulerGroup (c : SchedulerCounts) : List Nat :=
  c.admitted.list ++ c.shed.list ++ c.tailDropped.list ++ c.stale.list ++ [c.cut] ++ c.framesSent.list ++
    [c.dataUnits, c.manageUnits, c.voiceUnits, c.fillUnits, c.messagesSent, c.evicted, c.discardedLoad,
     c.discardedReport, c.refused, c.flushed]

/-- R142: the traffic group. -/
def trafficGroup (t : TrafficCounters) : List Nat :=
  t.data.list ++ t.manage.list ++ [t.unknownChannel, t.inboundReports] ++ classifierGroup t.cls ++
    schedulerGroup t.sch ++ [t.malformed]

/-- R115: the counts of the ports, each for port 1 and then for port 2. -/
def portsGroup (p : Pair PortCounts) : List Nat :=
  [p.one.lifts, p.two.lifts, p.one.hangUps, p.two.hangUps, p.one.digits, p.two.digits, p.one.pulseOverflow,
   p.two.pulseOverflow, p.one.digitOverflow, p.two.digitOverflow, p.one.flashes, p.two.flashes,
   p.one.ringsCompleted, p.two.ringsCompleted, p.one.ringsStopped, p.two.ringsStopped, p.one.answers, p.two.answers]

/-- R129: the eleven counts kept per record, in the order of its table. -/
def CallCounts.list (c : CallCounts) : List Nat :=
  [c.assembled, c.unsent, c.vqDrops, c.received, c.duplicate, c.late, c.resync, c.played, c.concealment, c.underrun,
   c.framesPassed]

/-- R100, R170: the VQ drops, `one and per record`: the total, and then the count of each record (log entry 12). -/
def vqDropsGroup (v : VoiceCounters) : List Nat := [v.totals.vqDrops, v.vqDrops.one, v.vqDrops.two]

/-- R142: the voice group: R19's counts, R100's voice counts, R115's and R129's totals. -/
def voiceGroup (v : VoiceCounters) : List Nat :=
  v.reassembly.list ++ vqDropsGroup v ++ [v.vqFlushed, v.framesSent] ++ portsGroup v.ports ++ v.totals.list ++
    [v.unknownStream, v.malformed]

/-- R142: the group of a code 0..3. -/
def counterGroup (m : Monitor) : Nat → Option (List Nat)
  | 0 => some (performanceGroup m)
  | 1 => some (lineGroup m.line)
  | 2 => some (trafficGroup m.traffic)
  | 3 => some (voiceGroup m.voice)
  | _ => none

/-- R170: a group as READ-COUNTERS returns it. -/
def countersBody (code : Nat) (g : List Nat) : Bytes := u8 code ++ u16 g.length ++ g.flatMap u32

/-! ## Interval records and log records (R143, R144, R154, R170) -/

/-- R170: a minimum, absent as 2^32 - 1. -/
def minimumBytes (x : Option Nat) : Bytes := u32 (x.getD counterMax)

/-- R170: an interval record. -/
def intervalBytes (r : Interval) : Bytes :=
  u32 r.stamp ++ u32 r.elapsed ++ u32 r.es ++ u32 r.ses ++ u32 r.uas ++ u32 r.retrains ++ u32 r.offersTaken ++
    u32 r.offersFailed ++ u32 r.voiceLost ++ u32 r.lifeline ++ minimumBytes r.minEffTx ++ minimumBytes r.minRx ++
    flagByte r.noRun

/-- R144: the record of an index: 0 the current one, 1 to 16 the history from newest to oldest. -/
def intervalAt (m : Monitor) (i : Nat) : Option Interval := if i = 0 then some m.interval else m.history[i - 1]?

/-- R170: what READ-HISTORY returns. -/
def historyBody (m : Monitor) (i : Nat) : Bytes :=
  u8 i ++ (match intervalAt m i with
    | none => u8 0
    | some r => u8 1 ++ intervalBytes r)

/-- R170: a log record, 16 bytes. -/
def logRecordBytes (r : LogRecord) : Bytes :=
  u32 r.stamp ++ u8 r.kind.num ++ u8 r.line.code ++ u8 r.mode.code ++ u8 (r.detailA.getD 0) ++ u32 (r.detailB.getD 0) ++
    zeros 4

/-- R170: what READ-LOG returns. -/
def logBody (overwritten : Nat) (rs : List LogRecord) : Bytes :=
  u32 overwritten ++ u8 rs.length ++ rs.flatMap logRecordBytes

/-- R157: the records of a LOG query, from a start index (0 the newest) toward the oldest. -/
def logFrom (log : List LogRecord) (start count : Nat) : List LogRecord := (log.reverse.drop start).take count

/-! ## CHANNEL entries (R171) -/

/-- R171: a CHANNEL entry, 64 bytes; a FREE record shows no kind, stream, target, position, sequence number or buffer
(log entry 14). -/
def channelBytes (r : ChannelRecord) : Bytes :=
  let head : Bytes := match r.call with
    | .free => u8 0 ++ u8 0 ++ u8 0 ++ [r.idle] ++ zeros 12
    | .intercom n => u8 1 ++ u8 2 ++ u8 0 ++ [r.idle] ++ u8 0 ++ u8 n ++ zeros 10
    | .line c =>
      u8 1 ++ u8 1 ++ u8 c.stream ++ [r.idle] ++ u8 c.target ++ u8 c.position ++ u16 c.seq.toNat ++
        flagByte c.buffer.playing ++ u8 c.buffer.held.length ++ flagByte c.buffer.expected.isSome ++
        flagByte c.buffer.last.isSome ++ u16 ((c.buffer.expected.getD 0).toNat) ++ u8 c.buffer.conceal ++ u8 0
  head ++ r.counts.list.flatMap u32 ++ zeros 4

/-! ## The status (R160, R170) -/

/-- R170: an item that may be absent: a present byte, and the item or as many zeros. -/
def optBytes {α : Type} (size : Nat) (x : Option α) (f : α → Bytes) : Bytes :=
  match x with
  | none => u8 0 ++ zeros size
  | some a => u8 1 ++ f a

/-- R170: a pin: its accepted level as its place in R131's `high or low`, which is high 0 and low 1, and unsettled 2 (log
entry 11). -/
def pinByte (d : PinDebounce) : Bytes :=
  u8 (match d.accepted with
    | none => 2
    | some true => 0
    | some false => 1)

/-- R60, R170: the rate record. The 2 bytes of an allowance, and the transmit allowance before the receive one as R60 names
them, are the model's choice (log entry 11). -/
def rateBytes (r : RateRecord) : Bytes :=
  u16 r.raw.rx ++ u16 r.raw.tx ++ u16 r.net.rx ++ u16 r.net.tx ++ u16 r.capacity.rx ++ u16 r.capacity.tx ++
    u16 r.effTx ++ u8 r.binding.code ++ u16 r.txAllowance ++ u16 r.rxAllowance

/-- R23, R170: a guard in force or carried by a change: period, width and anchor. -/
def guardBytes (g : Option Guard) : Bytes := optBytes 7 g fun g => u16 g.period ++ u8 g.width ++ u32 g.anchor.toNat

/-- R23, R170: a protection setting. -/
def protectionBytes (p : Protection) : Bytes := u8 p.level.code ++ guardBytes p.guard

/-- R23: the protection and guard in force: both levels and then both guards, receive first. That each field is sent for
both directions before the next field is the model's choice (log entry 11). -/
def inForceBytes (s : State) : Bytes :=
  u8 s.load.prot.rx.level.code ++ u8 s.load.prot.tx.level.code ++ guardBytes s.load.prot.rx.guard ++
    guardBytes s.load.prot.tx.guard

/-- R55: the next guard start of a direction. -/
def nextGuardBytes (x : Option Schedule) : Bytes := optBytes 4 x fun x => u32 x.next.toNat

/-- R54, R170: the recommendation or the decision. -/
def settingBytes (x : Option Setting) : Bytes :=
  optBytes 5 x fun x => u8 x.level.code ++ optBytes 3 x.guard fun g => u16 g.1 ++ u8 g.2

/-- R46: the cadence state and its period, whose 2 bytes are the model's choice (log entry 11). -/
def cadenceStateBytes (t : Tracker) : Bytes :=
  u8 (if t.lock.isSome then 1 else 0) ++ optBytes 2 t.lock fun k => u16 k.period

/-- R25, R170: the margins, headrooms and classes of the latest report. That the classes of a group, which can be several,
are sent as three flags, weak, strong and failing, behind one present byte for all the groups, and all margins before all
headrooms, is the model's choice (log entry 11). -/
def marginsBytes (x : Option (List GroupReport)) : Bytes :=
  optBytes 128 x (fun gs => gs.flatMap fun g => i16 g.margin) ++
    optBytes 192 x (fun gs => gs.flatMap fun g => optBytes 2 g.headroom i16) ++
    optBytes 192 x (fun gs => gs.flatMap fun g =>
      flagByte g.cls.weak ++ flagByte g.cls.strong ++ flagByte g.cls.failing)

/-- R30, R170: the own-offer record: which fields are sent, and in which order, is the model's choice (log entry 11). -/
def ownRecordBytes (r : OwnRecord) : Bytes :=
  let rest (o : OwnOffer) : Bytes :=
    [o.number, o.switch] ++ o.table.flatMap u8 ++ optBytes 9 o.newProt protectionBytes
  match r with
  | .none => u8 0 ++ optBytes 76 (none : Option OwnOffer) rest
  | .outstanding o => u8 1 ++ optBytes 76 (some o) rest
  | .confirmed o => u8 2 ++ optBytes 76 (some o) rest

/-- R36, R38, R170: what a transmit change record holds; a far-end change holds no cutback number and no answered mark, a
cutback no new protection, and each of these is preceded by its present byte. -/
def txHeldBytes (switch : Superframe) (table : List Nat) (newProt : Option Protection) (number : Option Byte)
    (answered : Option Bool) : Bytes :=
  [switch] ++ table.flatMap u8 ++ optBytes 9 newProt protectionBytes ++ optBytes 1 number (fun n => [n]) ++
    optBytes 1 answered flagByte

/-- R35, R170: the transmit change record: its state, a present byte and what it holds. Which fields are sent, and in which
order, is the model's choice (log entry 11). -/
def txRecordBytes (r : TxRecord) : Bytes :=
  match r with
  | .none => u8 0 ++ optBytes 47 (none : Option Bytes) id
  | .farPending f => u8 1 ++ u8 1 ++ txHeldBytes f.switch f.table f.newProt none none
  | .cutbackOut c => u8 2 ++ u8 1 ++ txHeldBytes c.switch c.table none (some c.number) (some c.answered)

/-- R86, R170: the occupancies of the data queues in frames and units, the pool's, and the data frame in progress, which
is sent as its queue (1 byte) and its units already sent (4 bytes): the rules name no fields of it (log entry 11). That
frames and units are sent queue by queue is the model's choice too (log entry 11). -/
def queueBytes (x : Scheduler) : Bytes :=
  (Ix4.all.flatMap fun i => u32 (x.queues.get i).length ++ u32 (occupancy (x.queues.get i))) ++
    u32 (poolOccupancy x.queues) ++
    optBytes 5 x.inProgress fun i => u8 i.num ++ u32 (((x.queues.get i).head?.map (·.sent)).getD 0)

/-- R97, R170: the deficits, the turn (Q1, Q2, Q3 as 0, 1, 2) and the credit in whole units. -/
def drrBytes (x : Scheduler) : Bytes :=
  u32 x.deficit.q1 ++ u32 x.deficit.q2 ++ u32 x.deficit.q3 ++
    u8 (match x.turn with
      | .q1 => 0
      | .q2 => 1
      | .q3 => 2) ++ u32 (x.credit / Config.unitCredit)

/-- R103, R170: a port state as its place in R103's table. -/
def PortState.code : PortState → Nat
  | .onHook => 0
  | .ringing => 1
  | .offHook => 2
  | .inBreak => 3
  | .unfed => 4

/-- R110, R170: the ring position of a port: entry, segment, phase (on 0, off 1), ms in the phase, passes. -/
def ringBytes (x : Option Ring) : Bytes :=
  optBytes 11 x fun r => u8 r.entry ++ u8 r.segment ++ u8 (if r.onPhase then 0 else 1) ++ u32 r.ms ++ u32 r.passes

/-- R103, R110, R112, R170: the ports' states, hook states, ring positions, repeat counts and entries, and mutes. That the
two mutes are sent port by port, and every other field for both ports before the next, is the model's choice (log entry
11). -/
def portsBytes (p : Pair PhonePort) : Bytes :=
  u8 p.one.state.code ++ u8 p.two.state.code ++ u8 p.one.hookCode ++ u8 p.two.hookCode ++
    ringBytes p.one.ring ++ ringBytes p.two.ring ++
    optBytes 4 p.one.ring (fun r => u32 r.repeats) ++ optBytes 4 p.two.ring (fun r => u32 r.repeats) ++
    optBytes 1 p.one.ring (fun r => u8 r.entry) ++ optBytes 1 p.two.ring (fun r => u8 r.entry) ++
    flagByte p.one.muteToLine ++ flagByte p.one.muteToPhone ++ flagByte p.two.muteToLine ++ flagByte p.two.muteToPhone

/-- R160, R170: what READ-STATUS returns, in the order of R160. The sizes and fields that R170 leaves open (that
of the partition N among them), the order of the two pins, and the use of R171's CHANNEL entry for each channel record, are those of log entry 11. -/
def statusBody (s : State) : Bytes :=
  u8 s.line.state.code ++ u8 s.supply.mode.code ++ pinByte s.supply.mainsOk ++ pinByte s.supply.battLow ++
    u8 (if s.mon.available then 0 else 1) ++ rateBytes s.rate ++ inForceBytes s ++
    nextGuardBytes s.track.sched.rx ++ nextGuardBytes s.track.sched.tx ++
    settingBytes s.track.recommendation ++ settingBytes s.track.decision ++ u32 s.track.lowerHold ++
    cadenceStateBytes s.track ++ optBytes 4 s.track.lock (fun k => u32 k.predicted.toNat) ++
    u8 (longestBurst s.track.history) ++ marginsBytes s.load.report ++ ownRecordBytes s.load.own ++
    txRecordBytes s.load.tx ++ queueBytes s.sch ++ drrBytes s.sch ++ portsBytes s.phone.ports ++
    channelBytes s.voice.one ++ channelBytes s.voice.two ++ u8 (if s.evt.asleep then 1 else 0) ++
    u32 s.mon.seconds ++ u8 s.agent.partition

/-- R157: what a STATUS query returns, in the layout READ-STATUS uses for each item. -/
def farStatusBody (s : State) : Bytes :=
  u8 s.line.state.code ++ u8 s.supply.mode.code ++ u8 (if s.mon.available then 0 else 1) ++ rateBytes s.rate ++
    inForceBytes s ++ cadenceStateBytes s.track ++ u32 s.mon.seconds

/-! ## Queries of the far end (R157, R174) -/

/-- R157, R174: the status and content that answer a query's body. R173 has a LOG answer use READ-LOG's layout, so that the
overwritten count and the number of records come before the records that R157 names (log entry 12). -/
def answerQuery (body : Bytes) (s : State) : Status × Bytes :=
  match body with
  | [] => (.badLength, [])
  | k :: args =>
    match k.toNat, args with
    | 1, [] => (.ok, farStatusBody s)
    | 1, _ => (.badLength, [])
    | 2, [code] =>
      match counterGroup s.mon code.toNat with
      | some g => (.ok, countersBody code.toNat g)
      | none => (.badValue, [])
    | 2, _ => (.badLength, [])
    | 3, [i] => if i.toNat ≤ Config.ringDepth then (.ok, historyBody s.mon i.toNat) else (.badValue, [])
    | 3, _ => (.badLength, [])
    | 4, [start, count] =>
      if 1 ≤ count.toNat ∧ count.toNat ≤ 8 then
        (.ok, logBody s.evt.overwritten (logFrom s.evt.log start.toNat count.toNat))
      else (.badValue, [])
    | 4, _ => (.badLength, [])
    | _, _ => (.badKind, [])

/-- R157: a FAR-QUERY is answered at once with a FAR-ANSWER offered to MQ. -/
def farQueryStep (tag : Byte) (body : Bytes) (s : State) : State :=
  let a := answerQuery body s
  mqOffer (mkMessage .farAnswer tag (u8 a.1.code ++ a.2)) s

end Sys2Proof.Machine
end

