-- ==== Sys2Proof/Machine/Tables.lean ====
section
/-! DEFINITION. The tables (R161 to R163): reading a run of entries, writing one whole, the write cursor, and what each
block does about the parameters written (R68, R134, R163). -/

namespace Sys2Proof.Machine

/-- What a request's checks and effects come to: the status, the reply's body, and the state after. -/
structure Answer where
  status : Status
  body   : Bytes
  state  : State

/-- R160: a refused request changes nothing and its reply is empty. -/
def Answer.refuse (st : Status) (s : State) : Answer := ⟨st, [], s⟩

/-- A request answered OK with a body. -/
def Answer.accept (body : Bytes) (s : State) : Answer := ⟨.ok, body, s⟩

/-- R161: the ids of the tables. -/
def tableValid (id : Nat) : Bool := 1 ≤ id && id ≤ 8

/-- R161: the tables that are read only. -/
def tableReadOnly (id : Nat) : Bool := id == 3 || id == 4 || id == 7

/-- R161: the entries of a table at its present size. -/
def tableSize (s : State) : Nat → Nat
  | 1 => s.cls.table.length
  | 2 => s.load.thresh.length
  | 3 => s.load.rxLoads.length
  | 4 => s.load.txLoads.length
  | 5 => s.phone.cadence.length
  | 6 => paramCount
  | 7 => 2
  | 8 => 4
  | _ => 0

/-- R162, R171: an entry of a table as a read returns it. -/
def tableEntry (s : State) (id i : Nat) : Bytes :=
  match id with
  | 1 => classEntryBytes (s.cls.table.getD i ClassEntry.empty)
  | 2 => u16 (s.load.thresh.getD i 0)
  | 3 => u8 (s.load.rxLoads.getD i 0)
  | 4 => u8 (s.load.txLoads.getD i 0)
  | 5 => cadenceBytes (s.phone.cadence.getD i cadenceEmpty)
  | 6 => s.params.entry i
  | 7 => channelBytes (s.record (if i = 0 then .p1 else .p2))
  | 8 => watchBytes (s.mon.watches.get ((Ix4.ofNum i).getD .i0))
  | _ => []

/-- R162: a run of entries, in index order. -/
def tableRun (s : State) (id start count : Nat) : Bytes :=
  (List.range count).flatMap fun k => tableEntry s id (start + k)

/-- R159, R162: the bytes of entries that one frame can carry beside its headers: 1536 - 14 - 7 - 5. -/
def runLimit : Nat := 1510

/-! ## Writing (R163) -/

/-- `l` with the run `new` in place of its entries from `start`. -/
def replaceRun {α : Type} (l : List α) (start : Nat) (new : List α) : List α :=
  l.take start ++ new ++ l.drop (start + new.length)

/-- Every entry of a run read, unless one is malformed. -/
def readAll {α : Type} (f : Bytes → Option α) : List Bytes → Option (List α)
  | [] => some []
  | b :: rest =>
    match f b, readAll f rest with
    | some x, some xs => some (x :: xs)
    | _, _ => none

/-- R24: a threshold table is strictly increasing. -/
def strictlyIncreasing : List Nat → Bool
  | a :: b :: rest => decide (a < b) && strictlyIncreasing (b :: rest)
  | _ => true

/-- R24: the test of a whole threshold table. -/
def threshAllowed (t : List Nat) : Bool := t.getD 0 0 == 0 && t.all (· ≤ 172) && strictlyIncreasing t

/-- R24: THRESH is not written in RUN while RELOAD-ENABLE is 1. -/
def threshBusy (s : State) : Bool := s.inRun && s.params.reloadEnable == 1

/-- R108: a port that is RINGING uses an entry of a run. -/
def ringUses (q : PhonePort) (start count : Nat) : Bool :=
  match q.ring with
  | none => false
  | some r => start ≤ r.entry && r.entry < start + count

/-- R108: a run of CADENCE names an entry in use. -/
def cadenceBusy (s : State) (start count : Nat) : Bool :=
  ringUses s.phone.ports.one start count || ringUses s.phone.ports.two start count

/-- R163: the busy check of a table. -/
def writeBusy (s : State) (id start count : Nat) : Bool :=
  (id == 2 && threshBusy s) || (id == 5 && cadenceBusy s start count)

/-- The watches with a run of definitions in place. -/
def writeWatches (w : Quad Watch) (start : Nat) (new : List Watch) : Quad Watch :=
  match replaceRun [w.i0, w.i1, w.i2, w.i3] start new with
  | [a, b, c, d] => ⟨a, b, c, d⟩
  | _ => w

/-! ## Parameters (R163, R176) -/

/-- R163: a run of entries stored. -/
def storeParams (p : Params) (start : Nat) : List Bytes → Params
  | [] => p
  | b :: rest => storeParams (p.store start b) (start + 1) rest

/-- R152: a mask write that leaves a wake flag pending wakes a sleeping host. -/
def wakeOnMask (s : State) : State :=
  if s.evt.asleep && (s.evt.pending &&& s.params.wakeMask) != 0 then
    s.modEvt fun e => { e with asleep := false, wakePin := true }
  else s

/-- The index of a per-mode parameter for the mode in force. -/
def modeIndex (base : Nat) (m : Mode) : Nat := base + m.code

/-- R66, R68: the rate unit is told once. -/
def tellRate (wrote : Nat → Bool) (s : State) : State :=
  if wrote 9 || wrote (modeIndex 11 s.supply.mode) then recompute s
  else if wrote 10 then recomputeAllowances s
  else s

/-- R88, R90: the line scheduler is told once: the shedding level, then the limits (log entry 13). -/
def tellScheduler (wrote : Nat → Bool) (s : State) : State :=
  let t := if wrote (modeIndex 17 s.supply.mode) then setShedLevel (s.params.shed.get s.supply.mode) s else s
  Ix4.all.foldl (fun t i => if wrote (24 + i.num) then applyLimit i t else t) t

/-- R37: the loading engine is told of a LOAD-CEILING of the mode in force. -/
def tellLoading (wrote : Nat → Bool) (s : State) : State :=
  if wrote (modeIndex 14 s.supply.mode) then cutbackTest s else s

/-- R113: the phone port unit is told of a PORT2-FEED of the mode in force. -/
def tellPhone (wrote : Nat → Bool) (s : State) : State :=
  if wrote (modeIndex 20 s.supply.mode) then setPort2Feed (port2FedIn s.params s.supply.mode) s else s

/-- R150, R152: the event unit is told of the masks. -/
def tellEvents (wrote : Nat → Bool) (s : State) : State :=
  let t := if wrote 37 then s.modEvt fun e => { e with noticeDue := e.noticeDue &&& s.params.noticeMask } else s
  if wrote 38 then wakeOnMask t else t

/-- R163: a run of parameters is applied whole, and each block is then told once what it governs. The parameters read at
each use need no telling. -/
def writeParams (start count : Nat) (entries : List Bytes) (s : State) : State :=
  let wrote : Nat → Bool := fun i => decide (start ≤ i) && decide (i < start + count)
  let t := s.modAgent fun a => { a with params := storeParams a.params start entries }
  tellEvents wrote (tellPhone wrote (tellLoading wrote (tellScheduler wrote (tellRate wrote t))))

/-! ## One write (R163) -/

/-- R163: the last check of a write and its effect: the table written, or BAD-VALUE. -/
def writeEntries (id start count : Nat) (entries : List Bytes) (s : State) : Option State :=
  match id with
  | 1 =>
    (readAll readClassEntry entries).map fun es =>
      s.modCls fun c => { c with table := replaceRun c.table start es }
  | 2 =>
    let t := replaceRun s.load.thresh start (entries.map fun b => field16 b 0)
    if threshAllowed t then some (s.modLoad fun l => { l with thresh := t }) else none
  | 5 =>
    let es := entries.map readCadence
    if es.all cadenceAllowed then some (s.setPhone { s.phone with cadence := replaceRun s.phone.cadence start es })
    else none
  | 6 => some (writeParams start count entries s)
  | 8 =>
    (readAll readWatch entries).map fun ws =>
      s.modMon fun m => { m with watches := writeWatches m.watches start ws }
  | _ => none

/-- R163: the cursor is set. -/
def setCursor (c : Option Cursor) (s : State) : State := s.modAgent fun a => { a with cursor := c }

/-- R163: a write refused by a check of its table makes the cursor invalid. -/
def refuseWrite (st : Status) (s : State) : Answer := Answer.refuse st (setCursor none s)

/-- R163: the reply to a PARAM write carries the values stored; any other write's reply is empty. -/
def writeReply (id start count : Nat) (s : State) : Bytes := if id = 6 then tableRun s 6 start count else []

/-- R163: a write of `count` entries to a valid table. -/
def writeRun (id start count : Nat) (bytes : Bytes) (s : State) : Answer :=
  if tableReadOnly id then refuseWrite .refused s
  else if tableSize s id < start + count then refuseWrite .badIndex s
  else if writeBusy s id start count then refuseWrite .busy s
  else
    match writeEntries id start count (cutEntries (entrySize id) count bytes) s with
    | none => refuseWrite .badValue s
    | some t => Answer.accept (writeReply id start count t) (setCursor (some { table := id, index := start + count }) t)

end Sys2Proof.Machine
end

