-- ==== Sys2Proof/Machine/Requests.lean ====
section
/-! DEFINITION. The management agent (chapter 12): how a request is taken, checked and answered (R159, R169), and what each
request kind does (R160). -/

namespace Sys2Proof.Machine

/-! ## Taking and answering (R159, R83) -/

/-- R170: a reply as a frame; the source is STATION-ADDRESS as it stands when the reply is built (R165). -/
def replyFrame (r : Request) (a : Answer) (part : Bool) : MgmtFrame :=
  { bytes := managementFrame r.source a.state.params.station r.kind.toNat r.tag.toNat a.status.code a.body,
    partReply := part }

/-- R83: a reply is offered to the management egress queue; a refused one stays with the agent. -/
def offerReply (f : MgmtFrame) (s : State) : State :=
  match mgmtOffer f s with
  | some t => t
  | none => s.modAgent fun a => { a with waiting := some f }

/-- R159, R166: the agent holds no reply waiting, and no PART reset is on its way. -/
def agentIdle (s : State) : Bool := s.agent.waiting.isNone && !s.agent.partWait

/-- R159: the agent's turn for one row: an idle agent takes the oldest request, when the row is that request's, executes
it and offers its reply. A PART reset waits from its execution on, and its reply is the one it waits for (R166). -/
def runRequest (row : RequestRow) (h : Request → State → Answer) (s : State) : State :=
  match s.agent.queue with
  | [] => s
  | r :: rest =>
    if agentIdle s && r.row == row then
      let a := h r (s.modAgent fun a => { a with queue := rest })
      offerReply (replyFrame r a a.state.agent.partWait) a.state
    else s

/-- R169: the body of a request is there in full. -/
def bodyHeld (r : Request) : Bool := r.bodyLen ≤ r.rest.length

/-- R169: the body of a request has a length, and is there in full. -/
def bodyIs (r : Request) (n : Nat) : Bool := r.bodyLen == n && bodyHeld r

/-! ## Tables (R162, R163) -/

/-- R162: READ-TABLE. -/
def answerReadTable (r : Request) (s : State) : Answer :=
  let id := byteAt r.body 0
  let start := field16 r.body 1
  let count := field16 r.body 3
  if !bodyIs r 5 then Answer.refuse .badLength s
  else if count = 0 || decide (runLimit < count * entrySize id) then Answer.refuse .badLength s
  else if !tableValid id then Answer.refuse .badTable s
  else if tableSize s id < start + count then Answer.refuse .badIndex s
  else Answer.accept (r.body ++ tableRun s id start count) s

/-- R163: WRITE-TABLE. The length of a run for an id that names no table cannot be judged, and the id is refused. -/
def answerWriteTable (r : Request) (s : State) : Answer :=
  let id := byteAt r.body 0
  let start := field16 r.body 1
  let count := field16 r.body 3
  if !bodyHeld r || decide (r.bodyLen < 5) then Answer.refuse .badLength s
  else if !tableValid id then refuseWrite .badTable s
  else if r.bodyLen ≠ 5 + count * entrySize id ∨ runLimit < count * entrySize id then Answer.refuse .badLength s
  else writeRun id start count (r.body.drop 5) s

/-- R163: WRITE-ON. -/
def answerWriteOn (r : Request) (s : State) : Answer :=
  let count := field16 r.body 0
  match s.agent.cursor with
  | none => Answer.refuse .badIndex s
  | some c =>
    if !bodyHeld r || decide (r.bodyLen < 2) then Answer.refuse .badLength s
    else if r.bodyLen ≠ 2 + count * entrySize c.table ∨ runLimit < count * entrySize c.table then
      Answer.refuse .badLength s
    else writeRun c.table c.index count (r.body.drop 2) s

/-! ## Reads (R142, R144, R149, R155, R160) -/

/-- R160: READ-STATUS. -/
def answerReadStatus (r : Request) (s : State) : Answer :=
  if bodyIs r 0 then Answer.accept (statusBody s) s else Answer.refuse .badLength s

/-- R142: READ-COUNTERS. -/
def answerReadCounters (r : Request) (s : State) : Answer :=
  let code := byteAt r.body 0
  if !bodyIs r 1 then Answer.refuse .badLength s
  else
    match counterGroup s.mon code with
    | some g => Answer.accept (countersBody code g) s
    | none => Answer.refuse .badValue s

/-- R144: READ-HISTORY. -/
def answerReadHistory (r : Request) (s : State) : Answer :=
  let i := byteAt r.body 0
  if !bodyIs r 1 then Answer.refuse .badLength s
  else if Config.ringDepth < i then Answer.refuse .badValue s
  else Answer.accept (historyBody s.mon i) s

/-- R155: READ-LOG. -/
def answerReadLog (r : Request) (s : State) : Answer :=
  if bodyIs r 0 then
    Answer.accept (logBody s.evt.overwritten (s.evt.log.take 8))
      (s.modEvt fun e => { e with log := e.log.drop 8, overwritten := 0 })
  else Answer.refuse .badLength s

/-- R107: the digits of a port, oldest first. -/
def digitBytes (q : PhonePort) : Bytes := u8 q.digits.length ++ q.digits.flatMap u8

/-- R107: both digit queues are emptied. -/
def emptyDigits (s : State) : State :=
  s.setPhone { s.phone with ports := ⟨{ s.phone.ports.one with digits := [] }, { s.phone.ports.two with digits := [] }⟩ }

/-- R149, R170: READ-EVENTS. -/
def answerReadEvents (r : Request) (s : State) : Answer :=
  if bodyIs r 0 then
    Answer.accept
      (KindSet.bytes s.evt.pending ++ KindSet.bytes s.params.noticeMask ++ KindSet.bytes s.params.wakeMask ++
        KindSet.bytes s.params.farMask ++ digitBytes s.phone.ports.one ++ digitBytes s.phone.ports.two)
      (emptyDigits s)
  else Answer.refuse .badLength s

/-- R149, R160: CLEAR-EVENTS; a set that names a kind outside 1..20 is refused. That this holds for a bit of value 2^20 or
above, which R167 has ignored in general, is DEDUCED (log entry 9). -/
def answerClearEvents (r : Request) (s : State) : Answer :=
  if !bodyIs r 4 then Answer.refuse .badLength s
  else if 0x100000 ≤ field r.body 0 4 then Answer.refuse .badValue s
  else
    let k : KindSet := BitVec.ofNat 20 (field r.body 0 4)
    Answer.accept [] (s.modEvt fun e => { e with pending := e.pending.without k, noticeDue := e.noticeDue.without k })

/-! ## LINE-CONTROL (R7, R15, R16) -/

/-- R7: START. -/
def startLine (s : State) : State := if s.line.state = .off then enterTraining s else s

/-- R7: LINE-CONTROL START, and an action that is none of the three (R160). -/
def answerStart (r : Request) (s : State) : Answer :=
  if !bodyIs r 1 then Answer.refuse .badLength s
  else if byteAt r.body 0 ≠ 1 then Answer.refuse .badValue s
  else Answer.accept [] (startLine s)

/-- R15: STOP: HALT, the timers stopped, OFF; from RUN the effects of leaving RUN and LINE-DOWN. -/
def stopLine (s : State) : State :=
  let t := (s.send .halt).modLine fun l => { l with training := none, holdoff := none, silence := none }
  if t.inRun then raise (.withA .lineDown Cause.stopped.code) (leaveRun .off t)
  else t.modLine fun l => { l with state := .off }

/-- R15: LINE-CONTROL STOP. -/
def answerStop (r : Request) (s : State) : Answer :=
  if !bodyIs r 1 then Answer.refuse .badLength s else Answer.accept [] (stopLine s)

/-- R16: LINE-CONTROL RETRAIN. -/
def answerRetrain (r : Request) (s : State) : Answer :=
  if !bodyIs r 1 then Answer.refuse .badLength s
  else
    match s.line.state with
    | .run => Answer.accept [] (retrainFromRun .ordered s)
    | .holdoff => Answer.accept [] (raiseRetrain .ordered (enterTraining s))
    | .training => Answer.accept [] s
    | .off => Answer.refuse .busy s

/-! ## Channels (R118 to R120) -/

/-- R118: an idle value that is not given is 255. -/
def givenIdle (b : Bytes) : Byte := if byteAt b 3 = 0 then Config.idleDefault else b.getD 4 0

/-- R118: a jitter target that is not given is JITTER-TARGET. -/
def givenTarget (b : Bytes) (s : State) : Nat := if byteAt b 5 = 0 then s.params.jitterTarget else byteAt b 6

/-- R118: a given jitter target lies in 1..6. -/
def targetAllowed (b : Bytes) : Bool := byteAt b 5 == 0 || (decide (1 ≤ byteAt b 6) && decide (byteAt b 6 ≤ 6))

/-- R118: the port's record is OPEN, or the port is UNFED. -/
def portTaken (p : PortId) (s : State) : Bool := (s.record p).call.isOpen || !(s.port p).fed

/-- R118: CHANNEL-OPEN of kind LINE, and of a kind that is neither. -/
def answerOpenLine (r : Request) (s : State) : Answer :=
  let b := r.body
  if !bodyIs r 7 then Answer.refuse .badLength s
  else if byteAt b 0 ≠ 1 then Answer.refuse .badValue s
  else
    match portOf (byteAt b 1) with
    | none => Answer.refuse .badValue s
    | some p =>
      if decide (15 < byteAt b 2) || !targetAllowed b then Answer.refuse .badValue s
      else if portTaken p s then Answer.refuse .busy s
      else if (s.record (otherPort p)).call.lineStream = some (byteAt b 2) then Answer.refuse .badValue s
      else if roomForCall s then Answer.accept [] (openLine p (byteAt b 2) (givenTarget b s) (givenIdle b) s)
      else Answer.refuse .noRoom s

/-- R119: CHANNEL-OPEN of kind INTERCOM. -/
def answerOpenIntercom (r : Request) (s : State) : Answer :=
  if !bodyIs r 7 then Answer.refuse .badLength s
  else if portTaken .p1 s || portTaken .p2 s then Answer.refuse .busy s
  else Answer.accept [] (openIntercom (givenIdle r.body) s)

/-- R120: CHANNEL-CLOSE. -/
def answerClose (r : Request) (s : State) : Answer :=
  if !bodyIs r 1 then Answer.refuse .badLength s
  else
    match portOf (byteAt r.body 0) with
    | none => Answer.refuse .badValue s
    | some p => Answer.accept [] (closeRecord p s)

/-! ## Phone ports (R109, R111, R112) -/

/-- R109: the ring starts. -/
def beginRing (p : PortId) (entry repeats : Nat) (s : State) : State :=
  s.modPort p fun q => { q with state := .ringing, ring := startRing s.phone.cadence entry repeats }

/-- R109: RING. -/
def answerRing (r : Request) (s : State) : Answer :=
  let b := r.body
  if !bodyIs r 3 then Answer.refuse .badLength s
  else
    match portOf (byteAt b 0) with
    | none => Answer.refuse .badValue s
    | some p =>
      if 7 < byteAt b 1 then Answer.refuse .badValue s
      else if (s.port p).state ≠ .onHook then Answer.refuse .busy s
      else if cadenceValid (s.phone.cadence.getD (byteAt b 1) []) then
        Answer.accept [] (beginRing p (byteAt b 1) (byteAt b 2) s)
      else Answer.refuse .badValue s

/-- R111: RING-STOP's effect on a port. -/
def stopRing (p : PortId) (s : State) : State :=
  if (s.port p).state = .ringing then raiseRingDone p 1 (s.modPort p fun q => q.endRing .onHook) else s

/-- R111: RING-STOP. -/
def answerRingStop (r : Request) (s : State) : Answer :=
  if !bodyIs r 1 then Answer.refuse .badLength s
  else
    match portOf (byteAt r.body 0) with
    | none => Answer.refuse .badValue s
    | some p => Answer.accept [] (stopRing p s)

/-- R112: PORT-CONTROL. -/
def answerPortControl (r : Request) (s : State) : Answer :=
  let b := r.body
  if !bodyIs r 3 then Answer.refuse .badLength s
  else
    match portOf (byteAt b 0) with
    | none => Answer.refuse .badValue s
    | some p =>
      Answer.accept [] (s.modPort p fun q =>
        { q with muteToLine := byteAt b 1 ≠ 0, muteToPhone := byteAt b 2 ≠ 0 })

/-! ## Host, partition (R152, R164) -/

/-- R152: HOST-SLEEP. -/
def answerHostSleep (r : Request) (s : State) : Answer :=
  if !bodyIs r 0 then Answer.refuse .badLength s
  else if (s.evt.pending &&& s.params.wakeMask) ≠ 0 then Answer.refuse .busy s
  else Answer.accept [] (s.modEvt fun e => { e with asleep := true })

/-- R77: the class table at a new size. -/
def resizeTable (t : List ClassEntry) (size : Nat) : List ClassEntry :=
  t.take size ++ List.replicate (size - t.length) ClassEntry.empty

/-- R155: the log at a new capacity: the oldest are removed and counted. -/
def resizeLog (capacity : Nat) (e : EventUnit) : EventUnit :=
  { e with
    log := e.log.drop (e.log.length - capacity)
    overwritten := satAdd e.overwritten (e.log.length - capacity) }

/-- R163, R164: a cursor on CLASS becomes invalid. -/
def dropClassCursor (c : Option Cursor) : Option Cursor :=
  match c with
  | none => none
  | some x => if x.table = 1 then none else some x

/-- R164: the partition changes at both ends of the store. -/
def setPartitionTo (n : Nat) (s : State) : State :=
  ((s.modCls fun c => { c with table := resizeTable c.table (Config.classSize n) }).modEvt
    (resizeLog (Config.logCapacity n))).modAgent fun a => { a with partition := n, cursor := dropClassCursor a.cursor }

/-- R164: SET-PARTITION. -/
def answerSetPartition (r : Request) (s : State) : Answer :=
  let n := byteAt r.body 0
  if !bodyIs r 1 then Answer.refuse .badLength s
  else if 8 < n then Answer.refuse .badValue s
  else if n = s.agent.partition then Answer.accept [] s
  else Answer.accept [] (setPartitionTo n s)

/-- R169: a request of a wrong version or an unknown kind. -/
def answerBadKind (_ : Request) (s : State) : Answer := Answer.refuse .badKind s

end Sys2Proof.Machine
end

