-- ==== Sys2Proof/Machine/Resets.lean ====
section
/-! DEFINITION. The resets (R21, R43, R59, R60, R82, R92, R99, R116, R130, R136, R158, R166): what each scope does to
every block, and how a RESET request is answered. -/

namespace Sys2Proof.Machine

/-- R21, R43, R59, R60, R99: the LINE scope. No event is raised; the threshold table stays. -/
def resetLineScope (s : State) : State :=
  let t := (s.setLine LinePort.reset).send .halt
  let u := (t.modLoad fun l => { Loading.reset with thresh := l.thresh }).setTrack Tracker.reset
  schedulerLineReset (u.setRate RateRecord.reset)

/-- R82, R99: the TRAFFIC scope. -/
def resetTrafficScope (s : State) : State := (schedulerTrafficReset s).modCls homeTrafficReset

/-- R92, R116, R130: the VOICE scope. -/
def resetVoiceScope (s : State) : State := resetRecords (restartPorts s)

/-- A watch with its count at 0. -/
def Watch.uncounted (w : Watch) : Watch := { w with count := 0 }

/-- R138 to R145: the monitor after a MONITOR reset; the watch definitions stay. -/
def Monitor.restart (m : Monitor) : Monitor :=
  { Monitor.reset with
    watches := ⟨m.watches.i0.uncounted, m.watches.i1.uncounted, m.watches.i2.uncounted, m.watches.i3.uncounted⟩ }

/-- R158: the event unit after a MONITOR reset; the host state and the pin stay. -/
def EventUnit.restart (e : EventUnit) : EventUnit :=
  { EventUnit.reset with asleep := e.asleep, wakePin := e.wakePin }

/-- R129: a record with its counts at 0. -/
def ChannelRecord.uncounted (r : ChannelRecord) : ChannelRecord := { r with counts := CallCounts.zero }

/-- R74, R129, R138 to R145, R158: the MONITOR scope. -/
def resetMonitorScope (s : State) : State :=
  let t := (s.modMon Monitor.restart).modEvt EventUnit.restart
  (t.modCls fun c => { c with table := c.table.map fun e => { e with hits := 0 } }).setVoice
    ⟨t.voice.one.uncounted, t.voice.two.uncounted⟩

/-- R166: the PART reset. The pins' debounce and the mode in force stay (R136), the time base runs on (R137), the
blocks that start take the mode in force (R90, R116), and HALT is sent (R21). -/
def resetPartState (s : State) : State :=
  let r := ((((State.reset.setTime s.time).setSupply s.supply).setPhone
    { Phone.reset with
      ports := ⟨(s.port .p1).restart true, (s.port .p2).restart (port2FedIn Params.reset s.supply.mode)⟩ }).setSch
    (Scheduler.reset (Params.reset.shed.get s.supply.mode))).setOut s.out
  { r with pending := s.pending }.send .halt

/-- R166: the reset that a PART request waits for: it acts when the reply has been sent. -/
def partResetStep (s : State) : State := resetPartState s

/-- R163, R166: a scope reset as the agent executes it: the cursor becomes invalid. -/
def scopeReset (f : State → State) (r : Request) (s : State) : Answer :=
  if bodyIs r 1 then Answer.accept [] (setCursor none (f s)) else Answer.refuse .badLength s

/-- R166: RESET of scope PART, and of an unknown scope: the reply is built first and the reset waits for it. -/
def answerResetPart (r : Request) (s : State) : Answer :=
  if !bodyIs r 1 then Answer.refuse .badLength s
  else if byteAt r.body 0 ≠ 1 then Answer.refuse .badValue s
  else Answer.accept [] (s.modAgent fun a => { a with partWait := true, cursor := none })

/-- R21, R166: RESET of scope LINE. -/
def answerResetLine (r : Request) (s : State) : Answer := scopeReset resetLineScope r s

/-- R99, R166: RESET of scope TRAFFIC. -/
def answerResetTraffic (r : Request) (s : State) : Answer := scopeReset resetTrafficScope r s

/-- R130, R166: RESET of scope VOICE. -/
def answerResetVoice (r : Request) (s : State) : Answer := scopeReset resetVoiceScope r s

/-- R166: RESET of scope MONITOR. -/
def answerResetMonitor (r : Request) (s : State) : Answer := scopeReset resetMonitorScope r s

end Sys2Proof.Machine
end

