-- ==== Sys2Proof/Machine/Seconds.lean ====
section
/-! DEFINITION. The performance monitor's second (chapter 10) and the far report (R156). -/

namespace Sys2Proof.Machine

/-- R139: the second that has ended is a line second. -/
def lineSecond (s : State) : Bool := s.inRun || s.mon.lossMark

/-- R139: it is severely errored. -/
def isSes (s : State) : Bool :=
  lineSecond s && (decide (s.params.sesThreshold ≤ s.mon.damage) || s.mon.lossMark)

/-- R139: it is errored. -/
def isEs (s : State) : Bool := lineSecond s && (decide (1 ≤ s.mon.damage) || isSes s)

/-- R138, R139: the second just ended is classified and counted, and the two facts gathered for it are cleared. -/
def classifySecond (s : State) : State :=
  let es := isEs s
  let ses := isSes s
  let t := s.modMon fun m =>
    { m with
      perf := { m.perf with
        es := if es then satInc m.perf.es else m.perf.es
        ses := if ses then satInc m.perf.ses else m.perf.ses }
      interval := { m.interval with
        es := if es then satInc m.interval.es else m.interval.es
        ses := if ses then satInc m.interval.ses else m.interval.ses }
      damage := 0
      lossMark := false }
  if ses then raise (.plain .ses) t else t

/-- R140: the two runs after a second, severely errored or not. -/
def updateRuns (ses inRun : Bool) (m : Monitor) : Monitor :=
  if ses then { m with sesRun := incUpTo 255 m.sesRun, clearRun := 0 }
  else if inRun then { m with sesRun := 0, clearRun := incUpTo 255 m.clearRun }
  else { m with sesRun := 0, clearRun := 0 }

/-- R140: the availability state after the runs: whether it becomes UNAVAILABLE, and the state. -/
def updateAvailability (m : Monitor) : Bool × Monitor :=
  if m.available then
    if Config.availabilityRun ≤ m.sesRun then (true, { m with available := false }) else (false, m)
  else
    if Config.availabilityRun ≤ m.clearRun then (false, { m with available := true }) else (false, m)

/-- R140: an unavailable second is counted. -/
def countUas (m : Monitor) : Monitor :=
  if m.available then m
  else
    { m with
      perf := { m.perf with uas := satInc m.perf.uas }
      interval := { m.interval with uas := satInc m.interval.uas } }

/-- R141: one of each residency set is counted. -/
def countResidency (s : State) : State :=
  s.modMon fun m =>
    let p := m.perf
    let p := match s.line.state with
      | .off => { p with inOff := satInc p.inOff }
      | .training => { p with inTraining := satInc p.inTraining }
      | .run => { p with inRun := satInc p.inRun }
      | .holdoff => { p with inHoldoff := satInc p.inHoldoff }
    let p := match s.supply.mode with
      | .mains => { p with inMains := satInc p.inMains }
      | .lifeline => { p with inLifeline := satInc p.inLifeline }
      | .reserve => { p with inReserve := satInc p.inReserve }
    let p := if s.inRun then
        match s.rate.binding with
        | .supply => { p with boundSupply := satInc p.boundSupply }
        | .provider => { p with boundProvider := satInc p.boundProvider }
        | .line => { p with boundLine := satInc p.boundLine }
        | .none => p
      else p
    let p := if s.inRun && (s.track.sched.rx.isSome || s.load.prot.rx.level != .p0) then
        { p with impulseCost := satInc p.impulseCost }
      else p
    { m with perf := p }

/-- The lower of a figure and a minimum that may be absent (R143). -/
def lowerTo (x : Option Nat) (n : Nat) : Option Nat :=
  match x with
  | none => some n
  | some k => some (min k n)

/-- R143: the current interval record at a tick. -/
def tickInterval (s : State) : State :=
  s.modInterval fun r =>
    { r with
      elapsed := min (r.elapsed + 1) Config.intervalSeconds
      lifeline := if s.supply.mode != .mains then satInc r.lifeline else r.lifeline
      minEffTx := if s.inRun then lowerTo r.minEffTx s.rate.effTx else r.minEffTx
      minRx := if s.inRun then lowerTo r.minRx s.rate.capacity.rx else r.minRx
      noRun := r.noRun || !s.inRun }

/-- R156, R173: the body of a FAULT-REPORT. -/
def faultReportBody (s : State) : Bytes :=
  KindSet.bytes s.evt.farPending ++ u32 s.mon.seconds ++ u8 s.line.state.code ++ u8 s.supply.mode.code

/-- R156: the report age at a tick, and the FAULT-REPORT that is due; one that MQ refuses, the line not being in RUN,
leaves the set and the age. -/
def farReport (s : State) : State :=
  let t := s.modEvt fun e => { e with reportAge := incUpTo 255 e.reportAge }
  if t.params.farReportEvery ≤ t.evt.reportAge ∧ t.evt.farPending ≠ 0 then
    let u := mqOffer (mkMessage .faultReport 0 (faultReportBody t)) t
    if t.inRun then u.modEvt fun e => { e with farPending := 0, reportAge := 0 } else u
  else t

/-- R144: the interval record is full. -/
def intervalFull (s : State) : Bool := s.mon.interval.elapsed == Config.intervalSeconds

/-- R137 to R139: the seconds counter and the classification of the second that has ended. -/
def beginSecond (s : State) : State := classifySecond (s.modMon fun m => { m with seconds := satInc m.seconds })

/-- R140: the availability state at a tick that was severely errored or not. -/
def availabilityAt (ses : Bool) (s : State) : Bool × Monitor := updateAvailability (updateRuns ses s.inRun s.mon)

/-- R140: the state and the unavailable second at a tick; becoming UNAVAILABLE is raised. -/
def takeAvailability (ses : Bool) (s : State) : State :=
  let r := availabilityAt ses s
  let t := s.setMon (countUas r.2)
  if r.1 then raise (.plain .unavailable) t else t

/-- R141, R143, R146: the counts of a tick that follow availability. -/
def countSecond (s : State) : State := countTimeWatches (tickInterval (countResidency s))

/-- R140: becoming UNAVAILABLE sends the line port a retrain order. -/
def orderRetrain (becomes : Bool) (s : State) : State := if becomes then retrainFromRun .unavailable s else s

/-- R144: a full interval record is to close once the tick's other work is done. -/
def dueInterval (s : State) : State := if intervalFull s then s.setDue (s.due ++ [.intervalClose]) else s

/-- R137 to R146: the work of a 1 s tick: the counter, the classification, availability, residency, the interval record
and the TIME watches; then the retrain order of R140, the stale sweep (R89) and the far report (R156). The order is
taken once the tick's counts are made, as the sequence of section 10.8 shows it (log entry 10). -/
def secondStep (s : State) : State :=
  let a := beginSecond s
  let c := countSecond (takeAvailability (isSes s) a)
  dueInterval (farReport (staleSweep (orderRetrain (availabilityAt (isSes s) a).1 c)))

/-- R144: the current record closes: it enters the ring of 16 as the newest, and a new record starts. -/
def closeInterval (s : State) : State :=
  if intervalFull s then
    s.modMon fun m =>
      { m with
        history := (m.interval :: m.history).take Config.ringDepth
        interval := Interval.start m.seconds }
  else s

end Sys2Proof.Machine
end

