-- ==== Sys2Proof/Machine/SupplyOps.lean ====
section
/-! DEFINITION. The supply monitor (chapter 9): the pins' debounce, the supply mode, and what a mode entry does to each
block (R131 to R133). -/

namespace Sys2Proof.Machine

/-- A pin's debounce. -/
def Supply.pin (x : Supply) : PinId → PinDebounce
  | .mainsOk => x.mainsOk
  | .battLow => x.battLow

/-- A pin's debounce is replaced. -/
def Supply.setPin (x : Supply) (p : PinId) (d : PinDebounce) : Supply :=
  match p with
  | .mainsOk => { x with mainsOk := d }
  | .battLow => { x with battLow := d }

/-- R131: one tick of a pin's debounce at a level. While the pin has no accepted level its count counts the ticks for
which it has held its present level, and a change of level returns the count to 0. -/
def tickPin (level : Bool) (d : PinDebounce) : PinDebounce :=
  match d.accepted with
  | some a => if level == a then { d with seen := some level, stable := 0 } else { d with seen := some level, stable := d.stable + 1 }
  | none =>
    if d.seen = some (!level) then { d with seen := some level, stable := 0 }
    else { d with seen := some level, stable := d.stable + 1 }

/-- R131: the pin has held a new level for 50 ticks. -/
def pinSettled (d : PinDebounce) : Bool := Config.pinDebounce ≤ d.stable

/-- R132: the mode of two accepted levels. -/
def modeOf (mainsOk battLow : Bool) : Mode := if mainsOk then .mains else if battLow then .reserve else .lifeline

/-- R133: the effects of a mode entry on each block, and SUPPLY-CHANGE. -/
def enterMode (m : Mode) (s : State) : State :=
  let fromMains := s.supply.mode == .mains
  let t := s.setSupply { s.supply with mode := m }
  let u := recompute t
  let v := setShedLevel (u.params.shed.get m) u
  let w := cutbackTest v
  let x := setPort2Feed (port2FedIn w.params m) w
  let y := if fromMains then enterCondition .onBattery x else x
  raise (.withA .supplyChange m.code) y

/-- R132: the mode is worked out from the accepted levels; it stays as it is until both pins have one. -/
def workOutMode (s : State) : State :=
  match s.supply.mainsOk.accepted, s.supply.battLow.accepted with
  | some m, some b => if modeOf m b = s.supply.mode then s else enterMode (modeOf m b) s
  | _, _ => s

/-- R131, R132: a pin's acceptance. -/
def acceptPin (p : PinId) (s : State) : State :=
  let d := s.supply.pin p
  match d.seen with
  | none => s
  | some level => workOutMode (s.setSupply (s.supply.setPin p { d with accepted := some level, stable := 0 }))

end Sys2Proof.Machine
end

