-- ==== Sys2Proof/Machine/Steps.lean ====
section
/-! DEFINITION. The 1 ms tick, the records of the transceiver, and the steps made due: which steps each makes due, what a
due step does when it is taken, and how the due steps are taken before the next command (log entry 1). -/

namespace Sys2Proof.Machine

/-! ## The 1 ms tick (R6, R94, R102, R105, R106, R110, R131, R137, R151) -/

/-- R137: the time base at a tick: the reading, and the ms since the last 1 s tick. -/
def tickTime (t : TimeBase) : TimeBase :=
  { ms := t.ms + 1, divider := if Config.ticksPerSecond ≤ t.divider + 1 then 0 else t.divider + 1 }

/-- R137: a tick is the thousandth. -/
def isSecond (t : TimeBase) : Bool := Config.ticksPerSecond ≤ t.divider + 1

/-- R6: the three timers at a tick. -/
def tickLine (l : LinePort) : LinePort :=
  { l with training := l.training.map (· + 1), holdoff := l.holdoff.map (· + 1), silence := l.silence.map (· + 1) }

/-- R94: the credit at a tick, at an effective transmit capacity. -/
def tickCredit (eff : Nat) (x : Scheduler) : Scheduler := { x with credit := min Config.creditDepth (x.credit + eff) }

/-- R131: both pins at a tick. -/
def tickSupply (mainsOk battLow : Bool) (x : Supply) : Supply :=
  { x with mainsOk := tickPin mainsOk x.mainsOk, battLow := tickPin battLow x.battLow }

/-- R102, R105, R106, R110: both ports at a tick. -/
def tickPhone (x : Phone) : Phone := { x with ports := ⟨tickPort x.ports.one, tickPort x.ports.two⟩ }

/-- R151: the pacing timer at a tick. -/
def tickPacing : Pacing → Pacing
  | .ready => .ready
  | .paced n r => .paced (n + 1) r

/-- R151: the limit of the pacing timer, in ms. -/
def pacingLimit (interval : Nat) (refused : Bool) : Nat :=
  if refused && interval == 0 then 100 else interval * 100

/-- What a tick advances, before the steps it makes due. -/
def tickState (mainsOk battLow : Bool) (s : State) : State :=
  ((((((s.setTime (tickTime s.time)).setLine (tickLine s.line)).modSch (tickCredit s.rate.effTx)).setSupply
    (tickSupply mainsOk battLow s.supply)).setPhone (tickPhone s.phone)).modEvt fun e =>
      { e with pacing := tickPacing e.pacing })

/-- A timer has reached a limit. -/
def timerReached (t : Option Nat) (limit : Nat) : Bool :=
  match t with
  | none => false
  | some n => limit ≤ n

/-- R6: the timers of the line that have expired. -/
def lineDues (s : State) : List Due :=
  (if timerReached s.line.training (s.params.trainTimeout * 1000) then [Due.trainingTimeout] else []) ++
  (if timerReached s.line.holdoff (s.params.holdoff * 1000) then [Due.holdoffExpiry] else []) ++
  (if timerReached s.line.silence (s.params.silenceCount * 25) then [Due.silenceExpiry] else [])

/-- R131: the pins that have held a new level for 50 ticks. That MAINS-OK's acceptance comes due before BATT-LOW's when both
fall at one tick is the model's choice (R132 lets either come first, with two mode entries or one; log entry 24). -/
def pinDues (x : Supply) : List Due :=
  (if pinSettled x.mainsOk then [Due.pin .mainsOk] else []) ++
  (if pinSettled x.battLow then [Due.pin .battLow] else [])

/-- R151: the pacing timer has reached its limit. -/
def pacingDues (s : State) : List Due :=
  match s.evt.pacing with
  | .ready => []
  | .paced n r => if pacingLimit s.params.noticeInterval r ≤ n then [Due.pacing] else []

/-- The steps that a tick makes due, from the state it has advanced. -/
def tickDues (s : State) : List Due :=
  lineDues s ++ pinDues s.supply ++ portDues .p1 s ++ portDues .p2 s ++ pacingDues s

/-- A 1 ms tick, with the levels of the two supply pins at it. -/
def tickStep (mainsOk battLow : Bool) (s : State) : State :=
  let t := tickState mainsOk battLow s
  t.setDue (t.due ++ tickDues t ++ (if isSecond s.time then [Due.secondTick] else []))

/-! ## Records of the transceiver (R3, R4, R5, R9, R10, R13) -/

/-- R4: the symbol count and the current superframe at a report. -/
def advanceLine (superframe : Superframe) (l : LinePort) : LinePort :=
  { l with symbolCount := l.symbolCount + 100, superframe := superframe }

/-- R12: the silence timer starts again. -/
def restartSilence (l : LinePort) : LinePort := { l with silence := some 0 }

/-- R138: the damage count of the second in progress. -/
def addDamage (n : Nat) (m : Monitor) : Monitor := { m with damage := min 65535 (m.damage + n) }

/-- R33, R34, R36, R39, R56: the steps that a report taken in RUN makes due. That the own offer's deadline, whose MARGIN
retrain drops a transmit change, and the switch of a CONFIRMED own offer are each taken before a far-end change's or a
cutback's switch at the same report is the model's choice (R36 lets both switch at one superframe and orders neither first;
log entry 24). -/
def reportDues (s : State) : List Due :=
  (if guardOverdue s .receive then [Due.guard .receive] else []) ++
  (if guardOverdue s .transmit then [Due.guard .transmit] else []) ++
  (if deadlineReached s then [Due.offerDeadline] else []) ++
  (if offerSwitchReached s then [Due.offerSwitch] else []) ++
  (if farSwitchReached s then [Due.farChangeSwitch] else []) ++
  (if cutbackSwitchReached s then [Due.cutbackSwitch] else [])

/-- R4: a report taken in RUN. -/
def reportInRun (r : FrameReport) (s : State) : State :=
  let t := trackReport r.bursts
    ((s.modLine fun l => restartSilence (advanceLine r.superframe l)).modMon (addDamage r.damaged.toNat))
  t.setDue (t.due ++ reportDues t)

/-- R3, R4: a FRAME-REPORT by the state of the line. -/
def frameReportStep (r : FrameReport) (s : State) : State :=
  match s.line.state with
  | .off => s
  | .training => trackReport r.bursts (s.modLine (advanceLine r.superframe))
  | .run => reportInRun r s
  | .holdoff => s

/-- R3, R5: a MARGIN-REPORT: the tracker decides, and the loading engine works from the decision. -/
def marginReportStep (ratios : List Byte) (s : State) : State :=
  if s.inRun then loadingMargins ratios (decideProtection s) else s

/-- R3, R9: a TRAINED record. -/
def trainedStep (r : TrainedRecord) (s : State) : State :=
  if s.line.state = .training then
    match checkTrained r with
    | some lv => enterRun r lv s
    | none => trainingFailed 4 (s.send .halt)
  else s

/-- R3, R10: a TRAIN-FAILED record. -/
def trainFailedStep (reason : Byte) (s : State) : State :=
  if s.line.state = .training then trainingFailed (trainFailReason reason) s else s

/-- R3, R13: a SIGNAL-LOST record; the monitor is told of the loss in the current second. -/
def signalLostStep (s : State) : State :=
  if s.inRun then retrainFromRun .signalLost (s.modMon fun m => { m with lossMark := true }) else s

/-! ## Due steps, taken -/

/-- R10: the training timer has expired. -/
def trainingTimeoutStep (s : State) : State :=
  if s.line.state = .training then trainingFailed 0 (s.send .halt) else s

/-- R11: the holdoff timer has expired. -/
def holdoffExpiryStep (s : State) : State :=
  if s.line.state = .holdoff then raiseRetrain .holdoff (enterTraining s) else s

/-- R151: the pacing timer has expired: pacing is READY, and an owed notice is offered. -/
def pacingStep (s : State) : State := offerNotice (s.modEvt fun e => { e with pacing := .ready })

/-- R33: the deadline of the own offer. -/
def offerDeadlineStep (s : State) : State :=
  match s.load.own with
  | .outstanding o => offerFailed 2 o s
  | .confirmed _ => s
  | .none => s

/-- R34: the switch of the own offer. -/
def offerSwitchStep (s : State) : State :=
  match s.load.own with
  | .confirmed o => switchOffer o s
  | .outstanding _ => s
  | .none => s

/-- R36: the switch of the far-end change. -/
def farChangeStep (s : State) : State :=
  match s.load.tx with
  | .farPending f => switchFarChange f s
  | .cutbackOut _ => s
  | .none => s

/-- R39: the switch of the cutback. -/
def cutbackSwitchStep (s : State) : State :=
  match s.load.tx with
  | .cutbackOut c => switchCutback c s
  | .farPending _ => s
  | .none => s

/-- R42, R157, R174: a line management message with a good header reaches its block. Messages of class LOAD and SUPPLY
outside RUN are discarded without a count. -/
def messageStep (k : MsgKind) (tag : Byte) (body : Bytes) (s : State) : State :=
  match k with
  | .farQuery => farQueryStep tag body s
  | .loadOffer => if s.inRun then farOffer body s else s
  | .loadTake =>
    if s.inRun then (if body.length = 1 then takeAnswer (body.getD 0 0) s else countMalformed s) else s
  | .loadDecline =>
    if s.inRun then (if body.length = 2 then declineAnswer (body.getD 0 0) s else countMalformed s) else s
  | .cutbackTaken =>
    if s.inRun then (if body.length = 1 then cutbackAnswer (body.getD 0 0) s else countMalformed s) else s
  | .cutback =>
    if s.inRun then s.countLine fun c => { c with strayAnswers := satInc c.strayAnswers } else s
  | .faultReport => s
  | .farAnswer => s

/-- R20: a completed frame reaches its block. -/
def arrivalStep (a : Arrival) (s : State) : State :=
  match a with
  | .data f => downstream f s
  | .voice stream f => voiceArrives stream f s
  | .message k tag body => messageStep k tag body s

/-- What a due step does when it is taken. -/
def runDue (d : Due) (s : State) : State :=
  match d with
  | .trainingTimeout => trainingTimeoutStep s
  | .holdoffExpiry => holdoffExpiryStep s
  | .silenceExpiry => retrainFromRun .silent s
  | .pin p => acceptPin p s
  | .breakPulses p => breakPulsesStep p s
  | .hangUp p => hangUpStep p s
  | .interdigit p => interdigitStep p s
  | .ringPhase p => ringPhaseStep p s
  | .hook p => acceptHook p s
  | .pacing => pacingStep s
  | .secondTick => secondStep s
  | .intervalClose => closeInterval s
  | .guard dir => guardCountdown dir s
  | .offerDeadline => offerDeadlineStep s
  | .offerSwitch => offerSwitchStep s
  | .farChangeSwitch => farChangeStep s
  | .cutbackSwitch => cutbackSwitchStep s
  | .arrival a => arrivalStep a s
  | .frameBoundary p => boundaryStep p s
  | .partReset => partResetStep s

/-- A due step is taken: it is due no longer, and it acts. A step that is not due changes nothing. -/
def takeDue (d : Due) (s : State) : State := if d ∈ s.due then runDue d (s.setDue (s.due.erase d)) else s

/-- The first due step that a test picks is taken. -/
def takeFirst (p : Due → Bool) (s : State) : State :=
  match s.due.find? p with
  | some d => takeDue d s
  | none => s

/-- The steps due are taken in the order they came due. -/
def drain (s : State) : State := s.due.foldl (fun t d => takeDue d t) s

/-- Every step due is taken before the next command acts (log entry 1). A 1 s tick can make the close of an interval
due, and no other due step makes one due, so two rounds leave none. -/
def settle (s : State) : State := drain (drain s)

/-- R105, R106: at the tick at which an acceptance falls together with an expiry of the break timer or of the interdigit
timer, the expiries come first: only an on-hook accepted before the tick stops the interdigit timer. -/
def takeHook (p : PortId) (s : State) : State :=
  takeDue (.hook p) (takeDue (.interdigit p) (takeDue (.hangUp p) (takeDue (.breakPulses p) s)))

/-- A due DATA frame. -/
def Due.isData : Due → Bool
  | .arrival (.data _) => true
  | _ => false

/-- A due VOICE frame. -/
def Due.isVoice : Due → Bool
  | .arrival (.voice _ _) => true
  | _ => false

/-- A due message of a kind. -/
def Due.isMessage (k : MsgKind) : Due → Bool
  | .arrival (.message x _ _) => x == k
  | _ => false

end Sys2Proof.Machine
end

