-- ==== Sys2Proof/Machine/ControlRequests.lean ====
section
/-! DEFINITION. The meanings of the requests that act on the line, the channels, the ports and the host (R7, R15, R16, R109, R111, R112, R118 to R120,
R152). -/

namespace Sys2Proof.Machine

/-- START (R7): the agent takes the request at the head of its queue, when it is of this row. -/
def execStart (s : State) : Host.Outcome State Fault Refusal :=
  .next (runRequest .start answerStart (settle s))

/-- STOP (R15): the agent takes the request at the head of its queue, when it is of this row. -/
def execStop (s : State) : Host.Outcome State Fault Refusal :=
  .next (runRequest .stop answerStop (settle s))

/-- RETRAIN (R16): the agent takes the request at the head of its queue, when it is of this row. -/
def execRetrain (s : State) : Host.Outcome State Fault Refusal :=
  .next (runRequest .retrain answerRetrain (settle s))

/-- CHANNEL_OPEN_LINE (R118): the agent takes the request at the head of its queue, when it is of this row. -/
def execChannelOpenLine (s : State) : Host.Outcome State Fault Refusal :=
  .next (runRequest .channelOpenLine answerOpenLine (settle s))

/-- CHANNEL_OPEN_INTERCOM (R119): the agent takes the request at the head of its queue, when it is of this row. -/
def execChannelOpenIntercom (s : State) : Host.Outcome State Fault Refusal :=
  .next (runRequest .channelOpenIntercom answerOpenIntercom (settle s))

/-- CHANNEL_CLOSE (R120): the agent takes the request at the head of its queue, when it is of this row. -/
def execChannelClose (s : State) : Host.Outcome State Fault Refusal :=
  .next (runRequest .channelClose answerClose (settle s))

/-- RING (R109): the agent takes the request at the head of its queue, when it is of this row. -/
def execRing (s : State) : Host.Outcome State Fault Refusal :=
  .next (runRequest .ring answerRing (settle s))

/-- RING_STOP (R111): the agent takes the request at the head of its queue, when it is of this row. -/
def execRingStop (s : State) : Host.Outcome State Fault Refusal :=
  .next (runRequest .ringStop answerRingStop (settle s))

/-- PORT_CONTROL (R112): the agent takes the request at the head of its queue, when it is of this row. -/
def execPortControl (s : State) : Host.Outcome State Fault Refusal :=
  .next (runRequest .portControl answerPortControl (settle s))

/-- HOST_SLEEP (R152): the agent takes the request at the head of its queue, when it is of this row. -/
def execHostSleep (s : State) : Host.Outcome State Fault Refusal :=
  .next (runRequest .hostSleep answerHostSleep (settle s))

end Sys2Proof.Machine
end

