-- ==== Sys2Proof/Machine/LineRecords.lean ====
section
/-! DEFINITION. The meanings of the transceiver's records and the line's timers (R4, R5, R9 to R13). -/

namespace Sys2Proof.Machine

/-- TRAINED (R9). -/
def execTrained (r : TrainedRecord) (s : State) : Host.Outcome State Fault Refusal :=
  .next (trainedStep r (settle s))

/-- TRAIN_FAILED (R10). -/
def execTrainFailed (reason : Byte) (s : State) : Host.Outcome State Fault Refusal :=
  .next (trainFailedStep reason (settle s))

/-- SIGNAL_LOST (R13). -/
def execSignalLost (s : State) : Host.Outcome State Fault Refusal :=
  .next (signalLostStep (settle s))

/-- FRAME_REPORT (R4); the switches, deadlines and guard countdowns it brings come due. -/
def execFrameReport (r : FrameReport) (s : State) : Host.Outcome State Fault Refusal :=
  .next (frameReportStep r (settle s))

/-- MARGIN_REPORT (R5). -/
def execMarginReport (ratios : List Byte) (s : State) : Host.Outcome State Fault Refusal :=
  .next (marginReportStep ratios (settle s))

/-- TRAINING_TIMEOUT (R10). -/
def execTrainingTimeout (s : State) : Host.Outcome State Fault Refusal :=
  .next (takeDue .trainingTimeout s)

/-- HOLDOFF_EXPIRY (R11). -/
def execHoldoffExpiry (s : State) : Host.Outcome State Fault Refusal :=
  .next (takeDue .holdoffExpiry s)

/-- SILENCE_EXPIRY (R12). -/
def execSilenceExpiry (s : State) : Host.Outcome State Fault Refusal :=
  .next (takeDue .silenceExpiry s)

end Sys2Proof.Machine
end

