-- ==== Sys2Proof/Machine/LoadExchange.lean ====
section
/-! DEFINITION. The meanings of the guard countdown, the switches and the messages of the reload exchange (R31 to R36, R39, R42, R56) and the far
query (R157). -/

namespace Sys2Proof.Machine

/-- GUARD_COUNTDOWN (R56). -/
def execGuardCountdown (d : Direction) (s : State) : Host.Outcome State Fault Refusal :=
  .next (takeDue (.guard d) s)

/-- OFFER_DEADLINE (R33). -/
def execOfferDeadline (s : State) : Host.Outcome State Fault Refusal :=
  .next (takeDue .offerDeadline s)

/-- OFFER_SWITCH (R34). -/
def execOfferSwitch (s : State) : Host.Outcome State Fault Refusal :=
  .next (takeDue .offerSwitch s)

/-- FAR_CHANGE_SWITCH (R36). -/
def execFarChangeSwitch (s : State) : Host.Outcome State Fault Refusal :=
  .next (takeDue .farChangeSwitch s)

/-- CUTBACK_SWITCH (R39). -/
def execCutbackSwitch (s : State) : Host.Outcome State Fault Refusal :=
  .next (takeDue .cutbackSwitch s)

/-- LOAD_OFFER (R35). -/
def execLoadOffer (s : State) : Host.Outcome State Fault Refusal :=
  .next (takeFirst (Due.isMessage .loadOffer) s)

/-- LOAD_TAKE (R31). -/
def execLoadTake (s : State) : Host.Outcome State Fault Refusal :=
  .next (takeFirst (Due.isMessage .loadTake) s)

/-- LOAD_DECLINE (R32). -/
def execLoadDecline (s : State) : Host.Outcome State Fault Refusal :=
  .next (takeFirst (Due.isMessage .loadDecline) s)

/-- CUTBACK_TAKEN (R39). -/
def execCutbackTaken (s : State) : Host.Outcome State Fault Refusal :=
  .next (takeFirst (Due.isMessage .cutbackTaken) s)

/-- INBOUND_CUTBACK (R42). -/
def execInboundCutback (s : State) : Host.Outcome State Fault Refusal :=
  .next (takeFirst (Due.isMessage .cutback) s)

/-- FAR_QUERY (R157). -/
def execFarQuery (s : State) : Host.Outcome State Fault Refusal :=
  .next (takeFirst (Due.isMessage .farQuery) s)

end Sys2Proof.Machine
end

