-- ==== Sys2Proof/Machine/PhoneSupply.lean ====
section
/-! DEFINITION. The meanings of the phone ports, the sample bus, the supply pins and pacing (R101, R104 to R106, R110, R122, R131, R151). -/

namespace Sys2Proof.Machine

/-- HOOK_ACCEPTANCE (R104). -/
def execHookAcceptance (p : PortId) (s : State) : Host.Outcome State Fault Refusal :=
  .next (takeHook p s)

/-- BREAK_PULSES_COMPLETE (R105). -/
def execBreakPulsesComplete (p : PortId) (s : State) : Host.Outcome State Fault Refusal :=
  .next (takeDue (.breakPulses p) s)

/-- HANG_UP (R105). -/
def execHangUp (p : PortId) (s : State) : Host.Outcome State Fault Refusal :=
  .next (takeDue (.hangUp p) s)

/-- INTERDIGIT_EXPIRY (R106). -/
def execInterdigitExpiry (p : PortId) (s : State) : Host.Outcome State Fault Refusal :=
  .next (takeDue (.interdigit p) s)

/-- RING_PHASE_END (R110). -/
def execRingPhaseEnd (p : PortId) (s : State) : Host.Outcome State Fault Refusal :=
  .next (takeDue (.ringPhase p) s)

/-- PIN_ACCEPTANCE (R131). -/
def execPinAcceptance (pin : PinId) (s : State) : Host.Outcome State Fault Refusal :=
  .next (takeDue (.pin pin) s)

/-- FRAME_BOUNDARY (R122). -/
def execFrameBoundary (p : PortId) (s : State) : Host.Outcome State Fault Refusal :=
  .next (takeDue (.frameBoundary p) s)

/-- PACING_EXPIRY (R151). -/
def execPacingExpiry (s : State) : Host.Outcome State Fault Refusal :=
  .next (takeDue .pacing s)

/-- SAMPLE_FRAME (R101); the frame boundaries it brings come due (R122). -/
def execSampleFrame (one two : PortFrame) (s : State) : Host.Outcome State Fault Refusal :=
  .next (sampleStep one two (settle s))

end Sys2Proof.Machine
end

