-- ==== Sys2Proof/Machine/PowerTime.lean ====
section
/-! DEFINITION. The meanings of the power-on reset and the ticks (R94, R137, R139, R144). -/

namespace Sys2Proof.Machine

/-- POWER_ON (R137): every block at its power-on state (R7, R43, R59, R60, R74, R99, R116, R117, R136, R158), the time base at
its start; the commands waiting outside the part stay. -/
def execPowerOn (s : State) : Host.Outcome State Fault Refusal :=
  .next { State.reset with pending := s.pending }

/-- MS_TICK (R94, R6, R102, R131, R137): the 1 ms tick; the expiries it brings come due. -/
def execMsTick (mainsOk battLow : Bool) (s : State) : Host.Outcome State Fault Refusal :=
  .next (tickStep mainsOk battLow (settle s))

/-- SECOND_TICK (R139): the 1 s tick that every thousandth 1 ms tick brings (R137). -/
def execSecondTick (s : State) : Host.Outcome State Fault Refusal :=
  .next (takeDue .secondTick s)

/-- INTERVAL_CLOSE (R144). -/
def execIntervalClose (s : State) : Host.Outcome State Fault Refusal :=
  .next (takeDue .intervalClose s)

end Sys2Proof.Machine
end

