-- ==== Sys2Proof/Machine/ResetRequests.lean ====
section
/-! DEFINITION. The meanings of the RESET requests and the PART reset (R21, R99, R130, R166). -/

namespace Sys2Proof.Machine

/-- RESET_PART (R166): the agent takes the request at the head of its queue, when it is of this row. -/
def execResetPart (s : State) : Host.Outcome State Fault Refusal :=
  .next (runRequest .resetPart answerResetPart (settle s))

/-- PART_RESET (R166), once its reply has been sent. -/
def execPartReset (s : State) : Host.Outcome State Fault Refusal :=
  .next (takeDue .partReset s)

/-- RESET_LINE (R21, R166): the agent takes the request at the head of its queue, when it is of this row. -/
def execResetLine (s : State) : Host.Outcome State Fault Refusal :=
  .next (runRequest .resetLine answerResetLine (settle s))

/-- RESET_TRAFFIC (R99, R166): the agent takes the request at the head of its queue, when it is of this row. -/
def execResetTraffic (s : State) : Host.Outcome State Fault Refusal :=
  .next (runRequest .resetTraffic answerResetTraffic (settle s))

/-- RESET_VOICE (R130, R166): the agent takes the request at the head of its queue, when it is of this row. -/
def execResetVoice (s : State) : Host.Outcome State Fault Refusal :=
  .next (runRequest .resetVoice answerResetVoice (settle s))

/-- RESET_MONITOR (R166): the agent takes the request at the head of its queue, when it is of this row. -/
def execResetMonitor (s : State) : Host.Outcome State Fault Refusal :=
  .next (runRequest .resetMonitor answerResetMonitor (settle s))

end Sys2Proof.Machine
end

