-- ==== Sys2Proof/Machine/StoreRequests.lean ====
section
/-! DEFINITION. The meanings of the requests that read and write the store and read what the part has kept (R142, R144, R149, R155, R160, R162 to R164),
and a request of no kind (R169). -/

namespace Sys2Proof.Machine

/-- READ_TABLE (R162): the agent takes the request at the head of its queue, when it is of this row. -/
def execReadTable (s : State) : Host.Outcome State Fault Refusal :=
  .next (runRequest .readTable answerReadTable (settle s))

/-- WRITE_TABLE (R163): the agent takes the request at the head of its queue, when it is of this row. -/
def execWriteTable (s : State) : Host.Outcome State Fault Refusal :=
  .next (runRequest .writeTable answerWriteTable (settle s))

/-- WRITE_ON (R163): the agent takes the request at the head of its queue, when it is of this row. -/
def execWriteOn (s : State) : Host.Outcome State Fault Refusal :=
  .next (runRequest .writeOn answerWriteOn (settle s))

/-- READ_STATUS (R160): the agent takes the request at the head of its queue, when it is of this row. -/
def execReadStatus (s : State) : Host.Outcome State Fault Refusal :=
  .next (runRequest .readStatus answerReadStatus (settle s))

/-- READ_COUNTERS (R142): the agent takes the request at the head of its queue, when it is of this row. -/
def execReadCounters (s : State) : Host.Outcome State Fault Refusal :=
  .next (runRequest .readCounters answerReadCounters (settle s))

/-- READ_HISTORY (R144): the agent takes the request at the head of its queue, when it is of this row. -/
def execReadHistory (s : State) : Host.Outcome State Fault Refusal :=
  .next (runRequest .readHistory answerReadHistory (settle s))

/-- READ_LOG (R155): the agent takes the request at the head of its queue, when it is of this row. -/
def execReadLog (s : State) : Host.Outcome State Fault Refusal :=
  .next (runRequest .readLog answerReadLog (settle s))

/-- READ_EVENTS (R149): the agent takes the request at the head of its queue, when it is of this row. -/
def execReadEvents (s : State) : Host.Outcome State Fault Refusal :=
  .next (runRequest .readEvents answerReadEvents (settle s))

/-- CLEAR_EVENTS (R149): the agent takes the request at the head of its queue, when it is of this row. -/
def execClearEvents (s : State) : Host.Outcome State Fault Refusal :=
  .next (runRequest .clearEvents answerClearEvents (settle s))

/-- SET_PARTITION (R164): the agent takes the request at the head of its queue, when it is of this row. -/
def execSetPartition (s : State) : Host.Outcome State Fault Refusal :=
  .next (runRequest .setPartition answerSetPartition (settle s))

/-- BAD_KIND_REQUEST (R169): the agent takes the request at the head of its queue, when it is of this row. -/
def execBadKindRequest (s : State) : Host.Outcome State Fault Refusal :=
  .next (runRequest .badKind answerBadKind (settle s))

end Sys2Proof.Machine
end

