-- ==== Sys2Proof/Machine/UnitsFrames.lean ====
section
/-! DEFINITION. The meanings of units on the line and frames at the home port (R18, R19, R72, R81, R84, R125). -/

namespace Sys2Proof.Machine

/-- UNIT_PULL (R18). -/
def execUnitPull (s : State) : Host.Outcome State Fault Refusal :=
  .next (pullUnit (settle s))

/-- RECEIVED_UNIT (R19); the step of a frame it completes comes due (R20). -/
def execReceivedUnit (unit : Bytes) (damaged : Bool) (s : State) : Host.Outcome State Fault Refusal :=
  .next (receiveUnit unit damaged (settle s))

/-- DOWNSTREAM_FRAME (R81). -/
def execDownstreamFrame (s : State) : Host.Outcome State Fault Refusal :=
  .next (takeFirst Due.isData s)

/-- VOICE_ARRIVAL (R125). -/
def execVoiceArrival (s : State) : Host.Outcome State Fault Refusal :=
  .next (takeFirst Due.isVoice s)

/-- HOME_FRAME_ARRIVAL (R72). -/
def execHomeFrameArrival (frame : Bytes) (fcsRight : Bool) (s : State) : Host.Outcome State Fault Refusal :=
  .next (homeArrival frame fcsRight (settle s))

/-- HOME_FRAME_SENT (R84). -/
def execHomeFrameSent (s : State) : Host.Outcome State Fault Refusal :=
  .next (finishSending (settle s))

end Sys2Proof.Machine
end

