-- ==== Sys2Proof/Machine/Dispatch.lean ====
section
/-! DEFINITION. One arm per command. -/

namespace Sys2Proof.Machine

/-- The effect of a command on everything but the queue of commands. -/
def exec (i : Instr) (s : State) : Host.Outcome State Fault Refusal :=
  match i with
  | .powerOn => Sys2Proof.Machine.execPowerOn s
  | .msTick mainsOk battLow => Sys2Proof.Machine.execMsTick mainsOk battLow s
  | .secondTick => Sys2Proof.Machine.execSecondTick s
  | .intervalClose => Sys2Proof.Machine.execIntervalClose s
  | .trained r => Sys2Proof.Machine.execTrained r s
  | .trainFailed reason => Sys2Proof.Machine.execTrainFailed reason s
  | .signalLost => Sys2Proof.Machine.execSignalLost s
  | .frameReport r => Sys2Proof.Machine.execFrameReport r s
  | .guardCountdown d => Sys2Proof.Machine.execGuardCountdown d s
  | .offerDeadline => Sys2Proof.Machine.execOfferDeadline s
  | .offerSwitch => Sys2Proof.Machine.execOfferSwitch s
  | .farChangeSwitch => Sys2Proof.Machine.execFarChangeSwitch s
  | .cutbackSwitch => Sys2Proof.Machine.execCutbackSwitch s
  | .marginReport ratios => Sys2Proof.Machine.execMarginReport ratios s
  | .trainingTimeout => Sys2Proof.Machine.execTrainingTimeout s
  | .holdoffExpiry => Sys2Proof.Machine.execHoldoffExpiry s
  | .silenceExpiry => Sys2Proof.Machine.execSilenceExpiry s
  | .unitPull => Sys2Proof.Machine.execUnitPull s
  | .receivedUnit unit damaged => Sys2Proof.Machine.execReceivedUnit unit damaged s
  | .downstreamFrame => Sys2Proof.Machine.execDownstreamFrame s
  | .voiceArrival => Sys2Proof.Machine.execVoiceArrival s
  | .loadOffer => Sys2Proof.Machine.execLoadOffer s
  | .loadTake => Sys2Proof.Machine.execLoadTake s
  | .loadDecline => Sys2Proof.Machine.execLoadDecline s
  | .cutbackTaken => Sys2Proof.Machine.execCutbackTaken s
  | .inboundCutback => Sys2Proof.Machine.execInboundCutback s
  | .farQuery => Sys2Proof.Machine.execFarQuery s
  | .homeFrameArrival frame fcsRight => Sys2Proof.Machine.execHomeFrameArrival frame fcsRight s
  | .homeFrameSent => Sys2Proof.Machine.execHomeFrameSent s
  | .hookAcceptance p => Sys2Proof.Machine.execHookAcceptance p s
  | .breakPulsesComplete p => Sys2Proof.Machine.execBreakPulsesComplete p s
  | .hangUp p => Sys2Proof.Machine.execHangUp p s
  | .interdigitExpiry p => Sys2Proof.Machine.execInterdigitExpiry p s
  | .ringPhaseEnd p => Sys2Proof.Machine.execRingPhaseEnd p s
  | .pinAcceptance pin => Sys2Proof.Machine.execPinAcceptance pin s
  | .frameBoundary p => Sys2Proof.Machine.execFrameBoundary p s
  | .pacingExpiry => Sys2Proof.Machine.execPacingExpiry s
  | .readTable => Sys2Proof.Machine.execReadTable s
  | .writeTable => Sys2Proof.Machine.execWriteTable s
  | .writeOn => Sys2Proof.Machine.execWriteOn s
  | .readStatus => Sys2Proof.Machine.execReadStatus s
  | .readCounters => Sys2Proof.Machine.execReadCounters s
  | .readHistory => Sys2Proof.Machine.execReadHistory s
  | .readLog => Sys2Proof.Machine.execReadLog s
  | .readEvents => Sys2Proof.Machine.execReadEvents s
  | .clearEvents => Sys2Proof.Machine.execClearEvents s
  | .start => Sys2Proof.Machine.execStart s
  | .stop => Sys2Proof.Machine.execStop s
  | .retrain => Sys2Proof.Machine.execRetrain s
  | .channelOpenLine => Sys2Proof.Machine.execChannelOpenLine s
  | .channelOpenIntercom => Sys2Proof.Machine.execChannelOpenIntercom s
  | .channelClose => Sys2Proof.Machine.execChannelClose s
  | .ring => Sys2Proof.Machine.execRing s
  | .ringStop => Sys2Proof.Machine.execRingStop s
  | .portControl => Sys2Proof.Machine.execPortControl s
  | .hostSleep => Sys2Proof.Machine.execHostSleep s
  | .setPartition => Sys2Proof.Machine.execSetPartition s
  | .resetPart => Sys2Proof.Machine.execResetPart s
  | .partReset => Sys2Proof.Machine.execPartReset s
  | .resetLine => Sys2Proof.Machine.execResetLine s
  | .resetTraffic => Sys2Proof.Machine.execResetTraffic s
  | .resetVoice => Sys2Proof.Machine.execResetVoice s
  | .resetMonitor => Sys2Proof.Machine.execResetMonitor s
  | .badKindRequest => Sys2Proof.Machine.execBadKindRequest s
  | .sampleFrame one two => Sys2Proof.Machine.execSampleFrame one two s

end Sys2Proof.Machine
end

