-- ==== Sys2Proof/WellFormed.lean ====
section
/-! DEFINITION. Which commands the LF3's ports can carry: the counts and ranges that R101 and R175 give each record. The
meanings are total and read an ill-formed command too; well-formedness is what the far side of each port keeps. -/

namespace Sys2Proof

/-- R175: 64 receive loads and 32 transmit loads, each a byte on the bus, and two levels. -/
def TrainedRecord.WellFormed (r : TrainedRecord) : Prop :=
  r.rxLoads.length = 64 ∧ r.txLoads.length = 32 ∧ (∀ b ∈ r.rxLoads, b < 256) ∧ (∀ b ∈ r.txLoads, b < 256) ∧
    r.rxLevel < 256 ∧ r.txLevel < 256

/-- R175: 0 to 4 bursts, each an offset and a length of a byte. -/
def FrameReport.WellFormed (r : FrameReport) : Prop :=
  r.bursts.length ≤ 4 ∧ ∀ b ∈ r.bursts, b.offset < 256 ∧ b.length < 256

/-- A command that the LF3's ports can carry (R175): every other row brings no counted content. -/
def Instr.WellFormed : Instr → Prop
  | .trained r => r.WellFormed
  | .frameReport r => r.WellFormed
  | .marginReport ratios => ratios.length = 64
  | .receivedUnit unit _ => unit.length = 64
  | .powerOn => True
  | .msTick _ _ => True
  | .secondTick => True
  | .intervalClose => True
  | .trainFailed _ => True
  | .signalLost => True
  | .guardCountdown _ => True
  | .offerDeadline => True
  | .offerSwitch => True
  | .farChangeSwitch => True
  | .cutbackSwitch => True
  | .trainingTimeout => True
  | .holdoffExpiry => True
  | .silenceExpiry => True
  | .unitPull => True
  | .downstreamFrame => True
  | .voiceArrival => True
  | .loadOffer => True
  | .loadTake => True
  | .loadDecline => True
  | .cutbackTaken => True
  | .inboundCutback => True
  | .farQuery => True
  | .homeFrameArrival _ _ => True
  | .homeFrameSent => True
  | .hookAcceptance _ => True
  | .breakPulsesComplete _ => True
  | .hangUp _ => True
  | .interdigitExpiry _ => True
  | .ringPhaseEnd _ => True
  | .pinAcceptance _ => True
  | .frameBoundary _ => True
  | .pacingExpiry => True
  | .readTable => True
  | .writeTable => True
  | .writeOn => True
  | .readStatus => True
  | .readCounters => True
  | .readHistory => True
  | .readLog => True
  | .readEvents => True
  | .clearEvents => True
  | .start => True
  | .stop => True
  | .retrain => True
  | .channelOpenLine => True
  | .channelOpenIntercom => True
  | .channelClose => True
  | .ring => True
  | .ringStop => True
  | .portControl => True
  | .hostSleep => True
  | .setPartition => True
  | .resetPart => True
  | .partReset => True
  | .resetLine => True
  | .resetTraffic => True
  | .resetVoice => True
  | .resetMonitor => True
  | .badKindRequest => True
  | .sampleFrame _ _ => True

end Sys2Proof
end

