-- ==== Sys2Proof/Safety.lean ====
section
/-! DEFINITION. The terms the statements use: what the part's registers keep at all times (each a fact about one state),
what an occurrence may touch, and how a request is asked and answered. -/

namespace Sys2Proof.Machine

/-! ## What every step keeps -/

/-- R45, R82, R83, R93, R94, R106, R144, R159: every queue and ring stays within its depth, and the credit within the
bucket. -/
structure DepthsOk (s : State) : Prop where
  mq       : s.sch.mq.length ≤ 8
  credit   : s.sch.credit ≤ 32000
  home     : s.cls.homeQueue.length ≤ 32
  mgmt     : s.cls.mgmtQueue.length ≤ 8
  requests : s.agent.queue.length ≤ 4
  bursts   : s.track.history.length ≤ 8
  history  : s.mon.history.length ≤ 16
  digits   : ∀ p, (s.port p).digits.length ≤ 16

/-- R74, R108, R154, R164: N lies in 0..8, the class table holds 32 + 8N entries, the log at most 192 - 16N records, and the
cadence table 8 entries of at most four segments. -/
structure StoreOk (s : State) : Prop where
  partition : s.agent.partition ≤ 8
  table     : s.cls.table.length = 32 + 8 * s.agent.partition
  log       : s.evt.log.length ≤ 192 - 16 * s.agent.partition
  cadence   : s.phone.cadence.length = 8 ∧ ∀ e ∈ s.phone.cadence, e.length ≤ 4

/-- R22: a table has its length and every load of it lies in 0..12. -/
def TableOk (n : Nat) (t : List Nat) : Prop := t.length = n ∧ ∀ b ∈ t, b ≤ 12

/-- The table of the offer that an own-offer record holds. -/
def OwnRecord.table : OwnRecord → Option (List Nat)
  | .none => Option.none
  | .outstanding o => some o.table
  | .confirmed o => some o.table

/-- The table that a transmit change record holds. -/
def TxRecord.table : TxRecord → Option (List Nat)
  | .none => Option.none
  | .farPending f => some f.table
  | .cutbackOut c => some c.table

/-- R9, R22: the tables in force and those of the changes in flight are in range. -/
structure LoadsOk (s : State) : Prop where
  rx  : TableOk 64 s.load.rxLoads
  tx  : TableOk 32 s.load.txLoads
  own : ∀ t, s.load.own.table = some t → TableOk 64 t
  far : ∀ t, s.load.tx.table = some t → TableOk 32 t

/-- R61 to R67: the rate record is the one that the tables, protection, line state, caps, mode and share in force give. -/
def RateOk (s : State) : Prop := s.rate = rateRecord s

/-- R37, R38: a transmit loading above the ceiling of LIFELINE or RESERVE in RUN has a change in flight. -/
def CutbackOk (s : State) : Prop :=
  s.supply.mode ≠ .mains → s.line.state = .run →
    s.params.loadCeiling.get s.supply.mode < 8 * s.load.txLoads.sum → s.load.tx ≠ .none

/-- R87, R88, R90: no data queue is over its limit, the pool is not over 1024 units, a shed queue is empty, and the
shedding level in force is the SHED of the mode in force. -/
structure QueuesOk (s : State) : Prop where
  limit : ∀ i, occupancy (s.sch.queues.get i) ≤ s.params.qLimit.get i
  pool  : poolOccupancy s.sch.queues ≤ 1024
  shed  : ∀ i, shedAt s.sch.shedLevel i = true → s.sch.queues.get i = []
  level : s.sch.shedLevel = s.params.shed.get s.supply.mode

/-- R86, R96: only the data frame in progress has begun to be sent: it is the head of its queue, and its last unit has
not been sent. -/
structure ProgressOk (s : State) : Prop where
  started : ∀ i f, f ∈ s.sch.queues.get i → 0 < f.sent → s.sch.inProgress = some i
  behind  : ∀ i f rest, s.sch.queues.get i = f :: rest → ∀ g ∈ rest, g.sent = 0
  head    : ∀ i, s.sch.inProgress = some i → ∃ f rest, s.sch.queues.get i = f :: rest ∧ 0 < f.sent ∧ f.sent < f.units

/-- R91, R92: VQ holds frames of OPEN LINE records alone, each tagged with its record's stream, at most four of a record,
and only its oldest can be in progress. -/
structure VoiceQueueOk (s : State) : Prop where
  held   : ∀ f ∈ s.sch.vq, (s.record f.port).call.lineStream = some f.stream
  four   : ∀ p, (vqOf s.sch.vq p).length ≤ 4
  behind : ∀ f rest, s.sch.vq = f :: rest → ∀ g ∈ rest, g.started = false

/-- R117, R118, R119: an intercom holds both records at one position, and two LINE records have different streams of
0..15. -/
structure CallsOk (s : State) : Prop where
  linked   : ∀ p n, (s.record p).call = .intercom n → (s.record (otherPort p)).call = .intercom n
  distinct : ∀ m n, s.voice.one.call.lineStream = some m → s.voice.two.call.lineStream = some n → m ≠ n
  stream   : ∀ p m, (s.record p).call.lineStream = some m → m ≤ 15

/-- R118, R125, R126: the jitter buffer of an OPEN LINE record holds at most 8 frames, of distinct sequence numbers, each 0..7
after the expected number; with no expected number it is empty and FILLING; a FILLING buffer holds the frame with the
expected number, which is the first that it will play; and the target lies in 1..6. -/
structure BuffersOk (s : State) : Prop where
  eight    : ∀ p c, (s.record p).call = .line c → c.buffer.held.length ≤ 8
  distinct : ∀ p c, (s.record p).call = .line c → (c.buffer.held.map HeldFrame.seq).Nodup
  window   : ∀ p c e, (s.record p).call = .line c → c.buffer.expected = some e →
    ∀ f ∈ c.buffer.held, (f.seq - e).toNat ≤ 7
  empty    : ∀ p c, (s.record p).call = .line c → c.buffer.expected = none →
    c.buffer.held = [] ∧ c.buffer.playing = false
  first    : ∀ p c e, (s.record p).call = .line c → c.buffer.playing = false → c.buffer.expected = some e →
    ∃ f ∈ c.buffer.held, f.seq = e
  target   : ∀ p c, (s.record p).call = .line c → 1 ≤ c.target ∧ c.target ≤ 6

/-- R110, R113, R121: port 1 is fed, port 2 is fed as PORT2-FEED of the mode in force says, an unfed port has no call,
and a ring is held while the port is RINGING and at no other time. -/
structure PortsOk (s : State) : Prop where
  one   : s.phone.ports.one.state ≠ .unfed
  two   : s.phone.ports.two.state = .unfed ↔ s.params.port2Feed.get s.supply.mode ≠ 1
  call  : ∀ p, (s.port p).state = .unfed → (s.record p).call = .free
  rings : ∀ p, (s.port p).ring.isSome = true ↔ (s.port p).state = .ringing

/-- R141: until the seconds counter reaches its maximum the line-state counters sum to it, and so do the supply-mode
counters; the binding-limit counters sum to the RUN counter, which the impulse-cost counter never exceeds. -/
def ResidencyOk (s : State) : Prop :=
  s.mon.seconds < counterMax →
    s.mon.perf.inOff + s.mon.perf.inTraining + s.mon.perf.inRun + s.mon.perf.inHoldoff = s.mon.seconds ∧
    s.mon.perf.inMains + s.mon.perf.inLifeline + s.mon.perf.inReserve = s.mon.seconds ∧
    s.mon.perf.boundSupply + s.mon.perf.boundProvider + s.mon.perf.boundLine = s.mon.perf.inRun ∧
    s.mon.perf.impulseCost ≤ s.mon.perf.inRun

/-- R84: the port is sending the oldest frame of a queue, or one that a TRAFFIC reset has taken from its queue; a free
port leaves no frame waiting, unless a PART reset is due. -/
structure HomePortOk (s : State) : Prop where
  mgmt : ∀ f, s.cls.sending = some (.mgmt f) → s.cls.mgmtQueue.head? = some f
  home : ∀ f, s.cls.sending = some (.home f) → s.cls.homeQueue.head? = some f
  free : s.cls.sending = none → .partReset ∉ s.due → s.cls.mgmtQueue = [] ∧ s.cls.homeQueue = []

/-- R6: each of the three timers runs in its own line state and in no other. -/
structure TimersOk (s : State) : Prop where
  training : s.line.training.isSome = true ↔ s.line.state = .training
  silence  : s.line.silence.isSome = true ↔ s.line.state = .run
  holdoff  : s.line.holdoff.isSome = true ↔ s.line.state = .holdoff

/-- R14, R19, R93: outside RUN no change is in flight, no guard is in force, every context is IDLE, and VQ, MQ and the
send slot are empty. -/
structure OutsideRunOk (s : State) : Prop where
  own      : s.line.state ≠ .run → s.load.own = .none
  tx       : s.line.state ≠ .run → s.load.tx = .none
  guards   : s.line.state ≠ .run → ∀ d, (s.load.prot.get d).guard = none
  contexts : s.line.state ≠ .run → s.line.data = .idle ∧ s.line.manage = .idle ∧ ∀ c ∈ s.line.voice, c = .idle
  queues   : s.line.state ≠ .run → s.sch.vq = [] ∧ s.sch.mq = [] ∧ s.sch.slot = none

/-- R23, R55: the tracker's schedule of a direction has the period and width of the guard in force there, and is absent
with it. -/
def SchedulesOk (s : State) : Prop :=
  ∀ d, (s.track.sched.get d).map (fun x => (x.period, x.width)) = (s.load.prot.get d).guard.map Guard.shape

/-- R152: the host is not ASLEEP while a pending flag of a kind in WAKE-MASK is set. -/
def HostAwakeOk (s : State) : Prop := s.evt.asleep = true → s.evt.pending &&& s.params.wakeMask = 0

/-- R176: every numeric parameter lies in its range. -/
structure ParamsOk (p : Params) : Prop where
  trainTimeout   : 10 ≤ p.trainTimeout ∧ p.trainTimeout ≤ 255
  holdoff        : 1 ≤ p.holdoff ∧ p.holdoff ≤ 255
  silenceCount   : 2 ≤ p.silenceCount ∧ p.silenceCount ≤ 63
  reloadEnable   : p.reloadEnable ≤ 1
  mLow           : -40 ≤ p.mLow ∧ p.mLow ≤ 40
  mTarget        : 0 ≤ p.mTarget ∧ p.mTarget ≤ 60
  mDrop          : -80 ≤ p.mDrop ∧ p.mDrop ≤ 0
  cadenceTol     : 1 ≤ p.cadenceTol ∧ p.cadenceTol ≤ 16
  guardMargin    : p.guardMargin ≤ 4
  providerCap    : 100 ≤ p.providerCap ∧ p.providerCap ≤ 48000
  voiceShare     : 1 ≤ p.voiceShare ∧ p.voiceShare ≤ 16
  supplyCap      : ∀ m, 100 ≤ p.supplyCap.get m ∧ p.supplyCap.get m ≤ 48000
  loadCeiling    : ∀ m, p.loadCeiling.get m ≤ 3072
  shed           : ∀ m, p.shed.get m ≤ 3
  port2Feed      : ∀ m, p.port2Feed.get m ≤ 1
  defaultQueue   : p.defaultQueue ≤ 3
  qLimit         : ∀ i, 16 ≤ p.qLimit.get i ∧ p.qLimit.get i ≤ 1024
  qWeight        : ∀ d, 1 ≤ p.qWeight.get d ∧ p.qWeight.get d ≤ 15
  ageLimit       : 1 ≤ p.ageLimit ∧ p.ageLimit ≤ 50
  hookDebounce   : 5 ≤ p.hookDebounce ∧ p.hookDebounce ≤ 50
  flashMax       : 200 ≤ p.flashMax ∧ p.flashMax ≤ 1000
  interdigit     : 200 ≤ p.interdigit ∧ p.interdigit ≤ 800
  jitterTarget   : 1 ≤ p.jitterTarget ∧ p.jitterTarget ≤ 6
  sesThreshold   : 1 ≤ p.sesThreshold ∧ p.sesThreshold ≤ 4000
  noticeInterval : p.noticeInterval ≤ 255
  farReportEvery : 1 ≤ p.farReportEvery ∧ p.farReportEvery ≤ 255

/-! ## What an occurrence may touch (R148) -/

/-- `t` differs from `s` at most in the event unit, the watches, and the management egress queue and the port that serves
it. -/
structure Quiet (s t : State) : Prop where
  pending : t.pending = s.pending
  due : t.due = s.due
  time : t.time = s.time
  line : t.line = s.line
  load : t.load = s.load
  track : t.track = s.track
  rate : t.rate = s.rate
  sch : t.sch = s.sch
  phone : t.phone = s.phone
  voice : t.voice = s.voice
  supply : t.supply = s.supply
  agent : t.agent = s.agent
  out : t.out = s.out
  table : t.cls.table = s.cls.table
  homeQueue : t.cls.homeQueue = s.cls.homeQueue
  mon : t.mon = { s.mon with watches := t.mon.watches }

/-- The occurrence that a log record tells of. -/
def LogRecord.event (r : LogRecord) : Event := ⟨r.kind, r.detailA, r.detailB⟩

/-- R154: a log with room for `room` records after one more: a full log loses its oldest. -/
def joinLog (room : Nat) (log : List LogRecord) (r : LogRecord) : List LogRecord :=
  (if log.length < room then log else log.drop 1) ++ [r]

/-- R147, R148, R154: the log of `t` is that of `s` with the records of the occurrences `es`, in their order, each with its
details: those logged each, and those logged on set whose flag is clear in `s`. The only other records written are of WATCH,
with the index of a watch, and of these at most one, when WATCH's flag is clear in `s`. -/
def LogGains (es : List Event) (s t : State) : Prop :=
  ∃ new : List LogRecord,
    t.evt.log = new.foldl (joinLog (192 - 16 * s.agent.partition)) s.evt.log ∧
    (new.filter fun r => r.kind != .watch).map LogRecord.event =
      es.filter (fun e => e.kind != .watch && logsNow e.kind (s.evt.pending.has e.kind)) ∧
    (∀ r ∈ new, r.kind = .watch → r.event ∈ es ∨ ∃ i : Ix4, r.event = .withA .watch i.num) ∧
    (new.filter fun r => r.kind == .watch).length ≤ (if s.evt.pending.has .watch then 0 else 1)

/-- R148: `t` is `s` after the occurrences listed and whatever they bring: their flags are set, no other flag but WATCH's
has changed, their records are in the log, and beside the event unit only the watches and the management egress queue may
differ. -/
structure Raised (es : List Event) (s t : State) : Prop where
  quiet  : Quiet s t
  set    : ∀ e ∈ es, t.evt.pending.has e.kind = true
  other  : ∀ k, (∀ e ∈ es, e.kind ≠ k) → k ≠ .watch → t.evt.pending.has k = s.evt.pending.has k
  watch  : s.evt.pending.has .watch = true → t.evt.pending.has .watch = true
  logged : LogGains es s t

/-- R113, R121: the occurrences that a loss of port 2's feed brings: RING-DONE, stopped, of a port that was RINGING, and
CHANNEL-CLOSED of its record and of an intercom's other record. An UNFED port has no feed to lose. The order of the three is
the model's choice (log entry 24). -/
def feedLossEvents (s : State) : List Event :=
  if (s.port .p2).state = .unfed then []
  else
    (if (s.port .p2).state = .ringing then [.withA .ringDone 1] else []) ++
      match (s.record .p2).call with
      | .free => []
      | .line _ => [.withA .channelClosed 2]
      | .intercom _ => [.withA .channelClosed 1, .withA .channelClosed 2]

/-! ## What the watches count (R145, R146) -/

/-- R146: what a condition of a watch says of the state. -/
def Condition.Holds (c : Condition) (s : State) : Prop :=
  match c with
  | .lineRun => s.line.state = .run
  | .bindingSupply => s.rate.binding = .supply
  | .bindingProvider => s.rate.binding = .provider
  | .bindingLine => s.rate.binding = .line
  | .guardArmed => s.track.sched.rx ≠ none ∨ s.track.sched.tx ≠ none
  | .cadenceLocked => s.track.lock ≠ none
  | .onBattery => s.supply.mode ≠ .mains
  | .port1OffHook => (s.port .p1).state = .offHook ∨ (s.port .p1).state = .inBreak
  | .port2OffHook => (s.port .p2).state = .offHook ∨ (s.port .p2).state = .inBreak

/-- R146: a watch counts once from `s` to `t` when it is `hit`, and raises WATCH at its threshold; otherwise it stays. -/
def WatchCounts (hit : Prop) (i : Ix4) (s t : State) : Prop :=
  let w := s.mon.watches.get i
  (hit → t.mon.watches.get i = { w with count := satInc w.count } ∧
    (w.threshold = w.count + 1 → w.count < counterMax → t.evt.pending.has .watch = true)) ∧
  (¬ hit → t.mon.watches.get i = w)

/-- R146: a watch in EDGE mode counts from `s` to `t` exactly when its condition is entered. -/
def EdgesCounted (s t : State) : Prop :=
  ∀ i c, (s.mon.watches.get i).source = .edge c → WatchCounts (¬ c.Holds s ∧ c.Holds t) i s t

/-- R145: a watch on messages counts from `s` to `t` exactly when a field of it matches the message seen. -/
def MessageSeen (inbound : Bool) (k : MsgKind) (s t : State) : Prop :=
  ∀ i a b, (s.mon.watches.get i).source = .message a b →
    WatchCounts (a.admits inbound k = true ∨ b.admits inbound k = true) i s t

/-! ## Steps that come due, and requests -/

/-- The state in which a due step acts: it is due no longer. -/
def dueTaken (d : Due) (s : State) : State := { s with due := s.due.erase d }

/-- R159: the agent is idle and the oldest request is `r`, a request of a row. -/
structure Asked (row : RequestRow) (r : Request) (rest : List Request) (s : State) : Prop where
  oldest : (settle s).agent.queue = r :: rest
  idle   : agentIdle (settle s) = true
  row    : r.row = row

/-- R159: the state in which the agent executes its oldest request: that request has left the queue. -/
def executing (rest : List Request) (s : State) : State :=
  { settle s with agent := { (settle s).agent with queue := rest } }

/-- R159, R83: a request has been executed and left `v`: its reply is offered. -/
def replied (r : Request) (st : Status) (body : Bytes) (v : State) : State :=
  offerReply (replyFrame r { status := st, body := body, state := v } v.agent.partWait) v

/-- R169: a request carries a body of `n` bytes, there in full. -/
def Request.HasBody (r : Request) (n : Nat) : Prop := r.bodyLen = n ∧ n ≤ r.rest.length

/-! ## The line after an event of its own -/

/-- The state of a training attempt that has failed from `u` (R10), `bus` being what the transceiver is then sent. -/
def trainingFailedFrom (u : State) (bus : List BusCommand) : State :=
  { u with
    line := { u.line with state := .holdoff, training := none, holdoff := some 0 }
    mon := { u.mon with line := { u.mon.line with trainFailures := satInc u.mon.line.trainFailures } }
    out := { u.out with commands := u.out.commands ++ bus } }

/-- The state of a line that has left RUN for TRAINING from `u` (R13): the line-down event, HALT and TRAIN, and one retrain
counted. -/
def retrainedFrom (u : State) : State :=
  let v := leaveRun .training u
  { v with
    line := { v.line with training := some 0, holdoff := none }
    mon := { v.mon with line := { v.mon.line with retrains := satInc v.mon.line.retrains }
                        interval := { v.mon.interval with retrains := satInc v.mon.interval.retrains } }
    out := { v.out with commands := v.out.commands ++ [.halt, .train (u.params.loadCeiling.get u.supply.mode)] } }

/-- The state of a line that has entered TRAINING from HOLDOFF in `u` (R8, R11). -/
def trainingFromHoldoff (u : State) : State :=
  { u with
    line := { u.line with state := .training, training := some 0, holdoff := none }
    mon := { u.mon with line := { u.mon.line with retrains := satInc u.mon.line.retrains }
                        interval := { u.mon.interval with retrains := satInc u.mon.interval.retrains } }
    out := { u.out with commands := u.out.commands ++ [.train (u.params.loadCeiling.get u.supply.mode)] } }

/-! ## The reload exchange after an event of its own -/

/-- The state of an own offer that has failed from `u` (R32, R33). -/
def offerFailedFrom (o : OwnOffer) (u : State) : State :=
  { u with
    load := { u.load with own := .none, holdoff := 4, failures := min (u.load.failures + 1) 255 }
    mon := { u.mon with line := { u.mon.line with offersFailed := satInc u.mon.line.offersFailed }
                        interval := { u.mon.interval with offersFailed := satInc u.mon.interval.offersFailed } }
    out := { u.out with commands := u.out.commands ++ [.tableCancel .receive o.switch] } }

/-- The state with a guard's schedule in a direction, or none, as the setting `p` asks (R55). -/
def schedulesWith (d : Direction) (p : Protection) (u : State) : Dirs (Option Schedule) :=
  u.track.sched.set d (p.guard.map fun g => g.schedule u.line.symbolCount)

/-- R30, R36, R38, R57: `p` is the setting in force in a direction, carried over to a change that switches at symbol `sym`:
the same level and guard, the guard's anchor moved on by whole periods to its first start at or after `sym`. -/
def CarriedOver (d : Direction) (sym : Word32) (s : State) (p : Protection) : Prop :=
  p.setting = (s.load.prot.get d).setting ∧
  ∀ g x, p.guard = some g → s.track.sched.get d = some x → 0 < x.period → x.period < 2 ^ 31 →
    (atOrAfter x.next sym = true → g.anchor = x.next) ∧
    (atOrAfter x.next sym = false → (g.anchor - sym).toNat < x.period ∧
      (x.period : Int) ∣ (x.next - sym).toInt - (g.anchor - sym).toNat)

/-! ## Rings -/

/-- R108: the segments of a cadence entry, which ends at its first segment whose on and off times are both 0. -/
def segments (e : List Segment) : List Segment := e.takeWhile fun g => decide (g ≠ ⟨0, 0⟩)

/-- R110: the phases of a cadence entry in order, each in units of 10 ms: on and off of its first segment, and so on. -/
def ringPhases (e : List Segment) : List Nat := (segments e).flatMap fun g => [g.on, g.off]

/-- R110: `k` is the first phase of those that lasts any time. -/
def FirstPhase (phases : List Nat) (k : Nat) : Prop := 0 < phases.getD k 0 ∧ ∀ j, j < k → phases.getD j 0 = 0

/-- The state of an own offer that has switched from `u` (R34): the table, a new protection setting if it carried one, and
the rates recomputed. -/
def offerSwitchedFrom (o : OwnOffer) (u : State) : State :=
  let w := { u with
    load := { u.load with
      rxLoads := o.table, own := .none, holdoff := 1, failures := 0
      prot := match o.newProt with
        | none => u.load.prot
        | some p => u.load.prot.set .receive p }
    track := match o.newProt with
      | none => u.track
      | some p => { u.track with sched := schedulesWith .receive p u, lowerHold := 0 } }
  { w with
    rate := rateRecord w
    mon := { u.mon with line := { u.mon.line with offersTaken := satInc u.mon.line.offersTaken }
                        interval := { u.mon.interval with offersTaken := satInc u.mon.interval.offersTaken } } }

/-- The state of a far-end change that has switched from `u` (R36), before the cutback test. -/
def farChangedFrom (f : FarPending) (u : State) : State :=
  let w := { u with
    load := { u.load with
      txLoads := f.table, tx := .none
      prot := match f.newProt with
        | none => u.load.prot
        | some p => u.load.prot.set .transmit p }
    track := match f.newProt with
      | none => u.track
      | some p => { u.track with sched := schedulesWith .transmit p u } }
  { w with
    rate := rateRecord w
    mon := { u.mon with line := { u.mon.line with farTaken := satInc u.mon.line.farTaken } } }

/-- The state of a cutback that has switched from `u` (R39), before the cutback test. -/
def cutbackDoneFrom (c : CutbackOut) (u : State) : State :=
  let w := { u with
    load := { u.load with
      txLoads := c.table, tx := .none, lastCutback := some { number := c.number, switched := true } } }
  { w with
    rate := rateRecord w
    mon := { u.mon with line :=
      if c.answered then { u.mon.line with cutbacksAnswered := satInc u.mon.line.cutbacksAnswered }
      else { u.mon.line with cutbacksUnanswered := satInc u.mon.line.cutbacksUnanswered } } }

end Sys2Proof.Machine
end

