-- ==== Sys2Proof/Certificates/Slice0/Obligations.lean ====
section
/-! DEFINITION. The statements for the provers. A result is given as `∃ t, exec c s = .next t ∧ …`, or as one equation whose
right side is the whole state after the command, so that what it does not name is left as it was; `Raised es v t` says that
`t` is the state `v` written out there but for the event unit, the watches and a notice, with the flags and the log records
of the occurrences `es`. The state in which a command
from outside acts is `settle s` (log entry 1), and that in which a due step acts is `dueTaken d s`. -/

open Sys2Proof Sys2Proof.Machine

/-! ## The queue of commands -/

/-- A step runs the command at the front of the queue on the state with the rest of the queue; on an empty queue the part
idles (the model's choice, log entry 2). -/
def Obligations.StepRunsTheFrontCommand : Prop :=
  (∀ (c : Instr) (rest : List Instr) (s : State), s.pending = c :: rest → step s = exec c { s with pending := rest }) ∧
  (∀ s : State, s.pending = [] → step s = .next s)

/-- No command faults or is refused in any state, and none touches the queue. What came due is taken before the next command
acts, so that nothing is left due, and a state in which nothing is due stays as it is (the model's choice, log entry 1). -/
def Obligations.EveryCommandCompletes : Prop :=
  (∀ (c : Instr) (s : State), ∃ t, exec c s = .next t ∧ t.pending = s.pending) ∧
  ((∀ s : State, (settle s).due = []) ∧ (∀ s : State, s.due = [] → settle s = s))

/-! ## After power-on -/

/-- R7, R43, R59, R60, R74, R99, R116, R117, R136, R137, R158, R159: what the power-on reset leaves; the commands
waiting stay. Choices of the model: log entries 1, 6. -/
def Obligations.PowerOnState : Prop :=
  ∀ s : State, ∃ t, exec .powerOn s = .next t ∧ t.pending = s.pending ∧ t.due = [] ∧ t.time = { ms := 0, divider := 0 } ∧
    t.line = { state := .off, training := none, holdoff := none, silence := none, symbolCount := 0, superframe := 0,
               data := .idle, manage := .idle, voice := List.replicate 16 .idle } ∧
    t.load.rxLoads = List.replicate 64 0 ∧ t.load.txLoads = List.replicate 32 0 ∧
    t.load.prot = ⟨{ level := .p0, guard := none }, { level := .p0, guard := none }⟩ ∧
    t.load.thresh = [0, 40, 52, 64, 76, 88, 100, 112, 124, 136, 148, 160, 172] ∧
    t.load.own = .none ∧ t.load.tx = .none ∧ t.load.offerNumber = 0 ∧ t.load.cutbackNumber = 0 ∧
    t.track.history = [] ∧ t.track.lock = none ∧ t.track.sched = ⟨none, none⟩ ∧ t.track.lowerHold = 0 ∧
    t.rate = { raw := ⟨0, 0⟩, net := ⟨0, 0⟩, capacity := ⟨0, 0⟩, effTx := 0, binding := .none, txAllowance := 0,
               rxAllowance := 0 } ∧
    t.cls.table = List.replicate 64 ClassEntry.empty ∧ t.cls.homeQueue = [] ∧ t.cls.mgmtQueue = [] ∧
    t.sch.queues = ⟨[], [], [], []⟩ ∧ t.sch.vq = [] ∧ t.sch.mq = [] ∧ t.sch.slot = none ∧ t.sch.credit = 0 ∧
    t.sch.shedLevel = 0 ∧ t.sch.turn = .q1 ∧ t.sch.deficit = ⟨0, 0, 0⟩ ∧ t.sch.mark = false ∧
    (∀ p, (t.port p).state = .onHook ∧ (t.port p).digits = [] ∧ (t.port p).pulses = 0 ∧ (t.port p).ring = none ∧
      (t.port p).muteToLine = false ∧ (t.port p).muteToPhone = false) ∧
    (∀ p, (t.record p).call = .free ∧ (t.record p).idle = 255) ∧
    t.supply.mode = .mains ∧ t.supply.mainsOk.accepted = none ∧ t.supply.battLow.accepted = none ∧
    t.mon.seconds = 0 ∧ t.mon.available = true ∧ t.mon.history = [] ∧
    t.evt.pending = 0 ∧ t.evt.noticeDue = 0 ∧ t.evt.farPending = 0 ∧ t.evt.pacing = .ready ∧ t.evt.asleep = false ∧
    t.evt.wakePin = false ∧ t.evt.log = [] ∧ t.evt.overwritten = 0 ∧ t.evt.reportAge = 255 ∧
    t.agent.queue = [] ∧ t.agent.cursor = none ∧ t.agent.partition = 4 ∧ t.agent.params = Params.reset ∧
    t.agent.params.station = 0x024C5A000001 ∧ t.agent.params.manager = 0

/-- The state after reset meets every invariant below. -/
def Obligations.ResetMeetsTheInvariants : Prop :=
  DepthsOk State.reset ∧ StoreOk State.reset ∧ LoadsOk State.reset ∧ RateOk State.reset ∧ CutbackOk State.reset ∧
  QueuesOk State.reset ∧ ProgressOk State.reset ∧ VoiceQueueOk State.reset ∧ CallsOk State.reset ∧
  BuffersOk State.reset ∧ PortsOk State.reset ∧ ResidencyOk State.reset ∧ HomePortOk State.reset ∧
  TimersOk State.reset ∧ OutsideRunOk State.reset ∧ SchedulesOk State.reset ∧ HostAwakeOk State.reset ∧ ParamsOk State.reset.params

/-! ## What every step keeps -/

/-- R45, R82, R83, R93, R94, R106, R144, R159: every queue stays within its depth. R74, R154, R164: the store fits its
partition. R84: the home port is free only when nothing waits. Choices of the model: log entries 1, 16. -/
def Obligations.StepKeepsTheDepthsAndTheStore : Prop :=
  (∀ s t : State, DepthsOk s → step s = .next t → DepthsOk t) ∧
  (∀ s t : State, StoreOk s → step s = .next t → StoreOk t) ∧
  (∀ s t : State, HomePortOk s → step s = .next t → HomePortOk t)

/-- R9, R22, R35: from a state whose tables are in range, and whose next command is one that the ports can carry, no step
brings a load above 12, or a table of another length, into force or into a change. -/
def Obligations.NoLoadAboveTwelveIsTaken : Prop :=
  ∀ s t : State, LoadsOk s → (∀ c rest, s.pending = c :: rest → c.WellFormed) → step s = .next t → LoadsOk t

/-- R64, R66, R67: the rate record is never out of date. -/
def Obligations.RateRecordIsCurrent : Prop := ∀ s t : State, RateOk s → step s = .next t → RateOk t

/-- R37, R39: on battery in RUN, a loading above the ceiling in force never stands without a change in flight. -/
def Obligations.CutbackIsNeverLeftOut : Prop := ∀ s t : State, CutbackOk s → step s = .next t → CutbackOk t

/-- R87, R88, R90: the limits, the pool and the shed queues. R86, R95, R98: only the data frame in progress is started. -/
def Obligations.DataQueuesKeepTheirRules : Prop :=
  (∀ s t : State, QueuesOk s → step s = .next t → QueuesOk t) ∧
  (∀ s t : State, ProgressOk s → step s = .next t → ProgressOk t)

/-- R91, R92: VQ holds only frames of OPEN LINE records. R118, R119, R120: an intercom stays linked, and streams distinct.
R125, R126: from a state whose parameters are in range, every jitter buffer keeps its eight places and its window. -/
def Obligations.CallsAndVoiceQueueAgree : Prop :=
  (∀ s t : State, VoiceQueueOk s → step s = .next t → VoiceQueueOk t) ∧
  (∀ s t : State, CallsOk s → step s = .next t → CallsOk t) ∧
  (∀ s t : State, ParamsOk s.params → BuffersOk s → step s = .next t → BuffersOk t)

/-- R110, R113, R114, R121. -/
def Obligations.FeedFollowsTheMode : Prop := ∀ s t : State, PortsOk s → step s = .next t → PortsOk t

/-- R141: from a state whose rate record is current. -/
def Obligations.ResidencySumsToTheSeconds : Prop :=
  ∀ s t : State, RateOk s → ResidencyOk s → step s = .next t → ResidencyOk t

/-- R6, R12: each timer runs in its own line state. R14, R41, R98: outside RUN nothing that needs a trained line stands. R23,
R55: the guard schedules are those of the guards in force. -/
def Obligations.LineStateGovernsWhatStands : Prop :=
  (∀ s t : State, TimersOk s → step s = .next t → TimersOk t) ∧
  (∀ s t : State, OutsideRunOk s → step s = .next t → OutsideRunOk t) ∧
  (∀ s t : State, SchedulesOk s → step s = .next t → SchedulesOk t)

/-- R152. -/
def Obligations.HostNeverSleepsOverAWakeFlag : Prop := ∀ s t : State, HostAwakeOk s → step s = .next t → HostAwakeOk t

/-! ## What only some commands can change -/

/-- R149: nothing that a block does clears a raw flag: CLEAR-EVENTS, a MONITOR reset, a PART reset and power-on do.
Choices of the model: log entry 1. -/
def Obligations.FlagsClearOnlyByTheirCommands : Prop :=
  ∀ (c : Instr) (s t : State) (k : Kind), c ≠ .clearEvents → c ≠ .resetMonitor → c ≠ .powerOn → .partReset ∉ s.due →
    exec c s = .next t → s.evt.pending.has k = true → t.evt.pending.has k = true

/-- R137: no request and no reset scope stops the time base or moves its phase. R136: no command but power-on moves
the supply mode, unless a pin's acceptance is due. R134, R163: no block scope and no block changes a parameter. R164:
no block scope changes the partition. R163, R176: every parameter stays in its range. Choices of the model: log entry
1. -/
def Obligations.WhatOnlySomeCommandsChange : Prop :=
  ((∀ (c : Instr) (s t : State), (∀ a b, c ≠ .msTick a b) → c ≠ .powerOn → exec c s = .next t → t.time = s.time) ∧
   (∀ (c : Instr) (s t : State), (∀ p, .pin p ∉ s.due) → c ≠ .powerOn → exec c s = .next t →
     t.supply.mode = s.supply.mode) ∧
   (∀ (c : Instr) (s t : State), .partReset ∉ s.due → c ≠ .writeTable → c ≠ .writeOn → c ≠ .powerOn →
     exec c s = .next t → t.params = s.params) ∧
   (∀ (c : Instr) (s t : State), .partReset ∉ s.due → c ≠ .setPartition → c ≠ .powerOn → exec c s = .next t →
     t.agent.partition = s.agent.partition)) ∧
  (∀ s t : State, ParamsOk s.params → step s = .next t → ParamsOk t.params)

/-! ## The rate unit -/

/-- R61, R62. -/
def Obligations.RawAndNetLoads : Prop :=
  ∀ s : State, LoadsOk s →
    (recompute s).rate.raw.rx = 8 * s.load.rxLoads.sum ∧ (recompute s).rate.raw.tx = 8 * s.load.txLoads.sum ∧
    (recompute s).rate.raw.rx ≤ 6144 ∧ (recompute s).rate.raw.tx ≤ 3072 ∧
    (∀ d, (recompute s).rate.net.get d =
      (recompute s).rate.raw.get d * (32 - (match (s.load.prot.get d).level with
        | .p0 => 0
        | .p1 => 2
        | .p2 => 4
        | .p3 => 8)) / 32) ∧
    (∀ d, (s.load.prot.get d).level = .p0 → (recompute s).rate.net.get d = (recompute s).rate.raw.get d)

/-- R63: the line capacities in RUN, their largest values, the worked example, the tracker's agreement, and the size of
every product. -/
def Obligations.LineCapacity : Prop :=
  (∀ (s : State) (d : Direction), s.line.state = .run →
    (recompute s).rate.capacity.get d =
      (match (s.load.prot.get d).guard with
        | none => 125 * (recompute s).rate.net.get d / 16
        | some g => 125 * (recompute s).rate.net.get d * (g.period - g.width) / (16 * g.period))) ∧
  (∀ s : State, LoadsOk s → s.line.state = .run →
    (recompute s).rate.capacity.rx ≤ 48000 ∧ (recompute s).rate.capacity.tx ≤ 24000) ∧
  capacityOf 1500 (some (4400, 5)) = 11705 ∧
  (∀ s : State, s.line.state = .run →
    s.load.prot.rx.setting.capacity (8 * s.load.rxLoads.sum) = (recompute s).rate.capacity.rx) ∧
  (∀ net period width : Nat, net ≤ 6144 → period ≤ 16000 → 125 * net * (period - width) < 2 ^ 40) ∧
  (∀ net period width : Nat, net ≤ 3072 → period ≤ 65535 → 0 < width →
    125 * net * (period - width) ≤ 25165056000 ∧ 25165056000 < 2 ^ 40)

/-- R64: the effective capacity and the binding limit. R67: outside RUN, at every trigger and at the line-down event, every
capacity is 0. -/
def Obligations.CapacitiesAndBindingLimit : Prop :=
  ((∀ s : State, s.line.state = .run →
     let line := (recompute s).rate.capacity.tx
     let provider := s.params.providerCap
     let supply := s.params.supplyCap.get s.supply.mode
     let m := min line (min provider supply)
     (recompute s).rate.effTx = m ∧
     ((recompute s).rate.binding = .supply ↔ supply = m) ∧
     ((recompute s).rate.binding = .provider ↔ supply ≠ m ∧ provider = m) ∧
     ((recompute s).rate.binding = .line ↔ supply ≠ m ∧ provider ≠ m)) ∧
   (∀ s : State, s.line.state ≠ .run →
     (recompute s).rate.effTx = 0 ∧ (recompute s).rate.capacity = ⟨0, 0⟩ ∧ (recompute s).rate.binding = .none)) ∧
  ((∀ s : State, s.line.state ≠ .run →
     (recompute s).rate =
       { raw := ⟨8 * s.load.rxLoads.sum, 8 * s.load.txLoads.sum⟩
         net := ⟨8 * s.load.rxLoads.sum * (32 - s.load.prot.rx.level.share) / 32,
                 8 * s.load.txLoads.sum * (32 - s.load.prot.tx.level.share) / 32⟩
         capacity := ⟨0, 0⟩, effTx := 0, binding := .none, txAllowance := 0, rxAllowance := 0 }) ∧
   (∀ (s : State) (dest : LineState), dest ≠ .run →
     (leaveRun dest s).rate =
       { raw := ⟨8 * s.load.rxLoads.sum, 8 * s.load.txLoads.sum⟩
         net := ⟨8 * s.load.rxLoads.sum * (32 - s.load.prot.rx.level.share) / 32,
                 8 * s.load.txLoads.sum * (32 - s.load.prot.tx.level.share) / 32⟩
         capacity := ⟨0, 0⟩, effTx := 0, binding := .none, txAllowance := 0, rxAllowance := 0 } ∧
     (leaveRun dest s).load.prot.rx.guard = none ∧ (leaveRun dest s).load.prot.tx.guard = none))

/-- R65, with the write of VOICE-SHARE, which is parameter 10. -/
def Obligations.VoiceAllowances : Prop :=
  (∀ s : State, s.line.state = .run →
    (recompute s).rate.txAllowance = (recompute s).rate.effTx * s.params.voiceShare / 16 ∧
    (recompute s).rate.rxAllowance = (recompute s).rate.capacity.rx * s.params.voiceShare / 16) ∧
  (∀ s : State, s.line.state ≠ .run → (recompute s).rate.txAllowance = 0 ∧ (recompute s).rate.rxAllowance = 0) ∧
  (∀ (s : State) (b : Bytes), s.line.state = .run →
    (writeParams 10 1 [b] s).rate =
      { s.rate with txAllowance := s.rate.effTx * clampNat 1 16 b / 16
                    rxAllowance := s.rate.capacity.rx * clampNat 1 16 b / 16 } ∧
    (writeParams 10 1 [b] s).params.voiceShare = clampNat 1 16 b ∧ (writeParams 10 1 [b] s).voice = s.voice) ∧
  (∀ b, 1 ≤ clampNat 1 16 b ∧ clampNat 1 16 b ≤ 16) ∧ Params.reset.voiceShare = 12

/-! ## Operations that many commands share -/

/-- R147, R148, R150, R153, R154, R156, R146: an occurrence sets its flag and no other but WATCH's; it wakes a sleeping host
that asks for its kind, joins the far-pending set under FAR-MASK and the notice-due set under NOTICE-MASK and no other kind
but WATCH joins either, writes its log record with its details, as its kind is logged, the record that a full log loses being
counted, and counts once in the watches on its kind, a watch that reaches its threshold being told of by its index. A
recomputation counts the watches on the binding limit that it enters. -/
def Obligations.RaisingAnOccurrence : Prop :=
  (∀ (e : Event) (s : State), Raised [e] s (raise e s)) ∧
  (∀ k : Kind, k.logged =
    if k = .lineUp ∨ k = .offerTaken ∨ k = .farChange ∨ k = .ses ∨ k = .hook ∨ k = .digit ∨ k = .flash then .no
    else if k = .cadenceLock ∨ k = .cadenceLost ∨ k = .voiceLoss ∨ k = .watch then .onSet else .each) ∧
  (∀ (e : Event) (s : State), s.evt.asleep = true → s.params.wakeMask.has e.kind = true →
    (raise e s).evt.asleep = false ∧ (raise e s).evt.wakePin = true) ∧
  (∀ (e : Event) (s : State), s.params.farMask.has e.kind = true → (raise e s).evt.farPending.has e.kind = true) ∧
  (∀ (e : Event) (s : State) (k : Kind), k ≠ .watch ∨ e.kind = .watch →
    let joins : KindSet → KindSet → Bool := fun set mask => set.has k || (decide (k = e.kind) && mask.has k)
    (raise e s).evt.farPending.has k = joins s.evt.farPending s.params.farMask ∧
    ((raise e s).evt.noticeDue.has k = true → joins s.evt.noticeDue s.params.noticeMask = true) ∧
    (s.evt.pacing ≠ .ready → (raise e s).evt.noticeDue.has k = joins s.evt.noticeDue s.params.noticeMask)) ∧
  (∀ (e : Event) (s : State) (k : Kind), (takeOccurrence e s).evt.noticeDue.has k =
    (s.evt.noticeDue.has k || (decide (k = e.kind) && s.params.noticeMask.has k))) ∧
  (∀ (e : Event) (s : State), (∀ i, (s.mon.watches.get i).source ≠ .event e.kind) →
    (raise e s).evt.overwritten =
      (if logsNow e.kind (s.evt.pending.has e.kind) = true ∧ 192 - 16 * s.agent.partition ≤ s.evt.log.length then
        min (s.evt.overwritten + 1) (2 ^ 32 - 1)
       else s.evt.overwritten)) ∧
  (∀ (e : Event) (s : State), logsNow e.kind (s.evt.pending.has e.kind) = true →
    (takeOccurrence e s).evt.log =
      (if s.evt.log.length < 192 - 16 * s.agent.partition then s.evt.log else s.evt.log.drop 1) ++
        [{ stamp := s.mon.seconds, kind := e.kind, line := s.line.state, mode := s.supply.mode, detailA := e.a,
           detailB := e.b }]) ∧
  (∀ (e : Event) (s : State), (∀ i, (s.mon.watches.get i).source ≠ .event e.kind) →
    raise e s = offerNotice (takeOccurrence e s)) ∧
  (∀ (e : Event) (s : State) (i : Ix4), e.kind ≠ .watch → (s.mon.watches.get i).source = .event e.kind →
    WatchCounts True i s (raise e s)) ∧
  (∀ (e : Event) (s : State) (i : Ix4), e.kind ≠ .watch → (s.mon.watches.get i).source = .event e.kind →
    (s.mon.watches.get i).threshold = (s.mon.watches.get i).count + 1 → (s.mon.watches.get i).count < counterMax →
    s.evt.pending.has .watch = false → (∀ j, j ≠ i → (s.mon.watches.get j).source ≠ .event e.kind) →
    ((raise e s).evt.log.getLast?).map LogRecord.event = some (.withA .watch i.num)) ∧
  (∀ s : State, EdgesCounted s (recompute s))

/-- R14, R41, R55, R67, R98: what the line-down event does to each block, the line leaving RUN for `dest`. The deficits, the
turn, its mark, the credit and the shedding level are kept. -/
def Obligations.LineDownEvent : Prop :=
  ∀ (s : State) (dest : LineState), dest ≠ .run → ∃ t, leaveRun dest s = t ∧
    t.pending = s.pending ∧ t.due = s.due ∧ t.time = s.time ∧ t.cls = s.cls ∧ t.phone = s.phone ∧ t.voice = s.voice ∧
    t.supply = s.supply ∧ t.evt = s.evt ∧ t.agent = s.agent ∧ t.out = s.out ∧
    t.line = { s.line with state := dest, silence := none, data := .idle, manage := .idle,
                           voice := List.replicate 16 .idle } ∧
    t.load = { s.load with own := .none, tx := .none,
                           prot := ⟨{ level := s.load.prot.rx.level, guard := none },
                                    { level := s.load.prot.tx.level, guard := none }⟩ } ∧
    t.track = { s.track with sched := ⟨none, none⟩ } ∧
    t.rate.capacity = ⟨0, 0⟩ ∧ t.rate.effTx = 0 ∧ t.rate.binding = .none ∧
    t.sch = { s.sch with queues := t.sch.queues, inProgress := none, vq := [], mq := [], slot := none } ∧
    (∀ i, s.sch.inProgress ≠ some i → t.sch.queues.get i = s.sch.queues.get i) ∧
    (∀ i, s.sch.inProgress = some i → s.sch.queues.get i = [] → t.sch.queues.get i = []) ∧
    (∀ i f rest, s.sch.inProgress = some i → s.sch.queues.get i = f :: rest →
      t.sch.queues.get i = { f with sent := 0 } :: rest) ∧
    t.mon.voice = { s.mon.voice with vqFlushed := satAdd s.mon.voice.vqFlushed s.sch.vq.length } ∧
    t.mon.traffic.sch.flushed =
      satAdd s.mon.traffic.sch.flushed (s.sch.mq.length + (if s.sch.slot.isSome then 1 else 0)) ∧
    t.mon.line = s.mon.line ∧ t.mon.perf = s.mon.perf ∧ t.mon.interval = s.mon.interval

/-- R93: a message offered to MQ, by its class and MQ's occupancy. R83, R84, R159: a frame offered to the management egress
queue joins it as the newest when fewer than 8 wait; a reply that finds 8 waits with the agent, and is offered again when a
management frame has been sent. -/
def Obligations.OfferingToTheQueues : Prop :=
  (∀ (m : Message) (s : State),
     (s.line.state ≠ .run → mqOffer m s = s.countSch fun c => { c with refused := satInc c.refused }) ∧
     (s.line.state = .run → s.sch.mq.length < 8 → mqOffer m s = { s with sch := { s.sch with mq := s.sch.mq ++ [m] } }) ∧
     (s.line.state = .run → 8 ≤ s.sch.mq.length → m.kind.cls = .report ∨ m.kind.cls = .query →
       mqOffer m s = s.countSch fun c => { c with discardedReport := satInc c.discardedReport }) ∧
     (∀ a x b, s.line.state = .run → 8 ≤ s.sch.mq.length → m.kind.cls = .load ∨ m.kind.cls = .supply →
       s.sch.mq = a ++ x :: b → (∀ y ∈ a, y.kind.cls = .load ∨ y.kind.cls = .supply) →
       x.kind.cls = .report ∨ x.kind.cls = .query →
       mqOffer m s = ({ s with sch := { s.sch with mq := a ++ b ++ [m] } } : State).countSch fun c =>
         { c with evicted := satInc c.evicted }) ∧
     (s.line.state = .run → 8 ≤ s.sch.mq.length → m.kind.cls = .load ∨ m.kind.cls = .supply →
       (∀ y ∈ s.sch.mq, y.kind.cls = .load ∨ y.kind.cls = .supply) →
       mqOffer m s = s.countSch fun c => { c with discardedLoad := satInc c.discardedLoad })) ∧
  ((∀ (f : MgmtFrame) (s : State), s.cls.mgmtQueue.length < 8 → ∃ t,
     mgmtOffer f s = some t ∧ offerReply f s = t ∧
     t = { s with cls := { s.cls with mgmtQueue := s.cls.mgmtQueue ++ [f], sending := t.cls.sending } } ∧
     (∀ x, s.cls.sending = some x → t.cls.sending = some x) ∧
     (s.cls.sending = none → s.cls.mgmtQueue = [] → t.cls.sending = some (.mgmt f))) ∧
   (∀ (f : MgmtFrame) (s : State), 8 ≤ s.cls.mgmtQueue.length →
     mgmtOffer f s = none ∧ offerReply f s = { s with agent := { s.agent with waiting := some f } }) ∧
   (∀ (f g : MgmtFrame) (s : State), s.cls.sending = some (.mgmt f) → f.partReply = false →
     s.cls.mgmtQueue.length ≤ 8 → s.cls.mgmtQueue ≠ [] → s.agent.waiting = some g →
     (finishSending s).agent.waiting = none ∧ (finishSending s).cls.mgmtQueue = s.cls.mgmtQueue.drop 1 ++ [g]))

/-- R87, R79, R17: the three tests of admission, in their order. R78: the walk of the class table: an entry that does not
match keeps its hit count, a matching COUNT entry counts and the walk goes on, and the first matching QUEUE or DROP entry
decides. -/
def Obligations.AdmissionAndClassTable : Prop :=
  (∀ (i : Ix4) (f : Bytes) (s : State),
     (shedAt s.sch.shedLevel i = true → admitFrame i f s = s.countSch fun c => { c with shed := c.shed.inc i }) ∧
     (shedAt s.sch.shedLevel i = false →
       s.params.qLimit.get i < occupancy (s.sch.queues.get i) + (f.length + 59) / 60 ∨
         1024 < poolOccupancy s.sch.queues + (f.length + 59) / 60 →
       admitFrame i f s = s.countSch fun c => { c with tailDropped := c.tailDropped.inc i }) ∧
     (shedAt s.sch.shedLevel i = false →
       occupancy (s.sch.queues.get i) + (f.length + 59) / 60 ≤ s.params.qLimit.get i →
       poolOccupancy s.sch.queues + (f.length + 59) / 60 ≤ 1024 →
       admitFrame i f s =
         ({ s with sch := { s.sch with
             queues := s.sch.queues.set i (s.sch.queues.get i ++ [{ bytes := f, arrival := s.time.ms, sent := 0 }]) }
           } : State).countSch fun c => { c with admitted := c.admitted.inc i })) ∧
  ((∀ (f : Bytes) (before rest : List ClassEntry) (e : ClassEntry),
     (∀ x ∈ before, x.valid = true → x.admits f = true → x.action = .count) →
     e.valid = true → e.admits f = true → e.action ≠ .count →
     classWalk f (before ++ e :: rest) =
       (before.map (fun x => if x.valid && x.admits f then { x with hits := satInc x.hits } else x) ++
         { e with hits := satInc e.hits } :: rest,
        if e.action = .drop then .drop else .queue e.queue)) ∧
   (∀ (f : Bytes) (table : List ClassEntry),
     (∀ x ∈ table, x.valid = true → x.admits f = true → x.action = .count) →
     classWalk f table =
       (table.map (fun x => if x.valid && x.admits f then { x with hits := satInc x.hits } else x), .defaulted)))

/-- R97: with no data frame in progress, weights in range and no frame above 26 units, a selection ends: it puts a
frame in progress, or it leaves Q0 empty and Q1, Q2 and Q3 each shed or empty with every deficit 0. R89, R97: which frame
it puts there: the stale heads of the queues it looks at go, Q0 comes first, and the queue whose turn it is gets its
quantum once and keeps the turn while its head fits its deficit; a pass of the turn is a selection from the state after
the pass. Choices of the model: log entries 20, 24. -/
def Obligations.SelectionEnds : Prop :=
  (∀ s : State, s.sch.inProgress = none → ParamsOk s.params →
    (∀ i f, f ∈ s.sch.queues.get i → f.units ≤ 26) →
    (∃ i f rest, (selectData s).sch.inProgress = some i ∧ (selectData s).sch.queues.get i = f :: rest ∧
      shedAt s.sch.shedLevel i = false ∧ f ∈ s.sch.queues.get i) ∨
    ((selectData s).sch.inProgress = none ∧ (selectData s).sch.queues.i0 = [] ∧
      (∀ i, shedAt s.sch.shedLevel i = true ∨ (selectData s).sch.queues.get i = []) ∧
      (selectData s).sch.deficit = ⟨0, 0, 0⟩ ∧ (selectData s).sch.mark = false)) ∧
  (∀ (i : Ix4) (s : State),
    let kept := (s.sch.queues.get i).dropWhile fun f => decide (s.params.ageLimit * 100 < (s.time.ms - f.arrival).toNat)
    (s.sch.inProgress = some i → dropStale i s = s) ∧
    (s.sch.inProgress ≠ some i → dropStale i s = { s with
      sch := { s.sch with queues := s.sch.queues.set i kept }
      mon := { s.mon with traffic := { s.mon.traffic with sch := { s.mon.traffic.sch with
        stale := s.mon.traffic.sch.stale.set i
          (satAdd (s.mon.traffic.sch.stale.get i) ((s.sch.queues.get i).length - kept.length)) } } } })) ∧
  (∀ s : State, s.sch.inProgress = none → ParamsOk s.params →
    (∀ i f, f ∈ s.sch.queues.get i → f.units ≤ 26) →
    let first := dropStale .i0 s
    let turn := s.sch.turn
    let shed : Drr → Prop := fun d => shedAt s.sch.shedLevel d.queue = true
    (∀ f rest, first.sch.queues.i0 = f :: rest →
      selectData s = { first with sch := { first.sch with inProgress := some .i0 } }) ∧
    (first.sch.queues.i0 = [] → (∀ d, shed d ∨ s.sch.queues.get d.queue = []) →
      selectData s = { first with sch := { first.sch with deficit := ⟨0, 0, 0⟩, mark := false } }) ∧
    (first.sch.queues.i0 = [] → shed turn → (∃ d, ¬ shed d ∧ s.sch.queues.get d.queue ≠ []) →
      selectData s = selectData { first with sch := { first.sch with
        deficit := s.sch.deficit.set turn 0, turn := turn.succ, mark := false } }) ∧
    (first.sch.queues.i0 = [] → ¬ shed turn → let looked := dropStale turn.queue first
      (looked.sch.queues.get turn.queue = [] → (∃ d, ¬ shed d ∧ s.sch.queues.get d.queue ≠ []) →
        selectData s = selectData { looked with sch := { looked.sch with
          deficit := s.sch.deficit.set turn 0, turn := turn.succ, mark := false } }) ∧
      (∀ f rest, looked.sch.queues.get turn.queue = f :: rest →
        let deficit := s.sch.deficit.get turn + (if s.sch.mark then 0 else 8 * s.params.qWeight.get turn)
        (f.units ≤ deficit → selectData s = { looked with sch := { looked.sch with
          deficit := s.sch.deficit.set turn (deficit - f.units), mark := true, inProgress := some turn.queue } }) ∧
        (deficit < f.units → selectData s = selectData { looked with sch := { looked.sch with
          deficit := s.sch.deficit.set turn deficit, turn := turn.succ, mark := false } }))))

/-- R37, R38, R2, R30, R173: a cutback that is needed with no change in flight is sent: bits come off the highest groups
first, no more of them than bring TX raw to the ceiling, and the switch is 8 superframes on. The TABLE-SET carries the
transmit setting in force, its guard's anchor moved on, and the CUTBACK its number, switch and 32 loads. -/
def Obligations.CutbackIsBuiltAndSent : Prop :=
  ∀ s : State, s.supply.mode ≠ .mains → s.line.state = .run →
    s.params.loadCeiling.get s.supply.mode < 8 * s.load.txLoads.sum → s.load.tx = .none →
    ∃ table k, (cutbackTest s).load.tx =
        .cutbackOut { switch := s.line.superframe + 8, table := table, number := s.load.cutbackNumber + 1,
                      answered := false } ∧
      8 * table.sum ≤ s.params.loadCeiling.get s.supply.mode ∧
      s.params.loadCeiling.get s.supply.mode < 8 * (table.sum + 1) ∧
      table.length = s.load.txLoads.length ∧
      (∀ i, i < k → table.getD i 0 = s.load.txLoads.getD i 0) ∧ table.getD k 0 ≤ s.load.txLoads.getD k 0 ∧
      (∀ i, k < i → table.getD i 0 = 0) ∧
      (cutbackTest s).load.cutbackNumber = s.load.cutbackNumber + 1 ∧
      (cutbackTest s).load.txLoads = s.load.txLoads ∧
      (let switch : Superframe := s.line.superframe + 8
       let sym := s.line.symbolCount + 800
       (∃ p, CarriedOver .transmit sym s p ∧ (cutbackTest s).out.commands = s.out.commands ++
         [.tableSet { direction := .transmit, loads := table, level := p.level, switch := switch, conditional := false
                      guard := p.guard.map fun g =>
                        let n := (g.anchor - sym).toNat
                        { period := g.period, width := g.width, anchorSuperframe := switch + BitVec.ofNat 8 (n / 100)
                          anchorOffset := n % 100 } }]) ∧
       (s.sch.mq.length < 8 → (cutbackTest s).sch.mq = s.sch.mq ++
         [mkMessage .cutback 0 ([s.load.cutbackNumber + 1, switch] ++ table.map (BitVec.ofNat 8))]))

/-! ## Time -/

/-- R6, R94, R102, R105, R106, R110, R131, R137, R151: a 1 ms tick moves the time base, the running timers of the line, of
pacing and of the ports, the credit and the debounces, and each expiry comes due exactly when its timer reaches its limit;
the 1 s tick comes due at every thousandth. That the tick of a change is not counted for a pin that has no accepted level is
the model's reading (log entry 19, DEDUCED). Choices of the model: log entries 1, 3. -/
def Obligations.MsTickAdvancesTheTimers : Prop :=
  ∀ (a b : Bool) (s : State), let u := settle s
    ∃ t, exec (.msTick a b) s = .next t ∧
      t.pending = u.pending ∧ t.load = u.load ∧ t.track = u.track ∧ t.rate = u.rate ∧ t.cls = u.cls ∧ t.voice = u.voice ∧
      t.mon = u.mon ∧ t.agent = u.agent ∧ t.out = u.out ∧
      t.time = { ms := u.time.ms + 1, divider := if 999 ≤ u.time.divider then 0 else u.time.divider + 1 } ∧
      t.sch = { u.sch with credit := min 32000 (u.sch.credit + u.rate.effTx) } ∧
      t.line = { u.line with training := u.line.training.map (· + 1), holdoff := u.line.holdoff.map (· + 1),
                             silence := u.line.silence.map (· + 1) } ∧
      t.evt = { u.evt with pacing := match u.evt.pacing with
        | .ready => .ready
        | .paced n refused => .paced (n + 1) refused } ∧
      (.pacing ∈ t.due ↔ ∃ n refused, u.evt.pacing = .paced n refused ∧
        (if refused = true ∧ u.params.noticeInterval = 0 then 100 else u.params.noticeInterval * 100) ≤ n + 1) ∧
      t.phone.cadence = u.phone.cadence ∧
      (∀ p, (u.port p).state ≠ .unfed → let q := u.port p
        t.port p = { q with
          stable := if q.rawOff = q.accepted then 0 else q.stable + 1
          breakMs := if q.state = .inBreak then q.breakMs + 1 else q.breakMs
          interdigitMs := if q.state = .offHook ∧ 0 < q.pulses then q.interdigitMs + 1 else q.interdigitMs
          ring := if q.state = .ringing then q.ring.map (fun r => { r with ms := r.ms + 1 }) else q.ring } ∧
        (.hook p ∈ t.due ↔ 0 < (t.port p).stable ∧ u.params.hookDebounce ≤ (t.port p).stable) ∧
        (.breakPulses p ∈ t.due ↔ q.state = .inBreak ∧ q.breakMs + 1 = 101 ∧ 0 < q.pulses) ∧
        (.hangUp p ∈ t.due ↔ q.state = .inBreak ∧ u.params.flashMax < q.breakMs + 1) ∧
        (.interdigit p ∈ t.due ↔ q.state = .offHook ∧ 0 < q.pulses ∧ u.params.interdigit ≤ q.interdigitMs + 1) ∧
        (.ringPhase p ∈ t.due ↔ q.state = .ringing ∧ ∃ r, q.ring = some r ∧
          ∀ g, (segments (u.phone.cadence.getD r.entry []))[r.segment - 1]? = some g →
            10 * (if r.onPhase then g.on else g.off) ≤ r.ms + 1)) ∧
      (∀ p, (u.port p).state = .unfed → t.port p = u.port p ∧ ∀ d ∈ t.due, d.ofPort p = false) ∧
      t.supply.mode = u.supply.mode ∧
      (∀ x, u.supply.mainsOk.accepted = some x →
        t.supply.mainsOk = { accepted := some x, seen := some a,
                             stable := if a = x then 0 else u.supply.mainsOk.stable + 1 } ∧
        (.pin .mainsOk ∈ t.due ↔ 50 ≤ t.supply.mainsOk.stable)) ∧
      (u.supply.mainsOk.accepted = none →
        t.supply.mainsOk = { accepted := none, seen := some a,
                             stable := if u.supply.mainsOk.seen = some (!a) then 0 else u.supply.mainsOk.stable + 1 } ∧
        (.pin .mainsOk ∈ t.due ↔ 50 ≤ t.supply.mainsOk.stable)) ∧
      (∀ x, u.supply.battLow.accepted = some x →
        t.supply.battLow = { accepted := some x, seen := some b,
                             stable := if b = x then 0 else u.supply.battLow.stable + 1 } ∧
        (.pin .battLow ∈ t.due ↔ 50 ≤ t.supply.battLow.stable)) ∧
      (u.supply.battLow.accepted = none →
        t.supply.battLow = { accepted := none, seen := some b,
                             stable := if u.supply.battLow.seen = some (!b) then 0 else u.supply.battLow.stable + 1 } ∧
        (.pin .battLow ∈ t.due ↔ 50 ≤ t.supply.battLow.stable)) ∧
      (.secondTick ∈ t.due ↔ 999 ≤ u.time.divider) ∧
      (.trainingTimeout ∈ t.due ↔ ∃ n, u.line.training = some n ∧ u.params.trainTimeout * 1000 ≤ n + 1) ∧
      (.holdoffExpiry ∈ t.due ↔ ∃ n, u.line.holdoff = some n ∧ u.params.holdoff * 1000 ≤ n + 1) ∧
      (.silenceExpiry ∈ t.due ↔ ∃ n, u.line.silence = some n ∧ u.params.silenceCount * 25 ≤ n + 1)

/-- R138 to R141, R143: a 1 s tick closes the second: the counter, the classification, the runs and the availability
state, the residency and the interval record. R139, R147: SES at every SES second, and UNAVAILABLE with the retrain's
occurrences, their causes in the log. R89: the stale sweep. R146: the watches in TIME and EDGE mode. R156: the report age
and the FAULT-REPORT. R144: a full interval record enters the ring of 16 as the newest, and a new one starts. Choices of
the model: log entries 1, 3, 10. -/
def Obligations.SecondTickAndInterval : Prop :=
  ((∀ s : State, .secondTick ∈ s.due →
     ∃ t, exec .secondTick s = .next t ∧
       (let inRun : Bool := decide (s.line.state = .run)
        let lineSec : Bool := inRun || s.mon.lossMark
        let ses : Bool := lineSec && (decide (s.params.sesThreshold ≤ s.mon.damage) || s.mon.lossMark)
        let es : Bool := lineSec && (decide (1 ≤ s.mon.damage) || ses)
        let sesRun : Nat := if ses then min (s.mon.sesRun + 1) 255 else 0
        let clearRun : Nat := if !ses && inRun then min (s.mon.clearRun + 1) 255 else 0
        t.mon.seconds = satInc s.mon.seconds ∧ t.mon.damage = 0 ∧ t.mon.lossMark = false ∧
        t.mon.perf.es = (if es then satInc s.mon.perf.es else s.mon.perf.es) ∧
        t.mon.perf.ses = (if ses then satInc s.mon.perf.ses else s.mon.perf.ses) ∧
        t.mon.sesRun = sesRun ∧ t.mon.clearRun = clearRun ∧
        (t.mon.available = true ↔ if s.mon.available = true then sesRun < 10 else 10 ≤ clearRun) ∧
        t.mon.perf.uas = (if t.mon.available then s.mon.perf.uas else satInc s.mon.perf.uas) ∧
        (ses = true → t.evt.pending.has .ses = true) ∧
        (s.mon.available = true → t.mon.available = false →
          t.evt.pending.has .unavailable = true ∧
          (inRun = true → t.line.state = .training ∧ t.evt.pending.has .lineDown = true ∧
            t.evt.pending.has .retrain = true)) ∧
        LogGains
          ((if ses then [.plain .ses] else []) ++
            (if s.mon.available = true ∧ t.mon.available = false then
              .plain .unavailable :: (if inRun then [.withA .lineDown 4, .withA .retrain 4] else [])
             else [])) s t ∧
        EdgesCounted s t ∧
        ((s.mon.available = false ∨ t.mon.available = true) → t.line = s.line) ∧
        t.mon.interval = { s.mon.interval with
          elapsed := min (s.mon.interval.elapsed + 1) 900
          es := if es then satInc s.mon.interval.es else s.mon.interval.es
          ses := if ses then satInc s.mon.interval.ses else s.mon.interval.ses
          uas := if t.mon.available then s.mon.interval.uas else satInc s.mon.interval.uas
          retrains := if s.mon.available = true ∧ t.mon.available = false ∧ inRun = true then
            satInc s.mon.interval.retrains else s.mon.interval.retrains
          lifeline := if s.supply.mode = .mains then s.mon.interval.lifeline else satInc s.mon.interval.lifeline
          minEffTx := if inRun then some (match s.mon.interval.minEffTx with
            | none => s.rate.effTx
            | some n => min n s.rate.effTx) else s.mon.interval.minEffTx
          minRx := if inRun then some (match s.mon.interval.minRx with
            | none => s.rate.capacity.rx
            | some n => min n s.rate.capacity.rx) else s.mon.interval.minRx
          noRun := s.mon.interval.noRun || !inRun }) ∧
       t.mon.perf.inOff = (if s.line.state = .off then satInc s.mon.perf.inOff else s.mon.perf.inOff) ∧
       t.mon.perf.inTraining = (if s.line.state = .training then satInc s.mon.perf.inTraining else s.mon.perf.inTraining) ∧
       t.mon.perf.inRun = (if s.line.state = .run then satInc s.mon.perf.inRun else s.mon.perf.inRun) ∧
       t.mon.perf.inHoldoff = (if s.line.state = .holdoff then satInc s.mon.perf.inHoldoff else s.mon.perf.inHoldoff) ∧
       t.mon.perf.inMains = (if s.supply.mode = .mains then satInc s.mon.perf.inMains else s.mon.perf.inMains) ∧
       t.mon.perf.inLifeline = (if s.supply.mode = .lifeline then satInc s.mon.perf.inLifeline else s.mon.perf.inLifeline) ∧
       t.mon.perf.inReserve = (if s.supply.mode = .reserve then satInc s.mon.perf.inReserve else s.mon.perf.inReserve) ∧
       t.mon.perf.boundSupply =
         (if s.line.state = .run ∧ s.rate.binding = .supply then satInc s.mon.perf.boundSupply
          else s.mon.perf.boundSupply) ∧
       t.mon.perf.boundProvider =
         (if s.line.state = .run ∧ s.rate.binding = .provider then satInc s.mon.perf.boundProvider
          else s.mon.perf.boundProvider) ∧
       t.mon.perf.boundLine =
         (if s.line.state = .run ∧ s.rate.binding = .line then satInc s.mon.perf.boundLine else s.mon.perf.boundLine) ∧
       t.mon.perf.impulseCost =
         (if s.line.state = .run ∧ (s.track.sched.rx ≠ none ∨ s.load.prot.rx.level ≠ .p0) then
            satInc s.mon.perf.impulseCost
          else s.mon.perf.impulseCost) ∧
       (.intervalClose ∈ t.due ↔ .intervalClose ∈ s.due ∨ t.mon.interval.elapsed = 900) ∧
       t.pending = s.pending ∧ t.time = s.time ∧ t.phone = s.phone ∧ t.voice = s.voice ∧ t.supply = s.supply ∧
       t.agent = s.agent ∧ t.mon.history = s.mon.history ∧ t.mon.voice.ports = s.mon.voice.ports) ∧
   (∀ (i : Ix4) (c : Condition) (s : State), .secondTick ∈ s.due → (s.mon.watches.get i).source = .time c →
     ∃ t, exec .secondTick s = .next t ∧ WatchCounts (c.Holds s) i s t) ∧
   (∀ (i : Ix4) (s : State), .secondTick ∈ s.due →
     let kept := (s.sch.queues.get i).dropWhile fun f => decide (s.params.ageLimit * 100 < (s.time.ms - f.arrival).toNat)
     ∃ t, exec .secondTick s = .next t ∧
       (t.line = s.line → s.sch.inProgress ≠ some i →
         t.sch.queues.get i = kept ∧
         t.mon.traffic.sch.stale.get i =
           satAdd (s.mon.traffic.sch.stale.get i) ((s.sch.queues.get i).length - kept.length)) ∧
       (t.line = s.line → s.sch.inProgress = some i → t.sch.queues.get i = s.sch.queues.get i) ∧
       (t.line ≠ s.line → (t.sch.queues.get i).map FrameRec.bytes = kept.map FrameRec.bytes)) ∧
   (∀ s : State, .secondTick ∈ s.due → let age := min (s.evt.reportAge + 1) 255
     ∃ t, exec .secondTick s = .next t ∧
       (age < s.params.farReportEvery ∨ t.line.state ≠ .run →
         t.evt.reportAge = age ∧ (∀ k : Kind, s.evt.farPending.has k = true → t.evt.farPending.has k = true)) ∧
       (age < s.params.farReportEvery → t.line.state = .run → t.sch.mq = s.sch.mq) ∧
       (s.params.farReportEvery ≤ age → t.line.state = .run → s.evt.farPending ≠ 0 →
         t.evt.reportAge = 0 ∧ t.evt.farPending = 0 ∧
         (s.sch.mq.length < 8 → ∃ far : KindSet,
           (∀ k : Kind, s.evt.farPending.has k = true → far.has k = true) ∧
           (∀ k : Kind, far.has k = true → s.evt.farPending.has k = true ∨
             (s.params.farMask.has k = true ∧ (k = .ses ∨ k = .watch) ∧ t.evt.pending.has k = true)) ∧
           t.sch.mq = s.sch.mq ++ [mkMessage .faultReport 0
             (KindSet.bytes far ++ u32 t.mon.seconds ++ u8 t.line.state.code ++ u8 t.supply.mode.code)])) ∧
       (s.params.farReportEvery ≤ age → t.line.state = .run → s.evt.farPending = 0 → t.evt.farPending = 0 ∧
         (s.params.farMask.has .ses = false → s.params.farMask.has .watch = false →
           t.evt.reportAge = age ∧ t.sch.mq = s.sch.mq)))) ∧
  (∀ s : State, .intervalClose ∈ s.due → s.mon.interval.elapsed = 900 →
     exec .intervalClose s = .next
       { dueTaken .intervalClose s with
         mon := { s.mon with
           history := (s.mon.interval :: s.mon.history).take 16
           interval := { stamp := s.mon.seconds, elapsed := 0, es := 0, ses := 0, uas := 0, retrains := 0, offersTaken := 0,
                         offersFailed := 0, voiceLost := 0, lifeline := 0, minEffTx := none, minRx := none,
                         noRun := false } } })

/-! ## The line -/

/-- R9, R22, R23, R37, R41, R53, R66: a TRAINED record that passes its check brings the line up with its tables and levels
and no guard. R146: the watches on LINE-RUN and on the binding limit entered count it. Choices of the model: log entries
1, 24. -/
def Obligations.TrainedBringsTheLineUp : Prop :=
  ∀ (r : TrainedRecord) (s : State) (lr lt : Level), let u := settle s
    u.line.state = .training → (∀ b ∈ r.rxLoads, b ≤ 12) → (∀ b ∈ r.txLoads, b ≤ 12) →
    r.rxLevel = lr.code → r.txLevel = lt.code →
    ∃ t, exec (.trained r) s = .next t ∧
      t.line = { u.line with state := .run, training := none, silence := some 0 } ∧
      t.load.rxLoads = r.rxLoads ∧ t.load.txLoads = r.txLoads ∧
      t.load.prot = ⟨{ level := lr, guard := none }, { level := lt, guard := none }⟩ ∧
      t.load.raiseCount = 0 ∧ t.load.holdoff = 0 ∧ t.load.failures = 0 ∧ t.load.own = u.load.own ∧
      t.load.thresh = u.load.thresh ∧ t.load.offerNumber = u.load.offerNumber ∧
      t.track = { u.track with sched := ⟨none, none⟩, lowerHold := 0 } ∧
      t.rate.raw = ⟨8 * r.rxLoads.sum, 8 * r.txLoads.sum⟩ ∧ t.rate.capacity.tx = 125 * t.rate.net.tx / 16 ∧
      t.evt.pending.has .lineUp = true ∧ LogGains [.plain .lineUp] u t ∧ EdgesCounted u t ∧
      (u.load.tx = .none → u.supply.mode ≠ .mains →
        u.params.loadCeiling.get u.supply.mode < 8 * r.txLoads.sum → ∃ c, t.load.tx = .cutbackOut c) ∧
      (u.supply.mode = .mains → t.load.tx = u.load.tx ∧ t.sch = u.sch ∧ t.out = u.out) ∧
      t.pending = u.pending ∧ t.due = u.due ∧ t.time = u.time ∧ t.phone = u.phone ∧ t.voice = u.voice ∧
      t.supply = u.supply ∧ t.agent = u.agent ∧ t.cls.table = u.cls.table ∧ t.cls.homeQueue = u.cls.homeQueue ∧
      t.sch.queues = u.sch.queues ∧ t.sch.vq = u.sch.vq ∧ t.sch.credit = u.sch.credit

/-- R3, R9, R10: the three ways a training attempt fails: TRAIN-FAIL with its reason, and the line in HOLDOFF with its
timer at 0. Outside TRAINING both records are ignored. Choices of the model: log entry 1. -/
def Obligations.TrainingFails : Prop :=
  (∀ (reason : Byte) (s : State), (settle s).line.state = .training →
    ∃ t, exec (.trainFailed reason) s = .next t ∧
      Raised [.withA .trainFail (if reason.toNat = 0 ∨ 3 < reason.toNat then 5 else reason.toNat)]
        (trainingFailedFrom (settle s) []) t) ∧
  (∀ s : State, .trainingTimeout ∈ s.due → s.line.state = .training →
    ∃ t, exec .trainingTimeout s = .next t ∧
      Raised [.withA .trainFail 0] (trainingFailedFrom (dueTaken .trainingTimeout s) [.halt]) t) ∧
  (∀ (r : TrainedRecord) (s : State), (settle s).line.state = .training →
    (∃ b ∈ r.rxLoads ++ r.txLoads, 12 < b) ∨ 3 < r.rxLevel ∨ 3 < r.txLevel →
    ∃ t, exec (.trained r) s = .next t ∧
      Raised [.withA .trainFail 4] (trainingFailedFrom (settle s) [.halt]) t) ∧
  (∀ (r : TrainedRecord) (reason : Byte) (s : State), (settle s).line.state ≠ .training →
    exec (.trained r) s = .next (settle s) ∧ exec (.trainFailed reason) s = .next (settle s))

/-- R8, R12, R13, R16: SIGNAL-LOST, the silence expiry and LINE-CONTROL RETRAIN take the line from RUN to TRAINING, with
LINE-DOWN and RETRAIN of that cause; on a SIGNAL-LOST the monitor is told of the loss. R8, R11, R16: the holdoff ends at
its expiry, or early at a RETRAIN; a RETRAIN in TRAINING changes nothing, and in OFF it is refused with BUSY. Choices of
the model: log entries 1, 4, 5, 8. -/
def Obligations.LeavingRunAndHoldoff : Prop :=
  ((∀ s : State, (settle s).line.state = .run →
     ∃ t, exec .signalLost s = .next t ∧
       Raised [.withA .lineDown 1, .withA .retrain 1]
         (retrainedFrom { settle s with mon := { (settle s).mon with lossMark := true } }) t) ∧
   (∀ s : State, .silenceExpiry ∈ s.due → s.line.state = .run →
     ∃ t, exec .silenceExpiry s = .next t ∧
       Raised [.withA .lineDown 2, .withA .retrain 2] (retrainedFrom (dueTaken .silenceExpiry s)) t) ∧
   (∀ (r : Request) (rest : List Request) (s : State), Asked .retrain r rest s → r.HasBody 1 →
     (settle s).line.state = .run →
     ∃ t, exec .retrain s = .next (replied r .ok [] t) ∧
       Raised [.withA .lineDown 5, .withA .retrain 5] (retrainedFrom (executing rest s)) t) ∧
   (∀ s : State, (settle s).line.state ≠ .run → exec .signalLost s = .next (settle s))) ∧
  ((∀ s : State, .holdoffExpiry ∈ s.due → s.line.state = .holdoff →
     ∃ t, exec .holdoffExpiry s = .next t ∧
       Raised [.withA .retrain 7] (trainingFromHoldoff (dueTaken .holdoffExpiry s)) t) ∧
   (∀ (r : Request) (rest : List Request) (s : State), Asked .retrain r rest s → r.HasBody 1 →
     ((settle s).line.state = .holdoff →
       ∃ t, exec .retrain s = .next (replied r .ok [] t) ∧
         Raised [.withA .retrain 5] (trainingFromHoldoff (executing rest s)) t) ∧
     ((settle s).line.state = .training → exec .retrain s = .next (replied r .ok [] (executing rest s))) ∧
     ((settle s).line.state = .off → exec .retrain s = .next (replied r .busy [] (executing rest s)))))

/-- R7, R8, R15: START moves an OFF line to TRAINING and changes nothing in any other state; STOP sends HALT, stops the
timers and moves the line to OFF, with LINE-DOWN of cause STOPPED when it was in RUN. Both are answered OK. Choices of the
model: log entries 1, 4, 5. -/
def Obligations.StartAndStop : Prop :=
  ∀ (r : Request) (rest : List Request) (s : State), r.HasBody 1 → let u := executing rest s
    (Asked .start r rest s → byteAt r.body 0 = 1 → u.line.state = .off →
      exec .start s = .next (replied r .ok []
        { u with
          line := { u.line with state := .training, training := some 0, holdoff := none }
          out := { u.out with commands := u.out.commands ++ [.train (u.params.loadCeiling.get u.supply.mode)] } })) ∧
    (Asked .start r rest s → byteAt r.body 0 = 1 → u.line.state ≠ .off →
      exec .start s = .next (replied r .ok [] u)) ∧
    (Asked .stop r rest s → u.line.state ≠ .run →
      exec .stop s = .next (replied r .ok []
        { u with
          line := { u.line with state := .off, training := none, holdoff := none, silence := none }
          out := { u.out with commands := u.out.commands ++ [.halt] } })) ∧
    (Asked .stop r rest s → u.line.state = .run →
      ∃ t, exec .stop s = .next (replied r .ok [] t) ∧
        Raised [.withA .lineDown 6]
          (leaveRun .off
            { u with
              line := { u.line with training := none, holdoff := none, silence := none }
              out := { u.out with commands := u.out.commands ++ [.halt] } }) t)

/-- R3, R4, R12, R33, R34, R36, R39, R138: a FRAME-REPORT by the state of the line, with the deadlines and switches
that it brings in RUN. R56: a countdown comes due when a guard starts before the end of the report's coverage, and brings
the next guard start, by whole periods, to that end or less than a period beyond it. Choices of the model: log entry 1. -/
def Obligations.ReportsCountLineTime : Prop :=
  (∀ (r : FrameReport) (s : State), let u := settle s
     (u.line.state = .run → ∃ t, exec (.frameReport r) s = .next t ∧
       t.line = { u.line with symbolCount := u.line.symbolCount + 100, superframe := r.superframe, silence := some 0 } ∧
       t.mon.damage = min 65535 (u.mon.damage + r.damaged.toNat) ∧
       t.track.sched = u.track.sched ∧ t.pending = u.pending ∧ t.time = u.time ∧ t.load = u.load ∧ t.rate = u.rate ∧
       t.sch = u.sch ∧ t.phone = u.phone ∧ t.voice = u.voice ∧ t.supply = u.supply ∧ t.agent = u.agent ∧
       t.out = u.out ∧ t.cls.table = u.cls.table ∧ t.cls.homeQueue = u.cls.homeQueue ∧
       (.offerDeadline ∈ t.due ↔ ∃ o, u.load.own = .outstanding o ∧
         ((o.switch - r.superframe).toNat ≤ 2 ∨ 8 < (o.switch - r.superframe).toNat)) ∧
       (.offerSwitch ∈ t.due ↔ ∃ o, u.load.own = .confirmed o ∧
         ((o.switch - r.superframe).toNat = 0 ∨ 8 < (o.switch - r.superframe).toNat)) ∧
       (.farChangeSwitch ∈ t.due ↔ ∃ f, u.load.tx = .farPending f ∧
         ((f.switch - r.superframe).toNat = 0 ∨ 128 < (f.switch - r.superframe).toNat)) ∧
       (.cutbackSwitch ∈ t.due ↔ ∃ c, u.load.tx = .cutbackOut c ∧
         ((c.switch - r.superframe).toNat = 0 ∨ 8 < (c.switch - r.superframe).toNat)) ∧
       (∀ d, .guard d ∈ t.due ↔ ∃ x, u.track.sched.get d = some x ∧
         before x.next (t.line.symbolCount + 100) = true)) ∧
     (u.line.state = .training → ∃ t, exec (.frameReport r) s = .next t ∧
       t.line = { u.line with symbolCount := u.line.symbolCount + 100, superframe := r.superframe } ∧
       t.mon.damage = u.mon.damage ∧ t.due = u.due ∧ t.pending = u.pending ∧ t.time = u.time ∧ t.load = u.load ∧
       t.rate = u.rate ∧ t.sch = u.sch ∧ t.phone = u.phone ∧ t.voice = u.voice ∧ t.supply = u.supply ∧
       t.agent = u.agent ∧ t.out = u.out) ∧
     (u.line.state = .off ∨ u.line.state = .holdoff → exec (.frameReport r) s = .next u)) ∧
  (∀ (d : Direction) (x : Schedule) (s : State), .guard d ∈ s.due → s.track.sched.get d = some x →
     0 < x.period → x.period < 2 ^ 31 →
     let covered := s.line.symbolCount + 100
     ∃ next : Word32,
       exec (.guardCountdown d) s = .next
         { dueTaken (.guard d) s with
           track := { s.track with sched := s.track.sched.set d (some { x with next := next }) } } ∧
       (before x.next covered = false → next = x.next) ∧
       (before x.next covered = true → (next - covered).toNat < x.period ∧
         (x.period : Int) ∣ (x.next - covered).toInt - (next - covered).toNat))

/-! ## The reload exchange -/

/-- R3, R5, R25: a MARGIN-REPORT in RUN gives every receive group its margin, headroom and classes; in any other state
it is ignored. R45, R50 to R54: it ages the history, and the tracker recommends a protection setting and decides, holding
a lowering back. Choices of the model: log entry 1. -/
def Obligations.MarginReportClassesTheGroups : Prop :=
  (∀ (ratios : List Byte) (s : State), let u := settle s
    (u.line.state = .run → ∃ t gs, exec (.marginReport ratios) s = .next t ∧ t.load.report = some gs ∧
      gs.length = min u.load.rxLoads.length ratios.length ∧
      (∀ (g b : Nat) (ratio : Byte), u.load.rxLoads[g]? = some b → ratios[g]? = some ratio →
        ∃ x : GroupReport, gs[g]? = some x ∧
        x.margin = (ratio.toNat : Int) - (u.load.thresh.getD b 0 : Nat) ∧
        x.headroom = (if b < 12 then some ((ratio.toNat : Int) - (u.load.thresh.getD (b + 1) 0 : Nat)) else none) ∧
        (x.cls.weak = true ↔ 0 < b ∧ x.margin < u.params.mLow) ∧
        (x.cls.strong = true ↔ x.cls.weak = false ∧ ∃ h, x.headroom = some h ∧ u.params.mTarget ≤ h) ∧
        (x.cls.failing = true ↔ 0 < b ∧ x.margin < u.params.mDrop)) ∧
      t.load.rxLoads = u.load.rxLoads ∧ t.load.txLoads = u.load.txLoads ∧ t.load.prot = u.load.prot ∧
      t.load.tx = u.load.tx ∧ t.load.thresh = u.load.thresh ∧ t.track.lock = u.track.lock ∧
      t.track.sched = u.track.sched ∧ t.pending = u.pending ∧ t.due = u.due ∧ t.time = u.time ∧ t.line = u.line ∧
      t.rate = u.rate ∧ t.cls = u.cls ∧ t.phone = u.phone ∧ t.voice = u.voice ∧ t.supply = u.supply ∧ t.evt = u.evt ∧
      t.agent = u.agent ∧ t.sch.queues = u.sch.queues ∧ t.sch.vq = u.sch.vq) ∧
    (u.line.state ≠ .run → exec (.marginReport ratios) s = .next u)) ∧
  (∀ (ratios : List Byte) (s : State), let u := settle s
    u.line.state = .run →
    let held := u.track.history.filter fun b => decide ((u.line.symbolCount - b.start).toNat ≤ 120000)
    let longest := (held.map Burst.length).max?.getD 0
    let width := longest + 2 * u.params.guardMargin
    let raw := 8 * u.load.rxLoads.sum
    let inForce := u.load.prot.rx.setting
    let protect : Setting :=
      { level := if longest = 0 then .p0 else if longest = 1 then .p1 else if longest = 2 then .p2 else .p3
        guard := none }
    ∃ t best hold decision, exec (.marginReport ratios) s = .next t ∧
      t.track = { u.track with history := held, recommendation := some best, decision := some decision,
                               lowerHold := hold } ∧
      (u.track.lock = none ∨ longest = 0 → best = protect) ∧
      (∀ k, u.track.lock = some k → 0 < longest →
        let guarded : Setting := { level := .p0, guard := some (k.period, width) }
        (k.period ≤ width → best = protect) ∧
        (width < k.period → best = if protect.capacity raw < guarded.capacity raw then guarded else protect)) ∧
      (best = inForce → decision = inForce ∧ hold = 0) ∧
      (best ≠ inForce → best.capacity raw < inForce.capacity raw → decision = best ∧ hold = 0) ∧
      (best ≠ inForce → inForce.capacity raw ≤ best.capacity raw →
        hold = min (u.track.lowerHold + 1) 255 ∧ decision = if 10 ≤ hold then best else inForce)) ∧
  (∀ (x : Setting) (raw : Nat),
    let net := raw * (32 - (match x.level with
      | .p0 => 0
      | .p1 => 2
      | .p2 => 4
      | .p3 => 8)) / 32
    x.capacity raw = match x.guard with
      | none => 125 * net / 16
      | some (period, width) => 125 * net * (period - width) / (16 * period))

/-- R32, R33, R40: an OUTSTANDING offer past its deadline, and an offer declined by its number, fail, OFFER-FAILED saying
which and the number; a failure that brings the count to 3 or more while a group is failing retrains the line. Choices of
the model: log entry 1. -/
def Obligations.OwnOfferFails : Prop :=
  ∀ (c : Instr) (d : Due) (o : OwnOffer) (s : State),
    ((c = .offerDeadline ∧ d = .offerDeadline ∧ d ∈ s.due ∧ s.load.own = .outstanding o) ∨
     (∃ tag reason, c = .loadDecline ∧ d = .arrival (.message .loadDecline tag [o.number, reason]) ∧
        s.due.find? (Due.isMessage .loadDecline) = some d ∧
        (s.load.own = .outstanding o ∨ s.load.own = .confirmed o))) →
    s.line.state = .run →
    let failing : Prop := ∃ gs, s.load.report = some gs ∧ ∃ x ∈ gs, x.cls.failing = true
    ∃ t, Raised [⟨.offerFailed, some (if c = .offerDeadline then 2 else 1), some o.number.toNat⟩]
        (offerFailedFrom o (dueTaken d s)) t ∧
      (s.load.failures < 2 ∨ ¬ failing → exec c s = .next t) ∧
      (2 ≤ s.load.failures → failing →
        ∃ x, exec c s = .next x ∧ Raised [.withA .lineDown 3, .withA .retrain 3] (retrainedFrom t) x)

/-- R31, R32, R42, R174: a LOAD-TAKE that matches an OUTSTANDING offer in time confirms it and changes nothing else; a
repeat changes nothing; any other answer is counted late or stray; an answer outside RUN is discarded and one of a
wrong length is counted malformed. Choices of the model: log entry 1. -/
def Obligations.AnswersToOwnOffers : Prop :=
  (∀ (tag n : Byte) (s : State), let d : Due := .arrival (.message .loadTake tag [n])
    s.due.find? (Due.isMessage .loadTake) = some d → let u := dueTaken d s
    (∀ o, s.line.state = .run → s.load.own = .outstanding o → o.number = n →
      3 ≤ (o.switch - s.line.superframe).toNat → (o.switch - s.line.superframe).toNat ≤ 8 →
      exec .loadTake s = .next { u with load := { u.load with own := .confirmed o } }) ∧
    (∀ o, s.line.state = .run → s.load.own = .confirmed o → o.number = n → exec .loadTake s = .next u) ∧
    (s.line.state = .run → s.load.own = .none → s.load.lastOffer = some n →
      exec .loadTake s = .next (u.countLine fun c => { c with lateAnswers := satInc c.lateAnswers })) ∧
    (s.line.state = .run → s.load.own = .none → s.load.lastOffer ≠ some n →
      exec .loadTake s = .next (u.countLine fun c => { c with strayAnswers := satInc c.strayAnswers })) ∧
    (∀ o, s.line.state = .run → s.load.own = .outstanding o →
      o.number ≠ n ∨ (o.switch - s.line.superframe).toNat < 3 ∨ 8 < (o.switch - s.line.superframe).toNat →
      exec .loadTake s = .next (u.countLine fun c => { c with strayAnswers := satInc c.strayAnswers })) ∧
    (∀ o, s.line.state = .run → s.load.own = .confirmed o → o.number ≠ n →
      exec .loadTake s = .next (u.countLine fun c => { c with strayAnswers := satInc c.strayAnswers })) ∧
    (s.line.state ≠ .run → exec .loadTake s = .next u)) ∧
  (∀ (tag n reason : Byte) (s : State), let d : Due := .arrival (.message .loadDecline tag [n, reason])
    s.due.find? (Due.isMessage .loadDecline) = some d → s.line.state = .run → let u := dueTaken d s
    (s.load.own = .none → s.load.lastOffer = some n →
      exec .loadDecline s = .next (u.countLine fun c => { c with lateAnswers := satInc c.lateAnswers })) ∧
    (s.load.own = .none → s.load.lastOffer ≠ some n →
      exec .loadDecline s = .next (u.countLine fun c => { c with strayAnswers := satInc c.strayAnswers })) ∧
    (∀ o, s.load.own = .outstanding o ∨ s.load.own = .confirmed o → o.number ≠ n →
      exec .loadDecline s = .next (u.countLine fun c => { c with strayAnswers := satInc c.strayAnswers }))) ∧
  (∀ (tag : Byte) (body : Bytes) (s : State),
    let malformed : Due → State := fun d => (dueTaken d s).countTraffic fun c => { c with malformed := satInc c.malformed }
    (let d : Due := .arrival (.message .loadTake tag body)
     s.due.find? (Due.isMessage .loadTake) = some d → s.line.state = .run → body.length ≠ 1 →
     exec .loadTake s = .next (malformed d)) ∧
    (let d : Due := .arrival (.message .loadDecline tag body)
     s.due.find? (Due.isMessage .loadDecline) = some d → s.line.state = .run → body.length ≠ 2 →
     exec .loadDecline s = .next (malformed d)) ∧
    (let d : Due := .arrival (.message .loadDecline tag body)
     s.due.find? (Due.isMessage .loadDecline) = some d → s.line.state ≠ .run →
     exec .loadDecline s = .next (dueTaken d s)))

/-- R35, R36, R174: a LOAD-OFFER in RUN is declined for the first of the four conditions that it fails, and accepted when
it fails none; nothing of a declined offer is stored. R55: a guard whose anchor offset is above 99 is malformed, and the
anchor of a new guard is the first of its starts at or after the switch symbol; R30, R36: a setting carried over has its guard's anchor moved on. Choices of the model: log entry
1. -/
def Obligations.FarOffersAreCheckedInOrder : Prop :=
  ∀ (tag : Byte) (body : Bytes) (s : State), let d : Due := .arrival (.message .loadOffer tag body)
    s.due.find? (Due.isMessage .loadOffer) = some d → let u := dueTaken d s
    let format : OfferBody → Prop := fun o =>
      o.changes.length ≤ 8 ∧ (∀ c ∈ o.changes, c.1 ≤ 31 ∧ c.2 ≤ 12) ∧ (o.changes.map (·.1)).Nodup ∧
        ∀ p, o.prot = some p → p.level ≤ 3 ∧
          ∀ g, p.guard = some g → 0 < g.width ∧ g.width < g.period ∧ g.anchorOffset ≤ 99
    let declined : Byte → Nat → State := fun number reason =>
      (mqOffer (mkMessage .loadDecline 0 [number, BitVec.ofNat 8 reason]) u).countLine fun c =>
        { c with farDeclined := satInc c.farDeclined }
    (s.line.state ≠ .run → exec .loadOffer s = .next u) ∧
    (s.line.state = .run → readOfferBody body = none →
      exec .loadOffer s = .next (declined (body.getD 0 0) 1)) ∧
    (∀ o, s.line.state = .run → readOfferBody body = some o → ¬ format o →
      exec .loadOffer s = .next (declined o.number 1)) ∧
    (∀ o, s.line.state = .run → readOfferBody body = some o → format o → s.load.tx ≠ .none →
      exec .loadOffer s = .next (declined o.number 2)) ∧
    (∀ o, s.line.state = .run → readOfferBody body = some o → format o → s.load.tx = .none →
      (o.switch - s.line.superframe).toNat < 4 ∨ 128 < (o.switch - s.line.superframe).toNat →
      exec .loadOffer s = .next (declined o.number 3)) ∧
    (∀ o, s.line.state = .run → readOfferBody body = some o → format o → s.load.tx = .none →
      4 ≤ (o.switch - s.line.superframe).toNat → (o.switch - s.line.superframe).toNat ≤ 128 →
      s.supply.mode ≠ .mains →
      s.params.loadCeiling.get s.supply.mode < 8 * (applyChanges s.load.txLoads o.changes).sum →
      exec .loadOffer s = .next (declined o.number 4)) ∧
    (∀ o, s.line.state = .run → readOfferBody body = some o → format o → s.load.tx = .none →
      4 ≤ (o.switch - s.line.superframe).toNat → (o.switch - s.line.superframe).toNat ≤ 128 →
      (s.supply.mode = .mains ∨
        8 * (applyChanges s.load.txLoads o.changes).sum ≤ s.params.loadCeiling.get s.supply.mode) →
      let sym := s.line.symbolCount + BitVec.ofNat 32 (100 * (o.switch - s.line.superframe).toNat)
      ∃ (newProt : Option Protection) (inForce : Protection),
        newProt.map Protection.setting =
          o.prot.map (fun p => { level := (Level.ofCode p.level).getD .p0,
                                 guard := p.guard.map fun g => (g.period, g.width) }) ∧
        (∀ p, newProt = some p → inForce = p) ∧ (newProt = none → CarriedOver .transmit sym s inForce) ∧
        (∀ p q g h, newProt = some p → p.guard = some g → o.prot = some q → q.guard = some h →
          let start := sym + BitVec.ofNat 32
            (100 * (BitVec.ofNat 8 h.anchorSuperframe - o.switch).toNat + h.anchorOffset)
          (g.anchor - sym).toNat < g.period ∧
          (g.period : Int) ∣ (start - sym).toInt - (g.anchor - sym).toNat) ∧
        exec .loadOffer s = .next
          (let v := mqOffer (mkMessage .loadTake 0 [o.number]) u
           { v with
             load := { u.load with
               tx := .farPending { switch := o.switch, table := applyChanges s.load.txLoads o.changes,
                                   newProt := newProt } }
             out := { u.out with commands := u.out.commands ++
               [tableSetOf .transmit (applyChanges s.load.txLoads o.changes) inForce o.switch sym false] } }))

/-- R23, R34, R53, R55, R66: a CONFIRMED offer switches. R36, R37, R39: a far-end change and a cutback switch, and the
cutback test runs again. The tables and protection come into force, the rates are recomputed, and the event is raised,
CUTBACK-DONE with its answered mark and the capacity after the switch. R146: the watches on GUARD-ARMED and on the binding
limit count an entry. Choices of the model: log entry 1. -/
def Obligations.ChangesSwitch : Prop :=
  (∀ (o : OwnOffer) (s : State), .offerSwitch ∈ s.due → s.load.own = .confirmed o →
     ∃ t, exec .offerSwitch s = .next t ∧
       Raised [.plain .offerTaken] (offerSwitchedFrom o (dueTaken .offerSwitch s)) t ∧ EdgesCounted s t) ∧
  ((∀ (f : FarPending) (s : State), .farChangeSwitch ∈ s.due → s.load.tx = .farPending f →
     ∃ t, Raised [.plain .farChange] (farChangedFrom f (dueTaken .farChangeSwitch s)) t ∧ EdgesCounted s t ∧
       exec .farChangeSwitch s = .next (cutbackTest t)) ∧
   (∀ (c : CutbackOut) (s : State), .cutbackSwitch ∈ s.due → s.load.tx = .cutbackOut c →
     let v := cutbackDoneFrom c (dueTaken .cutbackSwitch s)
     ∃ t, Raised [⟨.cutbackDone, some (if c.answered then 1 else 0), some v.rate.capacity.tx⟩] v t ∧ EdgesCounted s t ∧
       exec .cutbackSwitch s = .next (cutbackTest t)))

/-- R39, R42: a CUTBACK-TAKEN that matches sets the answered mark; any other is counted late or stray, and a CUTBACK from
the far end is a stray answer; outside RUN both are discarded, and a CUTBACK-TAKEN of a wrong length is counted malformed.
R157, R174: a FAR-QUERY is answered with one FAR-ANSWER, refused when its code, value or length is wrong. Choices of the
model: log entries 1, 12. -/
def Obligations.SupplyAndQueryMessages : Prop :=
  ((∀ (tag n : Byte) (s : State), let d : Due := .arrival (.message .cutbackTaken tag [n])
     s.due.find? (Due.isMessage .cutbackTaken) = some d → let u := dueTaken d s
     (∀ c, s.line.state = .run → s.load.tx = .cutbackOut c → c.number = n →
       exec .cutbackTaken s = .next { u with load := { u.load with tx := .cutbackOut { c with answered := true } } }) ∧
     (s.line.state = .run → (∀ c, s.load.tx = .cutbackOut c → c.number ≠ n) →
       s.load.lastCutback = some { number := n, switched := true } →
       exec .cutbackTaken s = .next (u.countLine fun c => { c with lateAnswers := satInc c.lateAnswers })) ∧
     (s.line.state = .run → (∀ c, s.load.tx = .cutbackOut c → c.number ≠ n) →
       s.load.lastCutback ≠ some { number := n, switched := true } →
       exec .cutbackTaken s = .next (u.countLine fun c => { c with strayAnswers := satInc c.strayAnswers })) ∧
     (s.line.state ≠ .run → exec .cutbackTaken s = .next u)) ∧
   (∀ (tag : Byte) (body : Bytes) (s : State), let d : Due := .arrival (.message .cutbackTaken tag body)
     s.due.find? (Due.isMessage .cutbackTaken) = some d → s.line.state = .run → body.length ≠ 1 →
     exec .cutbackTaken s = .next ((dueTaken d s).countTraffic fun c => { c with malformed := satInc c.malformed })) ∧
   (∀ (tag : Byte) (body : Bytes) (s : State), let d : Due := .arrival (.message .cutback tag body)
     s.due.find? (Due.isMessage .cutback) = some d → let u := dueTaken d s
     (s.line.state = .run →
       exec .inboundCutback s = .next (u.countLine fun c => { c with strayAnswers := satInc c.strayAnswers })) ∧
     (s.line.state ≠ .run → exec .inboundCutback s = .next u))) ∧
  (∀ (tag : Byte) (body : Bytes) (s : State), let d : Due := .arrival (.message .farQuery tag body)
     s.due.find? (Due.isMessage .farQuery) = some d → let u := dueTaken d s
     let answered : Status → Bytes → Host.Outcome State Fault Refusal := fun st content =>
       .next (mqOffer (mkMessage .farAnswer tag (BitVec.ofNat 8 st.code :: content)) u)
     (body = [1] → exec .farQuery s = answered .ok (farStatusBody u)) ∧
     (∀ code g, body = [2, code] → counterGroup s.mon code.toNat = some g →
       exec .farQuery s = answered .ok (countersBody code.toNat g)) ∧
     (∀ code : Byte, body = [2, code] → 3 < code.toNat → exec .farQuery s = answered .badValue []) ∧
     (∀ i : Byte, body = [3, i] → i.toNat ≤ 16 → exec .farQuery s = answered .ok (historyBody s.mon i.toNat)) ∧
     (∀ i : Byte, body = [3, i] → 16 < i.toNat → exec .farQuery s = answered .badValue []) ∧
     (∀ start count : Byte, body = [4, start, count] → 1 ≤ count.toNat → count.toNat ≤ 8 →
       exec .farQuery s =
         answered .ok (logBody s.evt.overwritten ((s.evt.log.reverse.drop start.toNat).take count.toNat))) ∧
     (∀ start count : Byte, body = [4, start, count] → count.toNat = 0 ∨ 8 < count.toNat →
       exec .farQuery s = answered .badValue []) ∧
     (body = [] → exec .farQuery s = answered .badLength []) ∧
     (∀ (k : Byte) (rest : Bytes), body = k :: rest →
       (k.toNat = 1 ∧ rest.length ≠ 0) ∨ (k.toNat = 2 ∧ rest.length ≠ 1) ∨ (k.toNat = 3 ∧ rest.length ≠ 1) ∨
         (k.toNat = 4 ∧ rest.length ≠ 2) →
       exec .farQuery s = answered .badLength []) ∧
     (∀ (k : Byte) (rest : Bytes), body = k :: rest → k.toNat = 0 ∨ 4 < k.toNat → exec .farQuery s = answered .badKind []))

/-! ## Units and frames -/

/-- R18, R94 to R97: a pull is answered with a FILL unit outside RUN and for want of credit; otherwise the send slot, MQ,
VQ and the data queues are tried in that order, and a unit given takes 1000 from the credit. R100: each unit is counted by
its channel, and a message or frame with its last unit. R145: the watches see a message when its last unit is given. That
a FILL unit outside RUN is in no count is the model's reading (log entry 21, DEDUCED). Choices of the model: log entries
1, 24. -/
def Obligations.PullOrder : Prop :=
  ∀ s : State, let u := settle s
    let paid : Nat := u.sch.credit - 1000
    let given : Bytes → State → Scheduler → State := fun unit v sch =>
      { v with out := { v.out with unit := some unit }, sch := sch }
    let fill : State := given fillUnit u u.sch
    let ready : Prop := u.line.state = .run ∧ 1000 ≤ u.sch.credit
    let manage : Message → Nat → Scheduler → Prop := fun m sent sch =>
      let v := given (itemUnit .manage 0 m.bytes sent) u { sch with credit := paid }
      let w := v.countSch fun c => { c with manageUnits := satInc c.manageUnits }
      (sent + 1 < unitsOf m.bytes.length →
        exec .unitPull s = .next { w with sch := { w.sch with slot := some { msg := m, sent := sent + 1 } } }) ∧
      (unitsOf m.bytes.length ≤ sent + 1 → ∃ t, exec .unitPull s = .next t ∧ MessageSeen false m.kind u t ∧
        Raised [] (({ w with sch := { w.sch with slot := none } } : State).countSch fun c =>
          { c with messagesSent := satInc c.messagesSent }) t)
    let data : State → Ix4 → FrameRec → List FrameRec → Prop := fun v i f rest =>
      let w := (given (itemUnit .data 0 f.bytes f.sent) v { v.sch with credit := paid }).countSch fun c =>
        { c with dataUnits := satInc c.dataUnits }
      (f.sent + 1 < f.units → exec .unitPull s = .next { w with sch := { w.sch with
        queues := v.sch.queues.set i ({ f with sent := f.sent + 1 } :: rest), inProgress := some i } }) ∧
      (f.units ≤ f.sent + 1 → exec .unitPull s =
        .next (({ w with sch := { w.sch with queues := v.sch.queues.set i rest, inProgress := none } } : State).countSch
          fun c => { c with framesSent := c.framesSent.inc i }))
    (u.line.state ≠ .run → exec .unitPull s = .next fill) ∧
    (u.line.state = .run → u.sch.credit < 1000 →
      exec .unitPull s = .next (fill.countSch fun c => { c with fillUnits := satInc c.fillUnits })) ∧
    (∀ x, ready → u.sch.slot = some x → manage x.msg x.sent u.sch) ∧
    (∀ m rest, ready → u.sch.slot = none → u.sch.mq = m :: rest → manage m 0 { u.sch with mq := rest }) ∧
    (∀ f rest, ready → u.sch.slot = none → u.sch.mq = [] → u.sch.vq = f :: rest → f.started = true →
      exec .unitPull s = .next
        (((given (itemUnit .voice f.stream f.bytes 1) u { u.sch with credit := paid, vq := rest }).countSch fun c =>
          { c with voiceUnits := satInc c.voiceUnits }).countVoice fun v =>
            { v with framesSent := satInc v.framesSent })) ∧
    (∀ f rest, ready → u.sch.slot = none → u.sch.mq = [] → u.sch.vq = f :: rest → (∀ g ∈ u.sch.vq, g.started = false) →
      exec .unitPull s = .next
        ((given (itemUnit .voice f.stream f.bytes 0) u
          { u.sch with credit := paid, vq := { f with started := true } :: rest }).countSch fun c =>
            { c with voiceUnits := satInc c.voiceUnits })) ∧
    (∀ i f rest, ready → u.sch.slot = none → u.sch.mq = [] → u.sch.vq = [] →
      u.sch.inProgress = some i → u.sch.queues.get i = f :: rest → data u i f rest) ∧
    (∀ i f rest, ready → u.sch.slot = none → u.sch.mq = [] → u.sch.vq = [] →
      u.sch.inProgress = none → (selectData u).sch.inProgress = some i → (selectData u).sch.queues.get i = f :: rest →
      data (selectData u) i f rest) ∧
    (∀ f rest, ready → u.sch.inProgress = none → u.sch.queues.i0 = f :: rest →
      (u.time.ms - f.arrival).toNat ≤ u.params.ageLimit * 100 →
      (selectData u).sch = { u.sch with inProgress := some .i0 }) ∧
    (ready → u.sch.slot = none → u.sch.mq = [] → u.sch.vq = [] →
      u.sch.inProgress = none → (selectData u).sch.inProgress = none →
      (selectData u).sch.credit = u.sch.credit ∧
      exec .unitPull s = .next ((given fillUnit (selectData u) (selectData u).sch).countSch fun c =>
        { c with fillUnits := satInc c.fillUnits })) ∧
    (ready → u.sch.slot = none → u.sch.mq = [] → u.sch.vq = [] →
      u.sch.inProgress = none → u.sch.queues = ⟨[], [], [], []⟩ →
      ∃ t, exec .unitPull s = .next t ∧ t.out.unit = some fillUnit ∧ t.sch.credit = u.sch.credit ∧
        t.sch.deficit = ⟨0, 0, 0⟩ ∧ t.sch.turn = u.sch.turn ∧ t.sch.mark = false ∧
        t.mon.traffic.sch.fillUnits = satInc u.mon.traffic.sch.fillUnits)

/-- R19: a unit's effect on its context, by the context's state, the damage and the marks. R19, R20, R172, R174: a
received unit is dropped outside RUN, counted when its channel is not defined and dropped when it is FILL; any other
acts on its context and its channel's counts, and makes the step of a completed frame due; a voice frame of another
stream than its context's is counted broken. R145, R174: a message that reads is seen by the watches,
and each kind is handed on or counted. Choices of the model: log entry 1. -/
def Obligations.ReassemblyOfUnits : Prop :=
  (∀ (limit : Nat) (held p : Bytes) (start last : Bool),
     takeUnit limit .idle true start last p = { context := .idle } ∧
     takeUnit limit (.collecting held) true start last p = { context := .skipping, damaged := true } ∧
     takeUnit limit .skipping true start last p = { context := .skipping } ∧
     (∀ ctx, ctx = .idle ∨ ctx = .skipping → p.length ≤ limit →
       takeUnit limit ctx false true false p = { context := .collecting p } ∧
       takeUnit limit ctx false true true p = { context := .idle, frame := some p }) ∧
     (p.length ≤ limit →
       takeUnit limit (.collecting held) false true false p = { context := .collecting p, broken := true } ∧
       takeUnit limit (.collecting held) false true true p = { context := .idle, broken := true, frame := some p }) ∧
     takeUnit limit .idle false false last p = { context := .idle, orphan := true } ∧
     (held.length + p.length ≤ limit →
       takeUnit limit (.collecting held) false false false p = { context := .collecting (held ++ p) } ∧
       takeUnit limit (.collecting held) false false true p = { context := .idle, frame := some (held ++ p) }) ∧
     (limit < held.length + p.length →
       takeUnit limit (.collecting held) false false false p = { context := .skipping, oversize := true } ∧
       takeUnit limit (.collecting held) false false true p = { context := .idle, oversize := true }) ∧
     takeUnit limit .skipping false false false p = { context := .skipping } ∧
     takeUnit limit .skipping false false true p = { context := .idle }) ∧
  (∀ (r : ReassemblyCounts) (k : Taken), r.after k =
     { damaged := if k.damaged then satInc r.damaged else r.damaged
       broken := if k.broken then satInc r.broken else r.broken
       orphan := if k.orphan then satInc r.orphan else r.orphan
       oversize := if k.oversize then satInc r.oversize else r.oversize }) ∧
  (∀ (unit : Bytes) (damaged : Bool) (s : State), let u := settle s
     let h := unitHeader unit
     let bad : Bool := damaged || decide (h.count = 0) || decide (60 < h.count)
     (u.line.state ≠ .run → exec (.receivedUnit unit damaged) s = .next u) ∧
     (u.line.state = .run → h.channel = none →
       exec (.receivedUnit unit damaged) s =
         .next (u.countTraffic fun c => { c with unknownChannel := satInc c.unknownChannel })) ∧
     (u.line.state = .run → h.channel = some .fill → exec (.receivedUnit unit damaged) s = .next u) ∧
     (u.line.state = .run → h.channel = some .data →
       let k := takeUnit 1536 u.line.data bad h.start h.last (unitPayload unit)
       exec (.receivedUnit unit damaged) s = .next
         { u with
           line := { u.line with data := k.context }
           mon := { u.mon with traffic := { u.mon.traffic with data := u.mon.traffic.data.after k } }
           due := match k.frame with
             | none => u.due
             | some f => u.due ++ [.arrival (.data f)] }) ∧
     (∀ c, u.line.state = .run → h.channel = some .voice → u.line.voice[h.stream]? = some c →
       let k := takeUnit 84 c bad h.start h.last (unitPayload unit)
       ∃ t, exec (.receivedUnit unit damaged) s = .next t ∧
         t.line = { u.line with voice := u.line.voice.set h.stream k.context } ∧
         t.due = (match k.frame with
           | none => u.due
           | some f => if voiceStream f = h.stream then u.due ++ [.arrival (.voice h.stream f)] else u.due) ∧
         t.mon = { u.mon with voice := { u.mon.voice with reassembly :=
           let r := u.mon.voice.reassembly.after k
           match k.frame with
           | none => r
           | some f => if voiceStream f = h.stream then r else { r with broken := satInc r.broken } } } ∧
         t.sch = u.sch ∧ t.load = u.load ∧ t.voice = u.voice ∧ t.cls = u.cls) ∧
     (u.line.state = .run → h.channel = some .manage →
       let k := takeUnit 512 u.line.manage bad h.start h.last (unitPayload unit)
       ∃ t, exec (.receivedUnit unit damaged) s = .next t ∧ t.line = { u.line with manage := k.context } ∧
         (k.frame = none → t.due = u.due) ∧
         (k.frame = none → t.mon.traffic = { u.mon.traffic with manage := u.mon.traffic.manage.after k }) ∧
         (∀ f, k.frame = some f → readMessage f = none →
           t.due = u.due ∧ t.mon.watches = u.mon.watches ∧
           t.mon.traffic = { u.mon.traffic with manage := u.mon.traffic.manage.after k
                                                malformed := satInc u.mon.traffic.malformed }) ∧
         (∀ f kind tag body, k.frame = some f → readMessage f = some (kind, tag, body) →
           t.due = (if kind = .faultReport ∨ kind = .farAnswer then u.due
                    else u.due ++ [.arrival (.message kind tag body)]) ∧
           t.mon.traffic = { u.mon.traffic with
             manage := u.mon.traffic.manage.after k
             inboundReports := if kind = .faultReport then satInc u.mon.traffic.inboundReports
                               else u.mon.traffic.inboundReports
             malformed := if kind = .farAnswer then satInc u.mon.traffic.malformed else u.mon.traffic.malformed } ∧
           MessageSeen true kind u t)))

/-- R81 to R85: a DATA frame from the line passes the downstream filter or is counted; the port that has finished a
frame sends it padded, takes it from its queue (unless a TRAFFIC reset has emptied that), counts it and takes the next,
management first. The value of the check sequence it adds is free (log entry 28). R159: a reply that waits joins the queue
when a place is free. That a port which has sent the reply of a
PART reset takes no next frame is the model's reading (log entry 16, DEDUCED); the type of a tagged frame of 14 to 17 bytes
is the model's choice (log entry 27). Choices of the model: log entry 1. -/
def Obligations.DownstreamAndHomePort : Prop :=
  (∀ (f : Bytes) (s : State), s.due.find? Due.isData = some (.arrival (.data f)) →
    let u := dueTaken (.arrival (.data f)) s
    (f.length < 14 → exec .downstreamFrame s = .next (u.countCls fun c => { c with downRunt := satInc c.downRunt })) ∧
    (14 ≤ f.length → frameType f = 0xA8F2 →
      exec .downstreamFrame s = .next (u.countCls fun c => { c with downMgmt := satInc c.downMgmt })) ∧
    (14 ≤ f.length → frameType f ≠ 0xA8F2 → 32 ≤ s.cls.homeQueue.length →
      exec .downstreamFrame s = .next (u.countCls fun c => { c with homeOverflow := satInc c.homeOverflow })) ∧
    (14 ≤ f.length → frameType f ≠ 0xA8F2 → s.cls.homeQueue.length < 32 →
      ∃ t, exec .downstreamFrame s = .next t ∧
        t = { u with cls := { u.cls with homeQueue := s.cls.homeQueue ++ [f], sending := t.cls.sending } } ∧
        (∀ x, s.cls.sending = some x → t.cls.sending = some x) ∧
        (s.cls.sending = none → s.cls.mgmtQueue = [] → s.cls.homeQueue = [] → t.cls.sending = some (.home f)))) ∧
  (∀ s : State, let u := settle s
    let sent : Bytes → SentFrame := fun f =>
      let padded := f ++ List.replicate (60 - f.length) 0
      { bytes := padded, check := Config.frameCheck padded }
    (u.cls.sending = none → exec .homeFrameSent s = .next u) ∧
    (∀ f, u.cls.sending = some (.home f) → ∃ t, exec .homeFrameSent s = .next t ∧
      t.out = { u.out with homeFrame := some (sent f) } ∧
      t.cls = { u.cls with homeQueue := u.cls.homeQueue.drop 1, sending := t.cls.sending } ∧
      t.mon.traffic.cls = { u.mon.traffic.cls with homeSent := satInc u.mon.traffic.cls.homeSent } ∧
      (∀ g rest, u.cls.mgmtQueue = g :: rest → t.cls.sending = some (.mgmt g)) ∧
      (∀ g rest, u.cls.mgmtQueue = [] → u.cls.homeQueue.drop 1 = g :: rest → t.cls.sending = some (.home g)) ∧
      (u.cls.mgmtQueue = [] → u.cls.homeQueue.drop 1 = [] → t.cls.sending = none) ∧
      t.line = u.line ∧ t.sch = u.sch ∧ t.evt = u.evt ∧ t.agent = u.agent ∧ t.due = u.due ∧ t.pending = u.pending) ∧
    (∀ f, u.cls.sending = some (.homeEmptied f) → ∃ t, exec .homeFrameSent s = .next t ∧
      t.out = { u.out with homeFrame := some (sent f) } ∧
      t.cls = { u.cls with sending := t.cls.sending } ∧
      t.mon.traffic.cls = { u.mon.traffic.cls with homeSent := satInc u.mon.traffic.cls.homeSent } ∧
      (∀ g rest, u.cls.mgmtQueue = g :: rest → t.cls.sending = some (.mgmt g)) ∧
      (∀ g rest, u.cls.mgmtQueue = [] → u.cls.homeQueue = g :: rest → t.cls.sending = some (.home g)) ∧
      (u.cls.mgmtQueue = [] → u.cls.homeQueue = [] → t.cls.sending = none) ∧
      t.line = u.line ∧ t.sch = u.sch ∧ t.evt = u.evt ∧ t.agent = u.agent ∧ t.due = u.due ∧ t.pending = u.pending) ∧
    (∀ f, u.cls.sending = some (.mgmt f) → f.partReply = false →
      ∃ t, exec .homeFrameSent s = .next t ∧
        t.out = { u.out with homeFrame := some (sent f.bytes) } ∧
        t.cls = { u.cls with mgmtQueue := t.cls.mgmtQueue, sending := t.cls.sending } ∧
        t.mon.traffic.cls = { u.mon.traffic.cls with mgmtSent := satInc u.mon.traffic.cls.mgmtSent } ∧
        (u.agent.waiting = none → t.cls.mgmtQueue = u.cls.mgmtQueue.drop 1 ∧ t.agent = u.agent) ∧
        (∀ g, u.agent.waiting = some g → u.cls.mgmtQueue.length ≤ 8 →
          t.cls.mgmtQueue = u.cls.mgmtQueue.drop 1 ++ [g] ∧ t.agent = { u.agent with waiting := none }) ∧
        (∀ g rest, u.cls.mgmtQueue.drop 1 = g :: rest → t.cls.sending = some (.mgmt g)) ∧
        (∀ g rest, u.cls.mgmtQueue.drop 1 = [] → u.cls.homeQueue = g :: rest → t.cls.sending = some (.home g)) ∧
        (u.cls.mgmtQueue.drop 1 = [] → u.cls.homeQueue = [] → u.agent.waiting = none → t.cls.sending = none) ∧
        t.line = u.line ∧ t.sch = u.sch ∧ t.evt = u.evt ∧ t.due = u.due ∧ t.pending = u.pending) ∧
    (∀ f, u.cls.sending = some (.mgmt f) → f.partReply = true →
      ∃ t, exec .homeFrameSent s = .next t ∧ t.due = u.due ++ [.partReset] ∧
        t.out = { u.out with homeFrame := some (sent f.bytes) } ∧
        t.cls = { u.cls with mgmtQueue := u.cls.mgmtQueue.drop 1, sending := none } ∧
        t.mon.traffic.cls = { u.mon.traffic.cls with mgmtSent := satInc u.mon.traffic.cls.mgmtSent } ∧
        t.agent = u.agent ∧ t.pending = u.pending))

/-- R72, R73, R78, R79, R153: a frame at the home port meets the ingress checks in their order, then recognition: a
management frame joins the request queue, and wakes the host, or is counted; a data frame is classified. Choices of
the model: log entry 1. -/
def Obligations.HomeFramesAreCheckedInOrder : Prop :=
  ∀ (f : Bytes) (s : State), let u := settle s
    exec (.homeFrameArrival f false) s = .next (u.countCls fun c => { c with badCheck := satInc c.badCheck }) ∧
    (f.length < 60 →
      exec (.homeFrameArrival f true) s = .next (u.countCls fun c => { c with runt := satInc c.runt })) ∧
    (1536 < f.length →
      exec (.homeFrameArrival f true) s = .next (u.countCls fun c => { c with giant := satInc c.giant })) ∧
    (60 ≤ f.length → f.length ≤ 1536 → frameType f = 0xA8F2 →
      (u.params.manager ≠ 0 → frameSource f ≠ u.params.manager →
        exec (.homeFrameArrival f true) s = .next (u.countCls fun c => { c with mgmtRefused := satInc c.mgmtRefused })) ∧
      (u.params.manager = 0 ∨ frameSource f = u.params.manager →
        (4 ≤ u.agent.queue.length →
          exec (.homeFrameArrival f true) s =
            .next (u.countCls fun c => { c with mgmtOverflow := satInc c.mgmtOverflow })) ∧
        (u.agent.queue.length < 4 →
          exec (.homeFrameArrival f true) s = .next (offerNotice
            { u with
              agent := { u.agent with queue := u.agent.queue ++ [Request.ofFrame f],
                                      lastSource := some (frameSource f) }
              evt := { u.evt with asleep := false, wakePin := false } })))) ∧
    (60 ≤ f.length → f.length ≤ 1536 → frameType f ≠ 0xA8F2 →
      let walked : State := { u with cls := { u.cls with table := (classWalk f u.cls.table).1 } }
      (∀ i, (classWalk f u.cls.table).2 = .queue i →
        exec (.homeFrameArrival f true) s =
          .next (admitFrame i f (walked.countCls fun c => { c with upstream := satInc c.upstream }))) ∧
      ((classWalk f u.cls.table).2 = .drop →
        exec (.homeFrameArrival f true) s = .next (walked.countCls fun c => { c with classDrop := satInc c.classDrop })) ∧
      (∀ i : Ix4, (classWalk f u.cls.table).2 = .defaulted → u.params.defaultQueue = i.num →
        exec (.homeFrameArrival f true) s =
          .next (admitFrame i f (walked.countCls fun c =>
            { c with defaulted := satInc c.defaulted, upstream := satInc c.upstream }))))

/-! ## Phone ports and calls -/

/-- R102, R104, R105, R111, R115, R146: an accepted hook level moves the port: a lift, an answer, a break, a dial pulse or
a flash. An unfed port has none. The watches on PORT1-OFFHOOK and PORT2-OFFHOOK count a lift and an answer alone. R105,
R106: an acceptance that falls together with an expiry of the break timer or of the interdigit timer comes after it.
Choices of the model: log entry 1. -/
def Obligations.HookAcceptances : Prop :=
  (∀ (p : PortId) (s : State), .hook p ∈ s.due → .breakPulses p ∉ s.due → .hangUp p ∉ s.due → .interdigit p ∉ s.due →
    let u := dueTaken (.hook p) s
    let q := s.port p
    (q.state = .onHook → q.accepted = false →
      ∃ t, exec (.hookAcceptance p) s = .next t ∧ EdgesCounted s t ∧
        Raised [.plain .hook]
          ((u.modPort p fun q => { q with state := .offHook, accepted := true, stable := 0, pulses := 0,
                                          interdigitMs := 0, ring := none }).countPort p fun c =>
            { c with lifts := satInc c.lifts }) t) ∧
    (q.state = .ringing → q.accepted = false →
      ∃ t, exec (.hookAcceptance p) s = .next t ∧ EdgesCounted s t ∧
        Raised [.plain .hook]
          ((u.modPort p fun q => { q with state := .offHook, accepted := true, stable := 0, pulses := 0,
                                          interdigitMs := 0, ring := none }).countPort p fun c =>
            { c with lifts := satInc c.lifts, answers := satInc c.answers }) t) ∧
    (q.state = .offHook → q.accepted = true →
      exec (.hookAcceptance p) s = .next (u.modPort p fun q =>
        { q with state := .inBreak, accepted := false, stable := 0, breakMs := 0 })) ∧
    (q.state = .inBreak → q.accepted = false → q.breakMs ≤ 100 →
      exec (.hookAcceptance p) s = .next (u.modPort p fun q =>
        { q with state := .offHook, accepted := true, stable := 0, pulses := min (q.pulses + 1) 255,
                 interdigitMs := 0 })) ∧
    (q.state = .inBreak → q.accepted = false → 100 < q.breakMs →
      ∃ t, exec (.hookAcceptance p) s = .next t ∧ EdgesCounted s t ∧
        Raised [.plain .flash]
          ((u.modPort p fun q => { q with state := .offHook, accepted := true, stable := 0, pulses := 0,
                                          interdigitMs := 0 }).countPort p fun c =>
            { c with flashes := satInc c.flashes }) t) ∧
    (q.state = .unfed → exec (.hookAcceptance p) s = .next u)) ∧
  (∀ (p : PortId) (s : State), .hook p ∈ s.due → s.due.Nodup →
    ∃ a b v, exec (.breakPulsesComplete p) s = .next a ∧ exec (.hangUp p) a = .next b ∧
      exec (.interdigitExpiry p) b = .next v ∧ .hook p ∈ v.due ∧ .breakPulses p ∉ v.due ∧ .hangUp p ∉ v.due ∧
      .interdigit p ∉ v.due ∧ exec (.hookAcceptance p) s = exec (.hookAcceptance p) v) ∧
  (∀ (p : PortId) (s : State), .hook p ∈ s.due → .interdigit p ∈ s.due → s.due.Nodup →
    (s.port p).state = .offHook → (s.port p).accepted = true → 1 ≤ (s.port p).pulses → (s.port p).pulses ≤ 10 →
    (s.port p).digits.length < 16 →
    ∃ t, exec (.hookAcceptance p) s = .next t ∧ t.due.count (.interdigit p) = 0 ∧ t.due.count (.hook p) = 0 ∧
      Raised [.plain .digit]
        ((({ s with due := t.due } : State).modPort p fun q =>
          { q with state := .inBreak, accepted := false, stable := 0, breakMs := 0, pulses := 0
                   digits := q.digits ++ [q.pulses % 10] }).countPort p fun n => { n with digits := satInc n.digits }) t)

/-- R105, R106, R115: pulses pending are completed as a digit at a break of 101 ms and at the interdigit expiry; a
break beyond FLASH-MAX is a hang-up. Choices of the model: log entry 1. -/
def Obligations.DigitsAndHangUps : Prop :=
  (∀ (c : Instr) (d : Due) (p : PortId) (s : State),
    (c = .breakPulsesComplete p ∧ d = .breakPulses p ∧ (s.port p).state = .inBreak) ∨
      (c = .interdigitExpiry p ∧ d = .interdigit p ∧ (s.port p).state = .offHook) →
    d ∈ s.due →
    let u := dueTaken d s
    let q := s.port p
    (1 ≤ q.pulses → q.pulses ≤ 10 → q.digits.length < 16 →
      ∃ t, exec c s = .next t ∧
        Raised [.plain .digit]
          ((u.modPort p fun q => { q with pulses := 0, digits := q.digits ++ [q.pulses % 10] }).countPort p fun n =>
            { n with digits := satInc n.digits }) t) ∧
    (1 ≤ q.pulses → q.pulses ≤ 10 → 16 ≤ q.digits.length →
      exec c s = .next ((u.modPort p fun q => { q with pulses := 0 }).countPort p fun n =>
        { n with digitOverflow := satInc n.digitOverflow })) ∧
    (10 < q.pulses →
      exec c s = .next ((u.modPort p fun q => { q with pulses := 0 }).countPort p fun n =>
        { n with pulseOverflow := satInc n.pulseOverflow })) ∧
    (q.pulses = 0 → exec c s = .next u)) ∧
  (∀ (p : PortId) (s : State), .hangUp p ∈ s.due → (s.port p).state = .inBreak →
    ∃ t, exec (.hangUp p) s = .next t ∧
      Raised [.plain .hook]
        (((dueTaken (.hangUp p) s).modPort p fun q => { q with state := .onHook }).countPort p fun c =>
          { c with hangUps := satInc c.hangUps }) t)

/-- R110: the end of a ring phase: the next phase of the pass that lasts any time follows; when none is left the passes are
counted, and the ring completes or starts again at the first phase of its entry that lasts any time. The phases of a pass are
numbered from 0, an even one being the on phase of its segment. Choices of the model: log entries 1, 20. -/
def Obligations.RingPhases : Prop :=
  ∀ (p : PortId) (r : Ring) (s : State), .ringPhase p ∈ s.due → (s.port p).ring = some r → 1 ≤ r.segment →
    (s.phone.cadence.getD r.entry []).length ≤ 4 →
    (r.onPhase = true → r.segment ≤ (segments (s.phone.cadence.getD r.entry [])).length) →
    let u := dueTaken (.ringPhase p) s
    let phases := ringPhases (s.phone.cadence.getD r.entry [])
    let ended := 2 * (r.segment - 1) + (if r.onPhase then 0 else 1)
    let left := phases.drop (ended + 1)
    let ringing : Ring → State := fun x => u.modPort p fun q => { q with ring := some x }
    let at_ : Nat → Ring := fun k => { r with segment := k / 2 + 1, onPhase := decide (k % 2 = 0), ms := 0 }
    (∀ k, FirstPhase left k → exec (.ringPhaseEnd p) s = .next (ringing (at_ (ended + 1 + k)))) ∧
    ((∀ x ∈ left, x = 0) → r.repeats ≠ 0 → satInc r.passes = r.repeats →
      ∃ t, exec (.ringPhaseEnd p) s = .next t ∧
        Raised [.withA .ringDone 0]
          ((u.modPort p fun q => { q with state := .onHook, ring := none }).countPort p fun c =>
            { c with ringsCompleted := satInc c.ringsCompleted }) t) ∧
    (∀ k, (∀ x ∈ left, x = 0) → (r.repeats = 0 ∨ satInc r.passes ≠ r.repeats) → FirstPhase phases k →
      exec (.ringPhaseEnd p) s = .next (ringing { at_ k with passes := satInc r.passes }))

/-- R109 to R112: RING, its checks in their order, RING-STOP and PORT-CONTROL. A ring starts in the first phase of its entry
that lasts any time, which is the first segment's on phase unless its value is 0. Choices of the model: log entries 1, 4, 5,
17, 20. -/
def Obligations.RingAndPortRequests : Prop :=
  ∀ (r : Request) (rest : List Request) (p : PortId) (s : State), byteAt r.body 0 = portNum p →
    let u := executing rest s
    (Asked .ring r rest s → r.HasBody 3 →
      (7 < byteAt r.body 1 → exec .ring s = .next (replied r .badValue [] u)) ∧
      (byteAt r.body 1 ≤ 7 → (u.port p).state ≠ .onHook → exec .ring s = .next (replied r .busy [] u)) ∧
      (byteAt r.body 1 ≤ 7 → (u.port p).state = .onHook →
        (∀ g ∈ segments (u.phone.cadence.getD (byteAt r.body 1) []), g.on = 0) →
        exec .ring s = .next (replied r .badValue [] u)) ∧
      (∀ k, byteAt r.body 1 ≤ 7 → (u.port p).state = .onHook →
        (∃ g ∈ segments (u.phone.cadence.getD (byteAt r.body 1) []), 0 < g.on) →
        (u.phone.cadence.getD (byteAt r.body 1) []).length ≤ 4 →
        FirstPhase (ringPhases (u.phone.cadence.getD (byteAt r.body 1) [])) k →
        exec .ring s = .next (replied r .ok [] (u.modPort p fun q =>
          { q with state := .ringing
                   ring := some { entry := byteAt r.body 1, repeats := byteAt r.body 2, segment := k / 2 + 1,
                                  onPhase := decide (k % 2 = 0), ms := 0, passes := 0 } })))) ∧
    (Asked .ringStop r rest s → r.HasBody 1 →
      ((u.port p).state = .ringing → ∃ t, exec .ringStop s = .next (replied r .ok [] t) ∧
        Raised [.withA .ringDone 1]
          ((u.modPort p fun q => { q with state := .onHook, ring := none }).countPort p fun c =>
            { c with ringsStopped := satInc c.ringsStopped }) t) ∧
      ((u.port p).state ≠ .ringing → exec .ringStop s = .next (replied r .ok [] u))) ∧
    (Asked .portControl r rest s → r.HasBody 3 →
      exec .portControl s = .next (replied r .ok [] (u.modPort p fun q =>
        { q with muteToLine := byteAt r.body 1 ≠ 0, muteToPhone := byteAt r.body 2 ≠ 0 })))

/-- R118, R119, R120, R92: the requests that open and close channels, their checks in their order. Choices of the
model: log entries 1, 4, 5, 17. -/
def Obligations.ChannelRequests : Prop :=
  (∀ (r : Request) (rest : List Request) (p : PortId) (s : State), Asked .channelOpenLine r rest s → r.HasBody 7 →
    byteAt r.body 0 = 1 → byteAt r.body 1 = portNum p → let u := executing rest s
    let stream := byteAt r.body 2
    let n := openLines u.voice
    let target : Prop := byteAt r.body 5 = 0 ∨ (1 ≤ byteAt r.body 6 ∧ byteAt r.body 6 ≤ 6)
    let taken : Prop := (u.record p).call ≠ .free ∨ (u.port p).state = .unfed
    (15 < stream ∨ ¬ target →
      exec .channelOpenLine s = .next (replied r .badValue [] u)) ∧
    (stream ≤ 15 → target → taken → exec .channelOpenLine s = .next (replied r .busy [] u)) ∧
    (stream ≤ 15 → target → ¬ taken → (u.record (otherPort p)).call.lineStream = some stream →
      exec .channelOpenLine s = .next (replied r .badValue [] u)) ∧
    (stream ≤ 15 → target → ¬ taken → (u.record (otherPort p)).call.lineStream ≠ some stream →
      (u.line.state ≠ .run ∨ u.rate.txAllowance < 200 * (n + 1) ∨ u.rate.rxAllowance < 200 * (n + 1)) →
      exec .channelOpenLine s = .next (replied r .noRoom [] u)) ∧
    (stream ≤ 15 → target → ¬ taken → (u.record (otherPort p)).call.lineStream ≠ some stream →
      u.line.state = .run → 200 * (n + 1) ≤ u.rate.txAllowance → 200 * (n + 1) ≤ u.rate.rxAllowance →
      exec .channelOpenLine s = .next (replied r .ok []
        (u.setRecord p
          { call := .line { stream := stream
                            target := if byteAt r.body 5 = 0 then u.params.jitterTarget else byteAt r.body 6
                            position := 0, seq := 0, samples := [], formed := false
                            buffer := { playing := false, expected := none, held := [], last := none, conceal := 0 }
                            chosen := none }
            idle := if byteAt r.body 3 = 0 then 255 else r.body.getD 4 0
            counts := CallCounts.zero })))) ∧
  (∀ (r : Request) (rest : List Request) (s : State), Asked .channelOpenIntercom r rest s → r.HasBody 7 →
    let u := executing rest s
    let ready : Prop := ∀ p, (u.record p).call = .free ∧ (u.port p).state ≠ .unfed
    (¬ ready → exec .channelOpenIntercom s = .next (replied r .busy [] u)) ∧
    (ready → exec .channelOpenIntercom s = .next (replied r .ok []
      (let rec' : ChannelRecord := { call := .intercom 0, idle := if byteAt r.body 3 = 0 then 255 else r.body.getD 4 0,
                                     counts := CallCounts.zero }
       { u with voice := ⟨rec', rec'⟩ })))) ∧
  (∀ (r : Request) (rest : List Request) (p : PortId) (s : State), Asked .channelClose r rest s → r.HasBody 1 →
    byteAt r.body 0 = portNum p → let u := executing rest s
    ((u.record p).call = .free → exec .channelClose s = .next (replied r .ok [] u)) ∧
    (∀ c, (u.record p).call = .line c → exec .channelClose s = .next (replied r .ok []
      { u with voice := u.voice.set p { u.record p with call := .free }
               sch := { u.sch with vq := u.sch.vq.filter fun f => f.port != p } })) ∧
    (∀ n, (u.record p).call = .intercom n → ∃ v, exec .channelClose s = .next (replied r .ok [] v) ∧
      (∀ q, v.record q = { u.record q with call := .free }) ∧ v.sch.vq = [] ∧
      v = { u with voice := v.voice, sch := { u.sch with vq := v.sch.vq } }))

/-- R101, R112, R122, R123, R129: a sample frame: what each port is given, what it passes on, and the positions of the
records; a LINE record's 80th sample makes its frame boundary due, an INTERCOM's counts a block passed, at the
record and in the voice totals. Choices of the model: log entry 1. -/
def Obligations.SampleFrames : Prop :=
  ∀ (one two : PortFrame) (s : State), let u := settle s
    let frame : PortId → PortFrame := fun p => if p = .p1 then one else two
    let passed : PortId → Byte := fun p => if (u.port p).muteToLine then (u.record p).idle else (frame p).sample
    ∃ t, exec (.sampleFrame one two) s = .next t ∧
      (∀ p, t.port p = { u.port p with rawOff := (frame p).rawOff, lastSample := passed p }) ∧
      t.phone.cadence = u.phone.cadence ∧
      (∀ p, (t.out.ports.get p).feed = decide ((u.port p).state ≠ .unfed)) ∧
      (∀ p, (t.out.ports.get p).ring = true ↔
        (u.port p).state = .ringing ∧ ∃ r, (u.port p).ring = some r ∧ r.onPhase = true) ∧
      (∀ p, (t.out.ports.get p).sample =
        if (u.port p).muteToPhone then (u.record p).idle
        else match (u.record p).call with
          | .free => (u.record p).idle
          | .line c => (match c.chosen with
            | none => (u.record p).idle
            | some x => x.getD c.position (u.record p).idle)
          | .intercom _ => (u.port (otherPort p)).lastSample) ∧
      (∀ p, (u.record p).call = .free → t.record p = u.record p ∧ .frameBoundary p ∉ t.due) ∧
      (∀ p c, (u.record p).call = .line c → t.record p = { u.record p with
          call := .line { c with samples := c.samples ++ [passed p]
                                 position := if c.position = 79 then 0 else c.position + 1 } } ∧
        (.frameBoundary p ∈ t.due ↔ c.position = 79)) ∧
      (∀ p n, (u.record p).call = .intercom n → .frameBoundary p ∉ t.due ∧ t.record p = { u.record p with
          call := .intercom (if n = 79 then 0 else n + 1)
          counts := { (u.record p).counts with
            framesPassed := if n = 79 then satInc (u.record p).counts.framesPassed
                            else (u.record p).counts.framesPassed } }) ∧
      (∀ d ∈ t.due, ∃ p, d = .frameBoundary p) ∧ t.due.Nodup ∧
      (let passes : PortId → Nat → Nat := fun p n => if (u.record p).call = .intercom 79 then satInc n else n
       t.mon = { u.mon with voice := { u.mon.voice with totals := { u.mon.voice.totals with
         framesPassed := passes .p1 (passes .p2 u.mon.voice.totals.framesPassed) } } }) ∧
      t.pending = u.pending ∧ t.time = u.time ∧ t.line = u.line ∧ t.load = u.load ∧ t.track = u.track ∧
      t.rate = u.rate ∧ t.cls = u.cls ∧ t.sch = u.sch ∧ t.supply = u.supply ∧ t.evt = u.evt ∧ t.agent = u.agent ∧
      t.out.commands = u.out.commands ∧ t.out.unit = u.out.unit ∧ t.out.homeFrame = u.out.homeFrame

/-- R91, R100, R122, R126, R127, R129: a frame boundary of a LINE record: its samples form a frame, offered to VQ in RUN and
unsent otherwise, and the playout tick chooses the next 80 samples; a played frame leaves the buffer, which stays PLAYING. The
record's call counts and their totals move alike, and R143: the interval's voice frames lost with each VQ drop and each
concealment. A VQ drop and an underrun raise VOICE-LOSS with the port.
Choices of the model: log entry 1. -/
def Obligations.FrameBoundaries : Prop :=
  ∀ (p : PortId) (c : LineCall) (s : State), .frameBoundary p ∈ s.due → (s.record p).call = .line c →
    let frame : VqFrame := { port := p, stream := c.stream, started := false
                             bytes := voiceFrameBytes c.stream (!c.formed) c.seq c.samples }
    let tick := playoutTick c.target (s.record p).idle c.buffer
    let drops : Bool := decide (s.line.state = .run) && decide (4 ≤ (vqOf s.sch.vq p).length)
    let turn : Bool := c.buffer.playing && c.buffer.expected.isSome
    let held : Bool := c.buffer.held.any fun f => decide (c.buffer.expected = some f.seq)
    let underruns : Bool := turn && decide (4 ≤ c.buffer.conceal) && c.buffer.held.isEmpty
    let counted : CallCounts → CallCounts := fun n =>
      { n with
        assembled := satInc n.assembled
        unsent := if s.line.state = .run then n.unsent else satInc n.unsent
        vqDrops := if drops then satInc n.vqDrops else n.vqDrops
        played := if turn && held then satInc n.played else n.played
        concealment := if turn && !held then satInc n.concealment else n.concealment
        underrun := if underruns then satInc n.underrun else n.underrun }
    ∃ t, exec (.frameBoundary p) s = .next t ∧
      (t.record p).counts = counted (s.record p).counts ∧
      (let lost := if drops then satInc s.mon.interval.voiceLost else s.mon.interval.voiceLost
       t.mon = { s.mon with
         voice := { s.mon.voice with
           totals := counted s.mon.voice.totals
           vqDrops := if drops then s.mon.voice.vqDrops.set p (satInc (s.mon.voice.vqDrops.get p))
                      else s.mon.voice.vqDrops }
         interval := { s.mon.interval with voiceLost := if turn && !held then satInc lost else lost }
         watches := t.mon.watches }) ∧
      (t.record p).call = .line { c with seq := c.seq + 1, samples := [], formed := true, buffer := tick.buffer,
                                         chosen := some tick.chosen } ∧
      (t.record p).idle = (s.record p).idle ∧
      (t.record p).counts.assembled = satInc (s.record p).counts.assembled ∧
      (s.line.state ≠ .run → t.sch = s.sch ∧ (t.record p).counts.unsent = satInc (s.record p).counts.unsent) ∧
      (s.line.state = .run → (vqOf s.sch.vq p).length < 4 → t.sch = { s.sch with vq := s.sch.vq ++ [frame] }) ∧
      (s.line.state = .run → 4 ≤ (vqOf s.sch.vq p).length →
        t.sch = { s.sch with vq := (s.sch.vq.eraseP fun f => f.port == p && !f.started) ++ [frame] } ∧
        (t.record p).counts.vqDrops = satInc (s.record p).counts.vqDrops ∧
        t.mon.voice.vqDrops = s.mon.voice.vqDrops.set p (satInc (s.mon.voice.vqDrops.get p)) ∧
        t.mon.voice.totals.vqDrops = satInc s.mon.voice.totals.vqDrops ∧ t.evt.pending.has .voiceLoss = true) ∧
      (c.buffer.playing = false →
        tick.chosen = List.replicate 80 (s.record p).idle ∧
        tick.buffer = { c.buffer with playing := decide (c.target ≤ c.buffer.held.length) }) ∧
      (∀ e f, c.buffer.playing = true → c.buffer.expected = some e → c.buffer.held.find? (·.seq == e) = some f →
        tick.chosen = f.samples ∧
        tick.buffer = { c.buffer with expected := some (e + 1), held := c.buffer.held.eraseP (·.seq == e)
                                      last := some f.samples, conceal := 0 } ∧
        (t.record p).counts.played = satInc (s.record p).counts.played) ∧
      (∀ e, c.buffer.playing = true → c.buffer.expected = some e → c.buffer.held.find? (·.seq == e) = none →
        tick.chosen =
          (if c.buffer.conceal = 0 then c.buffer.last.getD (List.replicate 80 (s.record p).idle)
           else List.replicate 80 (s.record p).idle) ∧
        (t.record p).counts.concealment = satInc (s.record p).counts.concealment ∧
        (4 ≤ c.buffer.conceal → c.buffer.held = [] →
          tick.buffer = { playing := false, expected := none, held := [], last := none, conceal := 0 } ∧
          t.evt.pending.has .voiceLoss = true) ∧
        (c.buffer.conceal < 4 ∨ c.buffer.held ≠ [] →
          tick.buffer = { c.buffer with expected := some (e + 1), conceal := c.buffer.conceal + 1 })) ∧
      LogGains
        (if (s.line.state = .run ∧ 4 ≤ (vqOf s.sch.vq p).length) ∨
            (c.buffer.playing = true ∧ 4 ≤ c.buffer.conceal ∧ c.buffer.held = [] ∧ c.buffer.expected ≠ none) then
          [.withA .voiceLoss (portNum p)]
         else []) s t ∧
      t.record (otherPort p) = s.record (otherPort p) ∧ t.pending = s.pending ∧ t.time = s.time ∧ t.line = s.line ∧
      t.load = s.load ∧ t.rate = s.rate ∧ t.phone = s.phone ∧ t.supply = s.supply ∧ t.agent = s.agent ∧ t.out = s.out

/-- R124, R125, R128, R129: a VOICE frame from the line is discarded outside RUN, counted when its length or its
stream is wrong, and otherwise placed in the jitter buffer of its record by its distance from the expected number.
Choices of the model: log entry 1. -/
def Obligations.VoiceArrivals : Prop :=
  ∀ (stream : Nat) (f : Bytes) (s : State), let d : Due := .arrival (.voice stream f)
    s.due.find? Due.isVoice = some d → let u := dueTaken d s
    let h : HeldFrame := { seq := voiceSeq f, samples := f.drop 4 }
    (s.line.state ≠ .run → exec .voiceArrival s = .next u) ∧
    (s.line.state = .run → f.length ≠ 84 →
      exec .voiceArrival s = .next (u.countVoice fun v => { v with malformed := satInc v.malformed })) ∧
    (s.line.state = .run → f.length = 84 → (∀ p, (s.record p).call.lineStream ≠ some stream) →
      exec .voiceArrival s = .next (u.countVoice fun v => { v with unknownStream := satInc v.unknownStream })) ∧
    (∀ p c, s.line.state = .run → f.length = 84 → (s.record p).call = .line c → c.stream = stream →
      (s.record (otherPort p)).call.lineStream ≠ some stream →
      let placed : JitterBuffer → (CallCounts → CallCounts) → State := fun b count =>
        (u.setRecord p { s.record p with call := .line { c with buffer := b } }).countCall p count
      (c.buffer.expected = none →
        exec .voiceArrival s = .next (placed { c.buffer with expected := some h.seq, held := c.buffer.held ++ [h] }
          fun n => { n with received := satInc n.received })) ∧
      (∀ e, c.buffer.expected = some e →
        ((h.seq - e).toNat ≤ 7 → (∀ g ∈ c.buffer.held, g.seq ≠ h.seq) →
          exec .voiceArrival s = .next (placed { c.buffer with held := c.buffer.held ++ [h] }
            fun n => { n with received := satInc n.received })) ∧
        ((h.seq - e).toNat ≤ 7 → (∃ g ∈ c.buffer.held, g.seq = h.seq) →
          exec .voiceArrival s = .next (placed c.buffer fun n => { n with duplicate := satInc n.duplicate })) ∧
        (32768 ≤ (h.seq - e).toNat →
          exec .voiceArrival s = .next (placed c.buffer fun n => { n with late := satInc n.late })) ∧
        (7 < (h.seq - e).toNat → (h.seq - e).toNat < 32768 →
          exec .voiceArrival s = .next (placed
            { playing := false, expected := some h.seq, held := [h], last := none, conceal := 0 }
            fun n => { n with resync := satInc n.resync, received := satInc n.received }))))

/-! ## Supply and pacing -/

/-- R131, R132: a pin's level is accepted; a mode so worked out that is not in force is entered, and until both pins
have an accepted level, or when the mode is the one in force, nothing else changes. R133: what a mode entry does, the
occurrences with their details among it. R146: the watches on ON-BATTERY and on the binding limit count an entry.
Choices of the model: log entries 1, 24. -/
def Obligations.PinAcceptances : Prop :=
  (∀ (pin : PinId) (level : Bool) (s : State), .pin pin ∈ s.due → (s.supply.pin pin).seen = some level →
    let u := dueTaken (.pin pin) s
    let v : State := { u with supply := u.supply.setPin pin { s.supply.pin pin with accepted := some level, stable := 0 } }
    ((v.supply.mainsOk.accepted = none ∨ v.supply.battLow.accepted = none) →
      exec (.pinAcceptance pin) s = .next v) ∧
    (∀ m b, v.supply.mainsOk.accepted = some m → v.supply.battLow.accepted = some b →
      let mode : Mode := if m then .mains else if b then .reserve else .lifeline
      (mode = s.supply.mode → exec (.pinAcceptance pin) s = .next v) ∧
      (mode ≠ s.supply.mode → exec (.pinAcceptance pin) s = .next (enterMode mode v)))) ∧
  (∀ (m : Mode) (s : State), let t := enterMode m s
    t.supply = { s.supply with mode := m } ∧ t.sch.shedLevel = s.params.shed.get m ∧
    (∀ i, shedAt (s.params.shed.get m) i = true → shedAt s.sch.shedLevel i = false → t.sch.queues.get i = []) ∧
    (∀ i, shedAt (s.params.shed.get m) i = false → t.sch.queues.get i = s.sch.queues.get i) ∧
    ((t.port .p2).state = .unfed ↔ s.params.port2Feed.get m ≠ 1) ∧ t.port .p1 = s.port .p1 ∧
    t.evt.pending.has .supplyChange = true ∧
    LogGains ((if s.params.port2Feed.get m = 1 then [] else feedLossEvents s) ++ [.withA .supplyChange m.code]) s t ∧
    (m ≠ s.supply.mode → EdgesCounted s t) ∧ t.line = s.line ∧ t.time = s.time ∧ t.agent = s.agent ∧
    t.load.txLoads = s.load.txLoads ∧ t.load.rxLoads = s.load.rxLoads ∧
    (s.line.state = .run → m ≠ .mains → s.params.loadCeiling.get m < 8 * s.load.txLoads.sum → t.load.tx ≠ .none) ∧
    t.cls.table = s.cls.table ∧ t.cls.homeQueue = s.cls.homeQueue)

/-- R150, R151, R165, R168: at its expiry pacing is READY, and a notice owed to an AWAKE host whose pin is released is
offered; when it is taken the due set empties and pacing starts again, and when it is refused pacing waits. Choices of
the model: log entry 1. -/
def Obligations.PacingExpiries : Prop :=
  ∀ s : State, .pacing ∈ s.due →
    let u : State := { dueTaken .pacing s with evt := { s.evt with pacing := .ready } }
    (s.evt.noticeDue = 0 ∨ s.evt.asleep = true ∨ s.evt.wakePin = true → exec .pacingExpiry s = .next u) ∧
    (s.evt.noticeDue ≠ 0 → s.evt.asleep = false → s.evt.wakePin = false → s.cls.mgmtQueue.length < 8 →
      ∃ t, exec .pacingExpiry s = .next t ∧
        t.evt = { u.evt with noticeDue := 0
                             pacing := if s.params.noticeInterval = 0 then .ready else .paced 0 false } ∧
        t.cls.mgmtQueue = s.cls.mgmtQueue ++
          [{ partReply := false
             bytes := managementFrame
               (if s.params.manager ≠ 0 then s.params.manager else s.agent.lastSource.getD 0xFFFFFFFFFFFF)
               s.params.station 32 0 0
               (KindSet.bytes (s.evt.pending &&& s.params.noticeMask) ++ u8 s.line.state.code ++ u8 s.supply.mode.code ++
                 u8 s.phone.ports.one.hookCode ++ u8 s.phone.ports.two.hookCode) }] ∧
        t.mon = s.mon ∧ t.line = s.line ∧ t.sch = s.sch ∧ t.agent = s.agent ∧ t.pending = s.pending) ∧
    (s.evt.noticeDue ≠ 0 → s.evt.asleep = false → s.evt.wakePin = false → 8 ≤ s.cls.mgmtQueue.length →
      exec .pacingExpiry s = .next { u with evt := { u.evt with pacing := .paced 0 true } })

/-! ## Requests -/

/-- R142, R144, R160, R162: the requests that only read are answered from the state as they find it. R107, R149, R155:
READ-LOG removes up to 8 records, the oldest, READ-EVENTS empties both digit queues, and CLEAR-EVENTS clears the flags
that it names, or is refused when its set names a kind outside 1..20; that such a bit is not ignored, as R167 has it in
general, is DEDUCED (log entry 9). That a run of no entries, or of more than
1510 bytes, is refused with BAD-LENGTH is by log entry 18. Choices of the model: log entries 1, 5, 9, 11, 12, 14, 18. -/
def Obligations.ReadingRequests : Prop :=
  (∀ (r : Request) (rest : List Request) (s : State), let u := executing rest s
     (Asked .readTable r rest s → r.HasBody 5 →
       let id := byteAt r.body 0
       let start := field16 r.body 1
       let count := field16 r.body 3
       (count = 0 → exec .readTable s = .next (replied r .badLength [] u)) ∧
       (0 < count → (id = 0 ∨ 8 < id) → exec .readTable s = .next (replied r .badTable [] u)) ∧
       (1 ≤ id → id ≤ 8 → 1510 < count * entrySize id → exec .readTable s = .next (replied r .badLength [] u)) ∧
       (0 < count → 1 ≤ id → id ≤ 8 → count * entrySize id ≤ 1510 → tableSize u id < start + count →
         exec .readTable s = .next (replied r .badIndex [] u)) ∧
       (0 < count → 1 ≤ id → id ≤ 8 → count * entrySize id ≤ 1510 → start + count ≤ tableSize u id →
         exec .readTable s = .next (replied r .ok
           (r.body ++ (List.range count).flatMap fun k => tableEntry u id (start + k)) u))) ∧
     (Asked .readStatus r rest s → r.HasBody 0 → exec .readStatus s = .next (replied r .ok (statusBody u) u)) ∧
     (Asked .readCounters r rest s → r.HasBody 1 →
       (∀ g, counterGroup u.mon (byteAt r.body 0) = some g →
         exec .readCounters s = .next (replied r .ok (countersBody (byteAt r.body 0) g) u)) ∧
       (3 < byteAt r.body 0 → exec .readCounters s = .next (replied r .badValue [] u))) ∧
     (Asked .readHistory r rest s → r.HasBody 1 →
       (byteAt r.body 0 ≤ 16 →
         exec .readHistory s = .next (replied r .ok (historyBody u.mon (byteAt r.body 0)) u)) ∧
       (16 < byteAt r.body 0 → exec .readHistory s = .next (replied r .badValue [] u)))) ∧
  (∀ (r : Request) (rest : List Request) (s : State), let u := executing rest s
     (Asked .readLog r rest s → r.HasBody 0 →
       exec .readLog s = .next (replied r .ok
         (u32 u.evt.overwritten ++ u8 (u.evt.log.take 8).length ++ (u.evt.log.take 8).flatMap logRecordBytes)
         { u with evt := { u.evt with log := u.evt.log.drop 8, overwritten := 0 } })) ∧
     (Asked .readEvents r rest s → r.HasBody 0 →
       exec .readEvents s = .next (replied r .ok
         (KindSet.bytes u.evt.pending ++ KindSet.bytes u.params.noticeMask ++ KindSet.bytes u.params.wakeMask ++
           KindSet.bytes u.params.farMask ++
           (u8 (u.port .p1).digits.length ++ (u.port .p1).digits.flatMap u8) ++
           (u8 (u.port .p2).digits.length ++ (u.port .p2).digits.flatMap u8))
         { u with phone := { u.phone with ports := ⟨{ u.port .p1 with digits := [] }, { u.port .p2 with digits := [] }⟩ } })) ∧
     (Asked .clearEvents r rest s → r.HasBody 4 →
       (0x100000 ≤ field r.body 0 4 → exec .clearEvents s = .next (replied r .badValue [] u)) ∧
       (field r.body 0 4 < 0x100000 → ∃ v, exec .clearEvents s = .next (replied r .ok [] v) ∧
         v = { u with evt := { u.evt with pending := v.evt.pending, noticeDue := v.evt.noticeDue } } ∧
         ∀ k : Kind, v.evt.pending.has k = (u.evt.pending.has k && !(field r.body 0 4).testBit (k.num - 1)) ∧
           v.evt.noticeDue.has k = (u.evt.noticeDue.has k && !(field r.body 0 4).testBit (k.num - 1)))))

/-- R24, R76, R108, R159, R161, R163: a write is checked and then made whole at its table, and the cursor is left behind
its last entry: WRITE-TABLE names the table and start, WRITE-ON takes the cursor's. A write refused for its length, or for
want of a cursor, changes nothing at all; one refused by a check of its table changes no table. R37, R65, R66, R68, R88,
R90, R113, R150, R152: what a write of parameters tells the blocks. Choices of the model: log entries 1, 5, 13, 15, 18,
24. -/
def Obligations.TableWrites : Prop :=
  (∀ (r : Request) (rest : List Request) (s : State), let u := executing rest s
    (Asked .writeTable r rest s → let id := byteAt r.body 0
      (r.rest.length < r.bodyLen ∨ r.bodyLen < 5 → exec .writeTable s = .next (replied r .badLength [] u)) ∧
      (r.bodyLen ≤ r.rest.length → 5 ≤ r.bodyLen → id = 0 ∨ 8 < id → exec .writeTable s = .next
        (replied r .badTable [] { u with agent := { u.agent with cursor := none } })) ∧
      (r.bodyLen ≤ r.rest.length → 5 ≤ r.bodyLen → 1 ≤ id → id ≤ 8 →
        r.bodyLen ≠ 5 + field16 r.body 3 * entrySize id ∨ 1510 < field16 r.body 3 * entrySize id →
        exec .writeTable s = .next (replied r .badLength [] u))) ∧
    (Asked .writeOn r rest s →
      (u.agent.cursor = none → exec .writeOn s = .next (replied r .badIndex [] u)) ∧
      (∀ x, u.agent.cursor = some x →
        r.rest.length < r.bodyLen ∨ r.bodyLen < 2 ∨ r.bodyLen ≠ 2 + field16 r.body 0 * entrySize x.table ∨
          1510 < field16 r.body 0 * entrySize x.table →
        exec .writeOn s = .next (replied r .badLength [] u)))) ∧
  (∀ (c : Instr) (row : RequestRow) (r : Request) (rest : List Request) (id start count : Nat) (data : Bytes) (s : State),
    let u := executing rest s
    Asked row r rest s → r.bodyLen ≤ r.rest.length →
    ((c = .writeTable ∧ row = .writeTable ∧ id = byteAt r.body 0 ∧ start = field16 r.body 1 ∧
        count = field16 r.body 3 ∧ 5 ≤ r.bodyLen ∧ r.bodyLen = 5 + count * entrySize id ∧ data = r.body.drop 5) ∨
      (c = .writeOn ∧ row = .writeOn ∧ u.agent.cursor = some { table := id, index := start } ∧
        count = field16 r.body 0 ∧ 2 ≤ r.bodyLen ∧ r.bodyLen = 2 + count * entrySize id ∧ data = r.body.drop 2)) →
    count * entrySize id ≤ 1510 → 1 ≤ id → id ≤ 8 →
    let entries := cutEntries (entrySize id) count data
    let refused : Status → Prop := fun st =>
      exec c s = .next (replied r st [] { u with agent := { u.agent with cursor := none } })
    let stored : Bytes → State → Prop := fun body v =>
      exec c s = .next (replied r .ok body
        { v with agent := { v.agent with cursor := some { table := id, index := start + count } } })
    let inUse : Prop := ∃ p x, (u.port p).ring = some x ∧ start ≤ x.entry ∧ x.entry < start + count
    let allowedCadence : List Segment → Prop := fun e =>
      (∀ g ∈ e, g.on ≤ 400 ∧ g.off ≤ 400) ∧ ∀ g ∈ e.drop (segments e).length, g = ⟨0, 0⟩
    (id = 3 ∨ id = 4 ∨ id = 7 → refused .refused) ∧
    (id = 1 ∨ id = 2 ∨ id = 5 ∨ id = 6 ∨ id = 8 → tableSize u id < start + count → refused .badIndex) ∧
    (id = 2 → start + count ≤ u.load.thresh.length → u.line.state = .run → u.params.reloadEnable = 1 → refused .busy) ∧
    (id = 2 → start + count ≤ u.load.thresh.length → (u.line.state ≠ .run ∨ u.params.reloadEnable ≠ 1) →
      let table := u.load.thresh.take start ++ entries.map (fun b => field16 b 0) ++ u.load.thresh.drop (start + count)
      let allowed : Prop := table.getD 0 0 = 0 ∧ (∀ x ∈ table, x ≤ 172) ∧ table.Pairwise (· < ·)
      (allowed → stored [] { u with load := { u.load with thresh := table } }) ∧ (¬ allowed → refused .badValue)) ∧
    (∀ es, id = 1 → start + count ≤ u.cls.table.length → readAll readClassEntry entries = some es →
      stored [] { u with cls := { u.cls with
        table := u.cls.table.take start ++ es ++ u.cls.table.drop (start + count) } }) ∧
    (id = 1 → start + count ≤ u.cls.table.length → readAll readClassEntry entries = none → refused .badValue) ∧
    (id = 5 → start + count ≤ u.phone.cadence.length → inUse → refused .busy) ∧
    (id = 5 → start + count ≤ u.phone.cadence.length → ¬ inUse →
      ((∀ b ∈ entries, allowedCadence (readCadence b)) →
        stored [] { u with phone := { u.phone with
          cadence := u.phone.cadence.take start ++ entries.map readCadence ++ u.phone.cadence.drop (start + count) } }) ∧
      (¬ (∀ b ∈ entries, allowedCadence (readCadence b)) → refused .badValue)) ∧
    (id = 6 → start + count ≤ 44 →
      let v := writeParams start count entries u
      stored (tableRun v 6 start count) v ∧ v.params = storeParams u.params start entries) ∧
    (∀ ws, id = 8 → start + count ≤ 4 → readAll readWatch entries = some ws → ∃ v, stored [] v ∧
      [v.mon.watches.i0, v.mon.watches.i1, v.mon.watches.i2, v.mon.watches.i3] =
        [u.mon.watches.i0, u.mon.watches.i1, u.mon.watches.i2, u.mon.watches.i3].take start ++ ws ++
          [u.mon.watches.i0, u.mon.watches.i1, u.mon.watches.i2, u.mon.watches.i3].drop (start + count) ∧
      v = { u with mon := { u.mon with watches := v.mon.watches } }) ∧
    (id = 8 → start + count ≤ 4 → readAll readWatch entries = none → refused .badValue)) ∧
  (∀ (start count : Nat) (entries : List Bytes) (s : State),
    let p := storeParams s.params start entries
    let w : State := { s with agent := { s.agent with params := p } }
    let v := writeParams start count entries s
    let wrote : Nat → Prop := fun i => start ≤ i ∧ i < start + count
    let mode := s.supply.mode.code
    (v.agent = w.agent ∧ v.supply = s.supply ∧ v.line = s.line ∧ v.track = s.track ∧ v.time = s.time ∧
      v.pending = s.pending ∧ v.cls.table = s.cls.table ∧ v.cls.homeQueue = s.cls.homeQueue) ∧
    (wrote 9 ∨ wrote (11 + mode) → v.rate = rateRecord w) ∧
    (¬ wrote 9 → ¬ wrote (11 + mode) → ¬ wrote 10 → v.rate = s.rate) ∧
    (¬ wrote 9 → ¬ wrote (11 + mode) → wrote 10 → v.rate = { s.rate with
      txAllowance := if s.line.state = .run then s.rate.effTx * p.voiceShare / 16 else 0
      rxAllowance := if s.line.state = .run then s.rate.capacity.rx * p.voiceShare / 16 else 0 }) ∧
    (wrote (17 + mode) → v.sch.shedLevel = p.shed.get s.supply.mode ∧
      ∀ i, shedAt (p.shed.get s.supply.mode) i = true → shedAt s.sch.shedLevel i = false →
        v.sch.queues.get i = [] ∧ v.sch.inProgress ≠ some i ∧ (∀ d : Drr, d.queue = i → v.sch.deficit.get d = 0)) ∧
    (¬ wrote (17 + mode) → v.sch.shedLevel = s.sch.shedLevel ∧ v.sch.deficit = s.sch.deficit) ∧
    (∀ i, ¬ (wrote (17 + mode) ∧ shedAt (p.shed.get s.supply.mode) i = true ∧ shedAt s.sch.shedLevel i = false) →
      (¬ wrote (24 + i.num) → v.sch.queues.get i = s.sch.queues.get i) ∧
      (wrote (24 + i.num) → ∃ n, v.sch.queues.get i = (s.sch.queues.get i).take n ∧
        n ≤ (s.sch.queues.get i).length ∧ occupancy ((s.sch.queues.get i).take n) ≤ p.qLimit.get i ∧
        (n < (s.sch.queues.get i).length → p.qLimit.get i < occupancy ((s.sch.queues.get i).take (n + 1))) ∧
        v.mon.traffic.sch.tailDropped.get i =
          satAdd (s.mon.traffic.sch.tailDropped.get i) ((s.sch.queues.get i).length - n) ∧
        (s.sch.inProgress = some i → (v.sch.inProgress = some i ↔ 0 < n ∨ s.sch.queues.get i = [])))) ∧
    (wrote (14 + mode) → v.load = (cutbackTest w).load ∧ v.out = (cutbackTest w).out ∧
      v.sch.mq = (cutbackTest w).sch.mq) ∧
    (¬ wrote (14 + mode) → v.load = s.load ∧ v.out = s.out ∧ v.sch.mq = s.sch.mq) ∧
    (wrote (20 + mode) →
      (p.port2Feed.get s.supply.mode = 1 → v.voice = s.voice ∧ v.phone = { s.phone with ports := ⟨s.port .p1,
        if (s.port .p2).state = .unfed then
          { s.port .p2 with state := .onHook, pulses := 0, accepted := false, stable := 0 }
        else s.port .p2⟩ }) ∧
      (p.port2Feed.get s.supply.mode ≠ 1 → (s.port .p2).state = .unfed → v.voice = s.voice ∧ v.phone = s.phone) ∧
      (p.port2Feed.get s.supply.mode ≠ 1 → (s.port .p2).state ≠ .unfed →
        v.phone = { s.phone with ports := ⟨s.port .p1,
          { s.port .p2 with state := .unfed, ring := none, pulses := 0, digits := [], stable := 0 }⟩ } ∧
        (v.record .p2).call = .free ∧
        (∀ n, (s.record .p2).call = .intercom n → (v.record .p1).call = .free) ∧
        ((∀ n, (s.record .p2).call ≠ .intercom n) → v.record .p1 = s.record .p1) ∧
        ((s.port .p2).state = .ringing → v.evt.pending.has .ringDone = true) ∧
        ((s.record .p2).call ≠ .free → v.evt.pending.has .channelClosed = true))) ∧
    (¬ wrote (20 + mode) → v.voice = s.voice ∧ v.phone = s.phone) ∧
    LogGains (if wrote (20 + mode) ∧ p.port2Feed.get s.supply.mode ≠ 1 then feedLossEvents s else []) s v ∧
    EdgesCounted s v ∧
    (wrote 37 → ∀ k : Kind, v.evt.noticeDue.has k = true → p.noticeMask.has k = true) ∧
    (wrote 38 → v.evt.asleep = true → v.evt.pending &&& p.wakeMask = 0) ∧
    (¬ wrote (20 + mode) → (∀ i x, (s.mon.watches.get i).source ≠ .edge x) → v.evt = { s.evt with
      noticeDue := if wrote 37 then s.evt.noticeDue &&& p.noticeMask else s.evt.noticeDue
      asleep := s.evt.asleep && !(decide (wrote 38) && decide (s.evt.pending &&& p.wakeMask ≠ 0))
      wakePin := s.evt.wakePin || (s.evt.asleep && decide (wrote 38) && decide (s.evt.pending &&& p.wakeMask ≠ 0)) }))

/-- R77, R152, R155, R164: HOST-SLEEP is refused with BUSY while a wake flag is pending, and otherwise puts the host
to sleep; SET-PARTITION moves both ends of the store together. Choices of the model: log entries 1, 5. -/
def Obligations.SleepAndPartition : Prop :=
  ∀ (r : Request) (rest : List Request) (s : State), let u := executing rest s
    (Asked .hostSleep r rest s → r.HasBody 0 →
      (u.evt.pending &&& u.params.wakeMask ≠ 0 → exec .hostSleep s = .next (replied r .busy [] u)) ∧
      (u.evt.pending &&& u.params.wakeMask = 0 →
        exec .hostSleep s = .next (replied r .ok [] { u with evt := { u.evt with asleep := true } }))) ∧
    (Asked .setPartition r rest s → r.HasBody 1 → let n := byteAt r.body 0
      (8 < n → exec .setPartition s = .next (replied r .badValue [] u)) ∧
      (n = u.agent.partition → n ≤ 8 → exec .setPartition s = .next (replied r .ok [] u)) ∧
      (n ≠ u.agent.partition → n ≤ 8 → ∃ v, exec .setPartition s = .next (replied r .ok [] v) ∧
        v.agent = { u.agent with partition := n, cursor := v.agent.cursor } ∧
        v.agent.cursor = (match u.agent.cursor with
          | none => none
          | some x => if x.table = 1 then none else some x) ∧
        (u.cls.table.length ≤ 32 + 8 * n →
          v.cls.table = u.cls.table ++ List.replicate (32 + 8 * n - u.cls.table.length) ClassEntry.empty) ∧
        (32 + 8 * n ≤ u.cls.table.length → v.cls.table = u.cls.table.take (32 + 8 * n)) ∧
        v.evt = { u.evt with
          log := u.evt.log.drop (u.evt.log.length - (192 - 16 * n))
          overwritten := satAdd u.evt.overwritten (u.evt.log.length - (192 - 16 * n)) } ∧
        v = { u with cls := { u.cls with table := v.cls.table }, evt := v.evt, agent := v.agent }))

/-- R160, R169: a request of a wrong version or of a kind outside 1..18 is refused with BAD-KIND, and one whose body
does not have its kind's length with BAD-LENGTH; a refused request changes nothing and its reply is empty. Choices of
the model: log entries 1, 4, 5. -/
def Obligations.RefusalsChangeNothing : Prop :=
  (∀ r : Request, r.row = .badKind ↔ r.version ≠ 1 ∨ r.kind.toNat = 0 ∨ 18 < r.kind.toNat) ∧
  (∀ (r : Request) (rest : List Request) (s : State), Asked .badKind r rest s →
    exec .badKindRequest s = .next (replied r .badKind [] (executing rest s))) ∧
  (∀ (c : Instr) (row : RequestRow) (n : Nat) (r : Request) (rest : List Request) (s : State),
    (c, row, n) ∈
      [(Instr.readTable, RequestRow.readTable, 5), (.readStatus, .readStatus, 0), (.readCounters, .readCounters, 1),
       (.readHistory, .readHistory, 1), (.readLog, .readLog, 0), (.readEvents, .readEvents, 0),
       (.clearEvents, .clearEvents, 4), (.start, .start, 1), (.stop, .stop, 1), (.retrain, .retrain, 1),
       (.channelOpenLine, .channelOpenLine, 7), (.channelOpenIntercom, .channelOpenIntercom, 7),
       (.channelClose, .channelClose, 1), (.ring, .ring, 3), (.ringStop, .ringStop, 1), (.portControl, .portControl, 3),
       (.hostSleep, .hostSleep, 0), (.setPartition, .setPartition, 1), (.resetPart, .resetPart, 1),
       (.resetLine, .resetLine, 1), (.resetTraffic, .resetTraffic, 1), (.resetVoice, .resetVoice, 1),
       (.resetMonitor, .resetMonitor, 1)] →
    Asked row r rest s → ¬ r.HasBody n → exec c s = .next (replied r .badLength [] (executing rest s))) ∧
  (∀ (c : Instr) (row : RequestRow) (n : Nat) (r : Request) (rest : List Request) (s : State),
    (c, row, n) ∈
      [(Instr.ring, RequestRow.ring, 3), (.ringStop, .ringStop, 1), (.portControl, .portControl, 3),
       (.channelClose, .channelClose, 1)] →
    Asked row r rest s → r.HasBody n → byteAt r.body 0 = 0 ∨ 2 < byteAt r.body 0 →
    exec c s = .next (replied r .badValue [] (executing rest s))) ∧
  (∀ (r : Request) (rest : List Request) (s : State), Asked .channelOpenLine r rest s → r.HasBody 7 →
    byteAt r.body 0 ≠ 1 ∨ byteAt r.body 1 = 0 ∨ 2 < byteAt r.body 1 →
    exec .channelOpenLine s = .next (replied r .badValue [] (executing rest s))) ∧
  (∀ (r : Request) (rest : List Request) (s : State), Asked .start r rest s → r.HasBody 1 → byteAt r.body 0 ≠ 1 →
    exec .start s = .next (replied r .badValue [] (executing rest s)))

/-! ## Resets -/

/-- R21, R43, R59, R60, R74, R82, R99, R116, R130, R138, R158, R166: the four block scopes: what each returns to its
start, and that it touches nothing else; the cursor becomes invalid. R136, R137: a PART reset is answered before it
acts, and then returns every block to its power-on state but for the pins, the mode and the time base, and sends HALT.
That VOICE and PART keep the hook latch and the previous sample is DEDUCED (log entry 16). Choices of the model: log entries
1, 4, 5, 16. -/
def Obligations.Resets : Prop :=
  let starting : State → PortId → PortState → PhonePort := fun u p state =>
    { rawOff := (u.port p).rawOff, accepted := false, stable := 0, state := state, pulses := 0, interdigitMs := 0
      breakMs := 0, digits := [], ring := none, muteToLine := false, muteToPhone := false
      lastSample := (u.port p).lastSample }
  (∀ (r : Request) (rest : List Request) (s : State), r.HasBody 1 →
     let u : State := { executing rest s with agent := { (executing rest s).agent with cursor := none } }
     (Asked .resetLine r rest s → ∃ v, exec .resetLine s = .next (replied r .ok [] v) ∧
       v = { u with line := LinePort.reset, load := { Loading.reset with thresh := u.load.thresh }
                    track := Tracker.reset, rate := RateRecord.reset
                    sch := { u.sch with queues := v.sch.queues, inProgress := none, vq := [], mq := [], slot := none }
                    out := { u.out with commands := u.out.commands ++ [.halt] } } ∧
       (∀ i, u.sch.inProgress ≠ some i → v.sch.queues.get i = u.sch.queues.get i) ∧
       (∀ i, u.sch.inProgress = some i → u.sch.queues.get i = [] → v.sch.queues.get i = []) ∧
       (∀ i f rest, u.sch.inProgress = some i → u.sch.queues.get i = f :: rest →
         v.sch.queues.get i = { f with sent := 0 } :: rest)) ∧
     (Asked .resetTraffic r rest s → ∃ v, exec .resetTraffic s = .next (replied r .ok [] v) ∧
       v = { u with
         sch := { queues := ⟨[], [], [], []⟩, inProgress := none, vq := [], mq := [], slot := none, deficit := ⟨0, 0, 0⟩,
                  turn := .q1, mark := false, credit := 0, shedLevel := u.sch.shedLevel }
         cls := { u.cls with homeQueue := [], sending := v.cls.sending } } ∧
       (∀ f, u.cls.sending = some (.home f) → v.cls.sending = some (.homeEmptied f)) ∧
       (∀ f, u.cls.sending = some (.mgmt f) → v.cls.sending = some (.mgmt f))) ∧
     (Asked .resetVoice r rest s → ∃ v, exec .resetVoice s = .next (replied r .ok [] v) ∧
       v = { u with phone := { u.phone with ports := v.phone.ports }
                    voice := ⟨ChannelRecord.reset, ChannelRecord.reset⟩, sch := { u.sch with vq := [] } } ∧
       (∀ p, v.port p = starting u p (v.port p).state) ∧
       (v.port .p1).state = .onHook ∧
       (v.port .p2).state = (if u.params.port2Feed.get u.supply.mode = 1 then .onHook else .unfed)) ∧
     (Asked .resetMonitor r rest s → ∃ v, exec .resetMonitor s = .next (replied r .ok [] v) ∧
       v = { u with mon := { Monitor.reset with watches := v.mon.watches }
                    evt := { EventUnit.reset with asleep := u.evt.asleep, wakePin := u.evt.wakePin }
                    cls := { u.cls with table := u.cls.table.map fun e => { e with hits := 0 } }
                    voice := ⟨{ u.voice.one with counts := CallCounts.zero }, { u.voice.two with counts := CallCounts.zero }⟩
           } ∧
       ∀ i, v.mon.watches.get i = { u.mon.watches.get i with count := 0 })) ∧
  ((∀ (r : Request) (rest : List Request) (s : State), Asked .resetPart r rest s → r.HasBody 1 →
     let u := executing rest s
     (byteAt r.body 0 = 1 → exec .resetPart s =
       .next (replied r .ok [] { u with agent := { u.agent with partWait := true, cursor := none } })) ∧
     (byteAt r.body 0 ≠ 1 → exec .resetPart s = .next (replied r .badValue [] u))) ∧
   (∀ s : State, .partReset ∈ s.due → ∃ t, exec .partReset s = .next t ∧
     t = { State.reset with
       pending := s.pending, time := s.time, supply := s.supply, phone := t.phone
       sch := Scheduler.reset (Params.reset.shed.get s.supply.mode)
       out := { s.out with commands := s.out.commands ++ [.halt] } } ∧
     t.phone.cadence = cadenceDefault ∧
     (∀ p, t.port p = starting s p (t.port p).state) ∧
     (t.port .p1).state = .onHook ∧
     (t.port .p2).state = (if s.supply.mode = .reserve then .unfed else .onHook)))

/-! ## The tracker's bursts, and the own offer -/

/-- R4, R44 to R48: a report's bursts are taken in ascending order of offset; one that touches the newest record is merged
into it, and any other is a new record, which makes the lock test in SEARCH and is a hit or a stray in LOCKED; then the
miss test is made. CADENCE-LOCK and CADENCE-LOST carry the period, and the watches on CADENCE-LOCKED count a lock. Choices
of the model: log entry 1. -/
def Obligations.TrackerFollowsTheBursts : Prop :=
  (∀ (h : List Burst) (r b : Burst) (s : State), s.track.history = h ++ [r] → r.length ≤ 16 →
     (b.start - r.start).toNat ≤ r.length →
     takeBurst s b = { s with track := { s.track with history :=
       h ++ [{ r with length := min 16 (max r.length ((b.start - r.start).toNat + b.length)) }] } }) ∧
  (∀ (b : Burst) (s : State),
     (∀ h r, s.track.history = h ++ [r] → r.length ≤ 16 ∧ r.length < (b.start - r.start).toNat) →
     let ring := (if s.track.history.length < 8 then s.track.history else s.track.history.drop 1) ++ [b]
     let v : State := { s with
       track := { s.track with history := ring }
       mon := { s.mon with line := { s.mon.line with bursts := satInc s.mon.line.bursts } } }
     (s.track.lock = none → ring.length < 5 → takeBurst s b = v) ∧
     (∀ old e₁ e₂ e₃ e₄ e₅, s.track.lock = none → ring = old ++ [e₁, e₂, e₃, e₄, e₅] →
       let gaps := [(e₂.start - e₁.start).toNat, (e₃.start - e₂.start).toNat, (e₄.start - e₃.start).toNat,
         (e₅.start - e₄.start).toNat]
       let mean := gaps.sum / 4
       let beat : Prop := ∀ x ∈ gaps, 400 ≤ x ∧ x ≤ 16000 ∧ x ≤ mean + s.params.cadenceTol ∧ mean ≤ x + s.params.cadenceTol
       let found : Lock := { period := mean, predicted := b.start + BitVec.ofNat 32 mean, misses := 0 }
       (¬ beat → takeBurst s b = v) ∧
       (beat → EdgesCounted s (takeBurst s b) ∧ Raised [⟨.cadenceLock, none, some mean⟩]
         { v with
           track := { v.track with lock := some found }
           mon := { v.mon with line := { v.mon.line with locks := satInc s.mon.line.locks } } } (takeBurst s b))) ∧
     (∀ k, s.track.lock = some k → s.params.cadenceTol ≤ 16 →
       let early := k.predicted - BitVec.ofNat 32 s.params.cadenceTol
       let hit : Lock := { k with predicted := b.start + BitVec.ofNat 32 k.period, misses := 0 }
       ((b.start - early).toNat ≤ 2 * s.params.cadenceTol →
         takeBurst s b = { v with track := { v.track with lock := some hit } }) ∧
       (2 * s.params.cadenceTol < (b.start - early).toNat → takeBurst s b = { v with
         mon := { v.mon with line := { v.mon.line with strays := satInc s.mon.line.strays } } }))) ∧
  (∀ (c : Word32) (s : State),
     (s.track.lock = none → missTest c s = s) ∧
     (∀ k, s.track.lock = some k →
       let missed := before (k.predicted + BitVec.ofNat 32 s.params.cadenceTol) (c + 100)
       let v : State := { s with mon := { s.mon with line := { s.mon.line with misses := satInc s.mon.line.misses } } }
       let next : Lock := { k with predicted := k.predicted + BitVec.ofNat 32 k.period, misses := k.misses + 1 }
       (missed = false → missTest c s = s) ∧
       (missed = true → k.misses < 2 → missTest c s = { v with track := { s.track with lock := some next } }) ∧
       (missed = true → 2 ≤ k.misses →
         Raised [⟨.cadenceLost, none, some k.period⟩] { v with track := { s.track with history := [], lock := none } }
           (missTest c s)))) ∧
  (∀ (r : FrameReport) (s : State), let u := settle s
     let c := u.line.symbolCount + 100
     ∃ taken : List ReportedBurst,
       taken.Perm (r.bursts.filter fun b => decide (b.offset ≤ 99 ∧ 1 ≤ b.length ∧ b.length ≤ 16)) ∧
       taken.Pairwise (fun a b => a.offset ≤ b.offset) ∧
       let tracked : State → State := fun v =>
         missTest c ((taken.map fun b => { start := c + BitVec.ofNat 32 b.offset, length := b.length }).foldl takeBurst v)
       (u.line.state = .training → exec (.frameReport r) s = .next (tracked
         { u with line := { u.line with symbolCount := c, superframe := r.superframe } })) ∧
       (u.line.state = .run → ∃ t, exec (.frameReport r) s = .next t ∧
         t = { (tracked { u with
           line := { u.line with symbolCount := c, superframe := r.superframe, silence := some 0 }
           mon := { u.mon with damage := min 65535 (u.mon.damage + r.damaged.toNat) } }) with due := t.due }))

/-- R26 to R30: the raise count and the holdoff at a MARGIN-REPORT in RUN; the changes of the own offer that the report
calls for, the protection setting that it carries, and what sending it does. Choices of the model: log entry 1. -/
def Obligations.OwnOfferIsBuiltAndSent : Prop :=
  ∀ (ratios : List Byte) (s : State), let u := settle s
    u.line.state = .run →
    ∃ t gs, exec (.marginReport ratios) s = .next t ∧ t.load.report = some gs ∧
      let healthy : Bool := gs.all (fun x => !x.cls.weak) && decide (4 ≤ (gs.filter fun x => x.cls.strong).length)
      let raised : Nat := if healthy then min (u.load.raiseCount + 1) 255 else 0
      let inForce := u.load.prot.rx.setting
      let unsent : Nat → Prop := fun holdoff =>
        t.load = { u.load with report := some gs, raiseCount := raised, holdoff := holdoff } ∧ t.out = u.out ∧ t.sch = u.sch
      (0 < u.load.holdoff → unsent (u.load.holdoff - 1)) ∧
      (u.load.holdoff = 0 → u.params.reloadEnable ≠ 1 ∨ u.load.own ≠ .none → unsent 0) ∧
      (u.load.holdoff = 0 → u.params.reloadEnable = 1 → u.load.own = .none →
        ∃ weak strong : List Nat,
          (∀ g, g ∈ weak ↔ ∃ x, gs[g]? = some x ∧ x.cls.weak = true) ∧
          (∀ g, g ∈ strong ↔ ∃ x, gs[g]? = some x ∧ x.cls.strong = true) ∧
          weak.Pairwise (fun a b => ∃ x y, gs[a]? = some x ∧ gs[b]? = some y ∧
            (x.margin < y.margin ∨ (x.margin = y.margin ∧ a < b))) ∧
          strong.Pairwise (fun a b => ∃ x y m n, gs[a]? = some x ∧ gs[b]? = some y ∧ x.headroom = some m ∧
            y.headroom = some n ∧ (n < m ∨ (m = n ∧ a < b))) ∧
          let load : Nat → Nat := fun g => u.load.rxLoads.getD g 0
          let pairs := (weak.zip strong).take 4
          let changes : List (Nat × Nat) :=
            if weak ≠ [] then
              pairs.flatMap (fun x => [(x.1, load x.1 - 1), (x.2, load x.2 + 1)]) ++
                ((weak.drop pairs.length).take (8 - 2 * pairs.length)).map (fun g => (g, load g - 1))
            else if 30 ≤ raised then (strong.take 8).map (fun g => (g, load g + 1))
            else []
          (changes = [] → t.track.decision = some inForce → unsent 0) ∧
          (changes ≠ [] ∨ t.track.decision ≠ some inForce →
            let number := u.load.offerNumber + 1
            let switch : Superframe := u.line.superframe + 8
            let sym := u.line.symbolCount + 800
            let table := changes.foldl (fun l c => l.set c.1 c.2) u.load.rxLoads
            ∃ (newProt : Option Protection) (carried : Protection),
              (t.track.decision = some inForce → newProt = none) ∧
              (∀ x, t.track.decision = some x → x ≠ inForce → ∃ p, newProt = some p ∧ p.setting = x) ∧
              (∀ p g k, newProt = some p → p.guard = some g → u.track.lock = some k → k.period < 2 ^ 32 →
                (g.anchor - sym).toNat < g.period ∧
                (g.period : Int) ∣ (k.predicted - BitVec.ofNat 32 u.params.guardMargin - sym).toInt - (g.anchor - sym).toNat) ∧
              CarriedOver .receive sym u carried ∧
              t.load = { u.load with
                report := some gs, raiseCount := 0, offerNumber := number, lastOffer := some number
                own := .outstanding { number := number, switch := switch, table := table, newProt := newProt } } ∧
              t.out = { u.out with commands := u.out.commands ++
                [tableSetOf .receive table (newProt.getD carried) switch sym true] } ∧
              (u.sch.mq.length < 8 → t.sch = { u.sch with mq := u.sch.mq ++ [mkMessage .loadOffer 0 (offerBodyBytes
                { number := number, switch := switch, changes := changes
                  prot := newProt.map fun p =>
                    { level := p.level.code
                      guard := p.guard.map fun g =>
                        let n := (g.anchor - sym).toNat
                        { period := g.period, width := g.width, anchorSuperframe := (switch + BitVec.ofNat 8 (n / 100)).toNat
                          anchorOffset := n % 100 } } })] })))
end

