-- ==== Sys2Proof/Laws/State.lean ====
section
/-! SUPPORT. What each update of one block leaves in each field of the state: one lemma per field per update. -/

namespace Sys2Proof.Machine

variable (s : State)

@[simp] theorem State.setDue_pending (v) : (s.setDue v).pending = s.pending := rfl
@[simp] theorem State.setDue_due (v) : (s.setDue v).due = v := rfl
@[simp] theorem State.setDue_time (v) : (s.setDue v).time = s.time := rfl
@[simp] theorem State.setDue_line (v) : (s.setDue v).line = s.line := rfl
@[simp] theorem State.setDue_load (v) : (s.setDue v).load = s.load := rfl
@[simp] theorem State.setDue_track (v) : (s.setDue v).track = s.track := rfl
@[simp] theorem State.setDue_rate (v) : (s.setDue v).rate = s.rate := rfl
@[simp] theorem State.setDue_cls (v) : (s.setDue v).cls = s.cls := rfl
@[simp] theorem State.setDue_sch (v) : (s.setDue v).sch = s.sch := rfl
@[simp] theorem State.setDue_phone (v) : (s.setDue v).phone = s.phone := rfl
@[simp] theorem State.setDue_voice (v) : (s.setDue v).voice = s.voice := rfl
@[simp] theorem State.setDue_supply (v) : (s.setDue v).supply = s.supply := rfl
@[simp] theorem State.setDue_mon (v) : (s.setDue v).mon = s.mon := rfl
@[simp] theorem State.setDue_evt (v) : (s.setDue v).evt = s.evt := rfl
@[simp] theorem State.setDue_agent (v) : (s.setDue v).agent = s.agent := rfl
@[simp] theorem State.setDue_out (v) : (s.setDue v).out = s.out := rfl

@[simp] theorem State.setTime_pending (v) : (s.setTime v).pending = s.pending := rfl
@[simp] theorem State.setTime_due (v) : (s.setTime v).due = s.due := rfl
@[simp] theorem State.setTime_time (v) : (s.setTime v).time = v := rfl
@[simp] theorem State.setTime_line (v) : (s.setTime v).line = s.line := rfl
@[simp] theorem State.setTime_load (v) : (s.setTime v).load = s.load := rfl
@[simp] theorem State.setTime_track (v) : (s.setTime v).track = s.track := rfl
@[simp] theorem State.setTime_rate (v) : (s.setTime v).rate = s.rate := rfl
@[simp] theorem State.setTime_cls (v) : (s.setTime v).cls = s.cls := rfl
@[simp] theorem State.setTime_sch (v) : (s.setTime v).sch = s.sch := rfl
@[simp] theorem State.setTime_phone (v) : (s.setTime v).phone = s.phone := rfl
@[simp] theorem State.setTime_voice (v) : (s.setTime v).voice = s.voice := rfl
@[simp] theorem State.setTime_supply (v) : (s.setTime v).supply = s.supply := rfl
@[simp] theorem State.setTime_mon (v) : (s.setTime v).mon = s.mon := rfl
@[simp] theorem State.setTime_evt (v) : (s.setTime v).evt = s.evt := rfl
@[simp] theorem State.setTime_agent (v) : (s.setTime v).agent = s.agent := rfl
@[simp] theorem State.setTime_out (v) : (s.setTime v).out = s.out := rfl

@[simp] theorem State.setLine_pending (v) : (s.setLine v).pending = s.pending := rfl
@[simp] theorem State.setLine_due (v) : (s.setLine v).due = s.due := rfl
@[simp] theorem State.setLine_time (v) : (s.setLine v).time = s.time := rfl
@[simp] theorem State.setLine_line (v) : (s.setLine v).line = v := rfl
@[simp] theorem State.setLine_load (v) : (s.setLine v).load = s.load := rfl
@[simp] theorem State.setLine_track (v) : (s.setLine v).track = s.track := rfl
@[simp] theorem State.setLine_rate (v) : (s.setLine v).rate = s.rate := rfl
@[simp] theorem State.setLine_cls (v) : (s.setLine v).cls = s.cls := rfl
@[simp] theorem State.setLine_sch (v) : (s.setLine v).sch = s.sch := rfl
@[simp] theorem State.setLine_phone (v) : (s.setLine v).phone = s.phone := rfl
@[simp] theorem State.setLine_voice (v) : (s.setLine v).voice = s.voice := rfl
@[simp] theorem State.setLine_supply (v) : (s.setLine v).supply = s.supply := rfl
@[simp] theorem State.setLine_mon (v) : (s.setLine v).mon = s.mon := rfl
@[simp] theorem State.setLine_evt (v) : (s.setLine v).evt = s.evt := rfl
@[simp] theorem State.setLine_agent (v) : (s.setLine v).agent = s.agent := rfl
@[simp] theorem State.setLine_out (v) : (s.setLine v).out = s.out := rfl

@[simp] theorem State.setLoad_pending (v) : (s.setLoad v).pending = s.pending := rfl
@[simp] theorem State.setLoad_due (v) : (s.setLoad v).due = s.due := rfl
@[simp] theorem State.setLoad_time (v) : (s.setLoad v).time = s.time := rfl
@[simp] theorem State.setLoad_line (v) : (s.setLoad v).line = s.line := rfl
@[simp] theorem State.setLoad_load (v) : (s.setLoad v).load = v := rfl
@[simp] theorem State.setLoad_track (v) : (s.setLoad v).track = s.track := rfl
@[simp] theorem State.setLoad_rate (v) : (s.setLoad v).rate = s.rate := rfl
@[simp] theorem State.setLoad_cls (v) : (s.setLoad v).cls = s.cls := rfl
@[simp] theorem State.setLoad_sch (v) : (s.setLoad v).sch = s.sch := rfl
@[simp] theorem State.setLoad_phone (v) : (s.setLoad v).phone = s.phone := rfl
@[simp] theorem State.setLoad_voice (v) : (s.setLoad v).voice = s.voice := rfl
@[simp] theorem State.setLoad_supply (v) : (s.setLoad v).supply = s.supply := rfl
@[simp] theorem State.setLoad_mon (v) : (s.setLoad v).mon = s.mon := rfl
@[simp] theorem State.setLoad_evt (v) : (s.setLoad v).evt = s.evt := rfl
@[simp] theorem State.setLoad_agent (v) : (s.setLoad v).agent = s.agent := rfl
@[simp] theorem State.setLoad_out (v) : (s.setLoad v).out = s.out := rfl

@[simp] theorem State.setTrack_pending (v) : (s.setTrack v).pending = s.pending := rfl
@[simp] theorem State.setTrack_due (v) : (s.setTrack v).due = s.due := rfl
@[simp] theorem State.setTrack_time (v) : (s.setTrack v).time = s.time := rfl
@[simp] theorem State.setTrack_line (v) : (s.setTrack v).line = s.line := rfl
@[simp] theorem State.setTrack_load (v) : (s.setTrack v).load = s.load := rfl
@[simp] theorem State.setTrack_track (v) : (s.setTrack v).track = v := rfl
@[simp] theorem State.setTrack_rate (v) : (s.setTrack v).rate = s.rate := rfl
@[simp] theorem State.setTrack_cls (v) : (s.setTrack v).cls = s.cls := rfl
@[simp] theorem State.setTrack_sch (v) : (s.setTrack v).sch = s.sch := rfl
@[simp] theorem State.setTrack_phone (v) : (s.setTrack v).phone = s.phone := rfl
@[simp] theorem State.setTrack_voice (v) : (s.setTrack v).voice = s.voice := rfl
@[simp] theorem State.setTrack_supply (v) : (s.setTrack v).supply = s.supply := rfl
@[simp] theorem State.setTrack_mon (v) : (s.setTrack v).mon = s.mon := rfl
@[simp] theorem State.setTrack_evt (v) : (s.setTrack v).evt = s.evt := rfl
@[simp] theorem State.setTrack_agent (v) : (s.setTrack v).agent = s.agent := rfl
@[simp] theorem State.setTrack_out (v) : (s.setTrack v).out = s.out := rfl

@[simp] theorem State.setRate_pending (v) : (s.setRate v).pending = s.pending := rfl
@[simp] theorem State.setRate_due (v) : (s.setRate v).due = s.due := rfl
@[simp] theorem State.setRate_time (v) : (s.setRate v).time = s.time := rfl
@[simp] theorem State.setRate_line (v) : (s.setRate v).line = s.line := rfl
@[simp] theorem State.setRate_load (v) : (s.setRate v).load = s.load := rfl
@[simp] theorem State.setRate_track (v) : (s.setRate v).track = s.track := rfl
@[simp] theorem State.setRate_rate (v) : (s.setRate v).rate = v := rfl
@[simp] theorem State.setRate_cls (v) : (s.setRate v).cls = s.cls := rfl
@[simp] theorem State.setRate_sch (v) : (s.setRate v).sch = s.sch := rfl
@[simp] theorem State.setRate_phone (v) : (s.setRate v).phone = s.phone := rfl
@[simp] theorem State.setRate_voice (v) : (s.setRate v).voice = s.voice := rfl
@[simp] theorem State.setRate_supply (v) : (s.setRate v).supply = s.supply := rfl
@[simp] theorem State.setRate_mon (v) : (s.setRate v).mon = s.mon := rfl
@[simp] theorem State.setRate_evt (v) : (s.setRate v).evt = s.evt := rfl
@[simp] theorem State.setRate_agent (v) : (s.setRate v).agent = s.agent := rfl
@[simp] theorem State.setRate_out (v) : (s.setRate v).out = s.out := rfl

@[simp] theorem State.setCls_pending (v) : (s.setCls v).pending = s.pending := rfl
@[simp] theorem State.setCls_due (v) : (s.setCls v).due = s.due := rfl
@[simp] theorem State.setCls_time (v) : (s.setCls v).time = s.time := rfl
@[simp] theorem State.setCls_line (v) : (s.setCls v).line = s.line := rfl
@[simp] theorem State.setCls_load (v) : (s.setCls v).load = s.load := rfl
@[simp] theorem State.setCls_track (v) : (s.setCls v).track = s.track := rfl
@[simp] theorem State.setCls_rate (v) : (s.setCls v).rate = s.rate := rfl
@[simp] theorem State.setCls_cls (v) : (s.setCls v).cls = v := rfl
@[simp] theorem State.setCls_sch (v) : (s.setCls v).sch = s.sch := rfl
@[simp] theorem State.setCls_phone (v) : (s.setCls v).phone = s.phone := rfl
@[simp] theorem State.setCls_voice (v) : (s.setCls v).voice = s.voice := rfl
@[simp] theorem State.setCls_supply (v) : (s.setCls v).supply = s.supply := rfl
@[simp] theorem State.setCls_mon (v) : (s.setCls v).mon = s.mon := rfl
@[simp] theorem State.setCls_evt (v) : (s.setCls v).evt = s.evt := rfl
@[simp] theorem State.setCls_agent (v) : (s.setCls v).agent = s.agent := rfl
@[simp] theorem State.setCls_out (v) : (s.setCls v).out = s.out := rfl

@[simp] theorem State.setSch_pending (v) : (s.setSch v).pending = s.pending := rfl
@[simp] theorem State.setSch_due (v) : (s.setSch v).due = s.due := rfl
@[simp] theorem State.setSch_time (v) : (s.setSch v).time = s.time := rfl
@[simp] theorem State.setSch_line (v) : (s.setSch v).line = s.line := rfl
@[simp] theorem State.setSch_load (v) : (s.setSch v).load = s.load := rfl
@[simp] theorem State.setSch_track (v) : (s.setSch v).track = s.track := rfl
@[simp] theorem State.setSch_rate (v) : (s.setSch v).rate = s.rate := rfl
@[simp] theorem State.setSch_cls (v) : (s.setSch v).cls = s.cls := rfl
@[simp] theorem State.setSch_sch (v) : (s.setSch v).sch = v := rfl
@[simp] theorem State.setSch_phone (v) : (s.setSch v).phone = s.phone := rfl
@[simp] theorem State.setSch_voice (v) : (s.setSch v).voice = s.voice := rfl
@[simp] theorem State.setSch_supply (v) : (s.setSch v).supply = s.supply := rfl
@[simp] theorem State.setSch_mon (v) : (s.setSch v).mon = s.mon := rfl
@[simp] theorem State.setSch_evt (v) : (s.setSch v).evt = s.evt := rfl
@[simp] theorem State.setSch_agent (v) : (s.setSch v).agent = s.agent := rfl
@[simp] theorem State.setSch_out (v) : (s.setSch v).out = s.out := rfl

@[simp] theorem State.setPhone_pending (v) : (s.setPhone v).pending = s.pending := rfl
@[simp] theorem State.setPhone_due (v) : (s.setPhone v).due = s.due := rfl
@[simp] theorem State.setPhone_time (v) : (s.setPhone v).time = s.time := rfl
@[simp] theorem State.setPhone_line (v) : (s.setPhone v).line = s.line := rfl
@[simp] theorem State.setPhone_load (v) : (s.setPhone v).load = s.load := rfl
@[simp] theorem State.setPhone_track (v) : (s.setPhone v).track = s.track := rfl
@[simp] theorem State.setPhone_rate (v) : (s.setPhone v).rate = s.rate := rfl
@[simp] theorem State.setPhone_cls (v) : (s.setPhone v).cls = s.cls := rfl
@[simp] theorem State.setPhone_sch (v) : (s.setPhone v).sch = s.sch := rfl
@[simp] theorem State.setPhone_phone (v) : (s.setPhone v).phone = v := rfl
@[simp] theorem State.setPhone_voice (v) : (s.setPhone v).voice = s.voice := rfl
@[simp] theorem State.setPhone_supply (v) : (s.setPhone v).supply = s.supply := rfl
@[simp] theorem State.setPhone_mon (v) : (s.setPhone v).mon = s.mon := rfl
@[simp] theorem State.setPhone_evt (v) : (s.setPhone v).evt = s.evt := rfl
@[simp] theorem State.setPhone_agent (v) : (s.setPhone v).agent = s.agent := rfl
@[simp] theorem State.setPhone_out (v) : (s.setPhone v).out = s.out := rfl

@[simp] theorem State.setVoice_pending (v) : (s.setVoice v).pending = s.pending := rfl
@[simp] theorem State.setVoice_due (v) : (s.setVoice v).due = s.due := rfl
@[simp] theorem State.setVoice_time (v) : (s.setVoice v).time = s.time := rfl
@[simp] theorem State.setVoice_line (v) : (s.setVoice v).line = s.line := rfl
@[simp] theorem State.setVoice_load (v) : (s.setVoice v).load = s.load := rfl
@[simp] theorem State.setVoice_track (v) : (s.setVoice v).track = s.track := rfl
@[simp] theorem State.setVoice_rate (v) : (s.setVoice v).rate = s.rate := rfl
@[simp] theorem State.setVoice_cls (v) : (s.setVoice v).cls = s.cls := rfl
@[simp] theorem State.setVoice_sch (v) : (s.setVoice v).sch = s.sch := rfl
@[simp] theorem State.setVoice_phone (v) : (s.setVoice v).phone = s.phone := rfl
@[simp] theorem State.setVoice_voice (v) : (s.setVoice v).voice = v := rfl
@[simp] theorem State.setVoice_supply (v) : (s.setVoice v).supply = s.supply := rfl
@[simp] theorem State.setVoice_mon (v) : (s.setVoice v).mon = s.mon := rfl
@[simp] theorem State.setVoice_evt (v) : (s.setVoice v).evt = s.evt := rfl
@[simp] theorem State.setVoice_agent (v) : (s.setVoice v).agent = s.agent := rfl
@[simp] theorem State.setVoice_out (v) : (s.setVoice v).out = s.out := rfl

@[simp] theorem State.setSupply_pending (v) : (s.setSupply v).pending = s.pending := rfl
@[simp] theorem State.setSupply_due (v) : (s.setSupply v).due = s.due := rfl
@[simp] theorem State.setSupply_time (v) : (s.setSupply v).time = s.time := rfl
@[simp] theorem State.setSupply_line (v) : (s.setSupply v).line = s.line := rfl
@[simp] theorem State.setSupply_load (v) : (s.setSupply v).load = s.load := rfl
@[simp] theorem State.setSupply_track (v) : (s.setSupply v).track = s.track := rfl
@[simp] theorem State.setSupply_rate (v) : (s.setSupply v).rate = s.rate := rfl
@[simp] theorem State.setSupply_cls (v) : (s.setSupply v).cls = s.cls := rfl
@[simp] theorem State.setSupply_sch (v) : (s.setSupply v).sch = s.sch := rfl
@[simp] theorem State.setSupply_phone (v) : (s.setSupply v).phone = s.phone := rfl
@[simp] theorem State.setSupply_voice (v) : (s.setSupply v).voice = s.voice := rfl
@[simp] theorem State.setSupply_supply (v) : (s.setSupply v).supply = v := rfl
@[simp] theorem State.setSupply_mon (v) : (s.setSupply v).mon = s.mon := rfl
@[simp] theorem State.setSupply_evt (v) : (s.setSupply v).evt = s.evt := rfl
@[simp] theorem State.setSupply_agent (v) : (s.setSupply v).agent = s.agent := rfl
@[simp] theorem State.setSupply_out (v) : (s.setSupply v).out = s.out := rfl

@[simp] theorem State.setMon_pending (v) : (s.setMon v).pending = s.pending := rfl
@[simp] theorem State.setMon_due (v) : (s.setMon v).due = s.due := rfl
@[simp] theorem State.setMon_time (v) : (s.setMon v).time = s.time := rfl
@[simp] theorem State.setMon_line (v) : (s.setMon v).line = s.line := rfl
@[simp] theorem State.setMon_load (v) : (s.setMon v).load = s.load := rfl
@[simp] theorem State.setMon_track (v) : (s.setMon v).track = s.track := rfl
@[simp] theorem State.setMon_rate (v) : (s.setMon v).rate = s.rate := rfl
@[simp] theorem State.setMon_cls (v) : (s.setMon v).cls = s.cls := rfl
@[simp] theorem State.setMon_sch (v) : (s.setMon v).sch = s.sch := rfl
@[simp] theorem State.setMon_phone (v) : (s.setMon v).phone = s.phone := rfl
@[simp] theorem State.setMon_voice (v) : (s.setMon v).voice = s.voice := rfl
@[simp] theorem State.setMon_supply (v) : (s.setMon v).supply = s.supply := rfl
@[simp] theorem State.setMon_mon (v) : (s.setMon v).mon = v := rfl
@[simp] theorem State.setMon_evt (v) : (s.setMon v).evt = s.evt := rfl
@[simp] theorem State.setMon_agent (v) : (s.setMon v).agent = s.agent := rfl
@[simp] theorem State.setMon_out (v) : (s.setMon v).out = s.out := rfl

@[simp] theorem State.setEvt_pending (v) : (s.setEvt v).pending = s.pending := rfl
@[simp] theorem State.setEvt_due (v) : (s.setEvt v).due = s.due := rfl
@[simp] theorem State.setEvt_time (v) : (s.setEvt v).time = s.time := rfl
@[simp] theorem State.setEvt_line (v) : (s.setEvt v).line = s.line := rfl
@[simp] theorem State.setEvt_load (v) : (s.setEvt v).load = s.load := rfl
@[simp] theorem State.setEvt_track (v) : (s.setEvt v).track = s.track := rfl
@[simp] theorem State.setEvt_rate (v) : (s.setEvt v).rate = s.rate := rfl
@[simp] theorem State.setEvt_cls (v) : (s.setEvt v).cls = s.cls := rfl
@[simp] theorem State.setEvt_sch (v) : (s.setEvt v).sch = s.sch := rfl
@[simp] theorem State.setEvt_phone (v) : (s.setEvt v).phone = s.phone := rfl
@[simp] theorem State.setEvt_voice (v) : (s.setEvt v).voice = s.voice := rfl
@[simp] theorem State.setEvt_supply (v) : (s.setEvt v).supply = s.supply := rfl
@[simp] theorem State.setEvt_mon (v) : (s.setEvt v).mon = s.mon := rfl
@[simp] theorem State.setEvt_evt (v) : (s.setEvt v).evt = v := rfl
@[simp] theorem State.setEvt_agent (v) : (s.setEvt v).agent = s.agent := rfl
@[simp] theorem State.setEvt_out (v) : (s.setEvt v).out = s.out := rfl

@[simp] theorem State.setAgent_pending (v) : (s.setAgent v).pending = s.pending := rfl
@[simp] theorem State.setAgent_due (v) : (s.setAgent v).due = s.due := rfl
@[simp] theorem State.setAgent_time (v) : (s.setAgent v).time = s.time := rfl
@[simp] theorem State.setAgent_line (v) : (s.setAgent v).line = s.line := rfl
@[simp] theorem State.setAgent_load (v) : (s.setAgent v).load = s.load := rfl
@[simp] theorem State.setAgent_track (v) : (s.setAgent v).track = s.track := rfl
@[simp] theorem State.setAgent_rate (v) : (s.setAgent v).rate = s.rate := rfl
@[simp] theorem State.setAgent_cls (v) : (s.setAgent v).cls = s.cls := rfl
@[simp] theorem State.setAgent_sch (v) : (s.setAgent v).sch = s.sch := rfl
@[simp] theorem State.setAgent_phone (v) : (s.setAgent v).phone = s.phone := rfl
@[simp] theorem State.setAgent_voice (v) : (s.setAgent v).voice = s.voice := rfl
@[simp] theorem State.setAgent_supply (v) : (s.setAgent v).supply = s.supply := rfl
@[simp] theorem State.setAgent_mon (v) : (s.setAgent v).mon = s.mon := rfl
@[simp] theorem State.setAgent_evt (v) : (s.setAgent v).evt = s.evt := rfl
@[simp] theorem State.setAgent_agent (v) : (s.setAgent v).agent = v := rfl
@[simp] theorem State.setAgent_out (v) : (s.setAgent v).out = s.out := rfl

@[simp] theorem State.setOut_pending (v) : (s.setOut v).pending = s.pending := rfl
@[simp] theorem State.setOut_due (v) : (s.setOut v).due = s.due := rfl
@[simp] theorem State.setOut_time (v) : (s.setOut v).time = s.time := rfl
@[simp] theorem State.setOut_line (v) : (s.setOut v).line = s.line := rfl
@[simp] theorem State.setOut_load (v) : (s.setOut v).load = s.load := rfl
@[simp] theorem State.setOut_track (v) : (s.setOut v).track = s.track := rfl
@[simp] theorem State.setOut_rate (v) : (s.setOut v).rate = s.rate := rfl
@[simp] theorem State.setOut_cls (v) : (s.setOut v).cls = s.cls := rfl
@[simp] theorem State.setOut_sch (v) : (s.setOut v).sch = s.sch := rfl
@[simp] theorem State.setOut_phone (v) : (s.setOut v).phone = s.phone := rfl
@[simp] theorem State.setOut_voice (v) : (s.setOut v).voice = s.voice := rfl
@[simp] theorem State.setOut_supply (v) : (s.setOut v).supply = s.supply := rfl
@[simp] theorem State.setOut_mon (v) : (s.setOut v).mon = s.mon := rfl
@[simp] theorem State.setOut_evt (v) : (s.setOut v).evt = s.evt := rfl
@[simp] theorem State.setOut_agent (v) : (s.setOut v).agent = s.agent := rfl
@[simp] theorem State.setOut_out (v) : (s.setOut v).out = v := rfl

@[simp] theorem State.modTime_pending (f) : (s.modTime f).pending = s.pending := rfl
@[simp] theorem State.modTime_due (f) : (s.modTime f).due = s.due := rfl
@[simp] theorem State.modTime_time (f) : (s.modTime f).time = f s.time := rfl
@[simp] theorem State.modTime_line (f) : (s.modTime f).line = s.line := rfl
@[simp] theorem State.modTime_load (f) : (s.modTime f).load = s.load := rfl
@[simp] theorem State.modTime_track (f) : (s.modTime f).track = s.track := rfl
@[simp] theorem State.modTime_rate (f) : (s.modTime f).rate = s.rate := rfl
@[simp] theorem State.modTime_cls (f) : (s.modTime f).cls = s.cls := rfl
@[simp] theorem State.modTime_sch (f) : (s.modTime f).sch = s.sch := rfl
@[simp] theorem State.modTime_phone (f) : (s.modTime f).phone = s.phone := rfl
@[simp] theorem State.modTime_voice (f) : (s.modTime f).voice = s.voice := rfl
@[simp] theorem State.modTime_supply (f) : (s.modTime f).supply = s.supply := rfl
@[simp] theorem State.modTime_mon (f) : (s.modTime f).mon = s.mon := rfl
@[simp] theorem State.modTime_evt (f) : (s.modTime f).evt = s.evt := rfl
@[simp] theorem State.modTime_agent (f) : (s.modTime f).agent = s.agent := rfl
@[simp] theorem State.modTime_out (f) : (s.modTime f).out = s.out := rfl

@[simp] theorem State.modLine_pending (f) : (s.modLine f).pending = s.pending := rfl
@[simp] theorem State.modLine_due (f) : (s.modLine f).due = s.due := rfl
@[simp] theorem State.modLine_time (f) : (s.modLine f).time = s.time := rfl
@[simp] theorem State.modLine_line (f) : (s.modLine f).line = f s.line := rfl
@[simp] theorem State.modLine_load (f) : (s.modLine f).load = s.load := rfl
@[simp] theorem State.modLine_track (f) : (s.modLine f).track = s.track := rfl
@[simp] theorem State.modLine_rate (f) : (s.modLine f).rate = s.rate := rfl
@[simp] theorem State.modLine_cls (f) : (s.modLine f).cls = s.cls := rfl
@[simp] theorem State.modLine_sch (f) : (s.modLine f).sch = s.sch := rfl
@[simp] theorem State.modLine_phone (f) : (s.modLine f).phone = s.phone := rfl
@[simp] theorem State.modLine_voice (f) : (s.modLine f).voice = s.voice := rfl
@[simp] theorem State.modLine_supply (f) : (s.modLine f).supply = s.supply := rfl
@[simp] theorem State.modLine_mon (f) : (s.modLine f).mon = s.mon := rfl
@[simp] theorem State.modLine_evt (f) : (s.modLine f).evt = s.evt := rfl
@[simp] theorem State.modLine_agent (f) : (s.modLine f).agent = s.agent := rfl
@[simp] theorem State.modLine_out (f) : (s.modLine f).out = s.out := rfl

@[simp] theorem State.modLoad_pending (f) : (s.modLoad f).pending = s.pending := rfl
@[simp] theorem State.modLoad_due (f) : (s.modLoad f).due = s.due := rfl
@[simp] theorem State.modLoad_time (f) : (s.modLoad f).time = s.time := rfl
@[simp] theorem State.modLoad_line (f) : (s.modLoad f).line = s.line := rfl
@[simp] theorem State.modLoad_load (f) : (s.modLoad f).load = f s.load := rfl
@[simp] theorem State.modLoad_track (f) : (s.modLoad f).track = s.track := rfl
@[simp] theorem State.modLoad_rate (f) : (s.modLoad f).rate = s.rate := rfl
@[simp] theorem State.modLoad_cls (f) : (s.modLoad f).cls = s.cls := rfl
@[simp] theorem State.modLoad_sch (f) : (s.modLoad f).sch = s.sch := rfl
@[simp] theorem State.modLoad_phone (f) : (s.modLoad f).phone = s.phone := rfl
@[simp] theorem State.modLoad_voice (f) : (s.modLoad f).voice = s.voice := rfl
@[simp] theorem State.modLoad_supply (f) : (s.modLoad f).supply = s.supply := rfl
@[simp] theorem State.modLoad_mon (f) : (s.modLoad f).mon = s.mon := rfl
@[simp] theorem State.modLoad_evt (f) : (s.modLoad f).evt = s.evt := rfl
@[simp] theorem State.modLoad_agent (f) : (s.modLoad f).agent = s.agent := rfl
@[simp] theorem State.modLoad_out (f) : (s.modLoad f).out = s.out := rfl

@[simp] theorem State.modTrack_pending (f) : (s.modTrack f).pending = s.pending := rfl
@[simp] theorem State.modTrack_due (f) : (s.modTrack f).due = s.due := rfl
@[simp] theorem State.modTrack_time (f) : (s.modTrack f).time = s.time := rfl
@[simp] theorem State.modTrack_line (f) : (s.modTrack f).line = s.line := rfl
@[simp] theorem State.modTrack_load (f) : (s.modTrack f).load = s.load := rfl
@[simp] theorem State.modTrack_track (f) : (s.modTrack f).track = f s.track := rfl
@[simp] theorem State.modTrack_rate (f) : (s.modTrack f).rate = s.rate := rfl
@[simp] theorem State.modTrack_cls (f) : (s.modTrack f).cls = s.cls := rfl
@[simp] theorem State.modTrack_sch (f) : (s.modTrack f).sch = s.sch := rfl
@[simp] theorem State.modTrack_phone (f) : (s.modTrack f).phone = s.phone := rfl
@[simp] theorem State.modTrack_voice (f) : (s.modTrack f).voice = s.voice := rfl
@[simp] theorem State.modTrack_supply (f) : (s.modTrack f).supply = s.supply := rfl
@[simp] theorem State.modTrack_mon (f) : (s.modTrack f).mon = s.mon := rfl
@[simp] theorem State.modTrack_evt (f) : (s.modTrack f).evt = s.evt := rfl
@[simp] theorem State.modTrack_agent (f) : (s.modTrack f).agent = s.agent := rfl
@[simp] theorem State.modTrack_out (f) : (s.modTrack f).out = s.out := rfl

@[simp] theorem State.modCls_pending (f) : (s.modCls f).pending = s.pending := rfl
@[simp] theorem State.modCls_due (f) : (s.modCls f).due = s.due := rfl
@[simp] theorem State.modCls_time (f) : (s.modCls f).time = s.time := rfl
@[simp] theorem State.modCls_line (f) : (s.modCls f).line = s.line := rfl
@[simp] theorem State.modCls_load (f) : (s.modCls f).load = s.load := rfl
@[simp] theorem State.modCls_track (f) : (s.modCls f).track = s.track := rfl
@[simp] theorem State.modCls_rate (f) : (s.modCls f).rate = s.rate := rfl
@[simp] theorem State.modCls_cls (f) : (s.modCls f).cls = f s.cls := rfl
@[simp] theorem State.modCls_sch (f) : (s.modCls f).sch = s.sch := rfl
@[simp] theorem State.modCls_phone (f) : (s.modCls f).phone = s.phone := rfl
@[simp] theorem State.modCls_voice (f) : (s.modCls f).voice = s.voice := rfl
@[simp] theorem State.modCls_supply (f) : (s.modCls f).supply = s.supply := rfl
@[simp] theorem State.modCls_mon (f) : (s.modCls f).mon = s.mon := rfl
@[simp] theorem State.modCls_evt (f) : (s.modCls f).evt = s.evt := rfl
@[simp] theorem State.modCls_agent (f) : (s.modCls f).agent = s.agent := rfl
@[simp] theorem State.modCls_out (f) : (s.modCls f).out = s.out := rfl

@[simp] theorem State.modSch_pending (f) : (s.modSch f).pending = s.pending := rfl
@[simp] theorem State.modSch_due (f) : (s.modSch f).due = s.due := rfl
@[simp] theorem State.modSch_time (f) : (s.modSch f).time = s.time := rfl
@[simp] theorem State.modSch_line (f) : (s.modSch f).line = s.line := rfl
@[simp] theorem State.modSch_load (f) : (s.modSch f).load = s.load := rfl
@[simp] theorem State.modSch_track (f) : (s.modSch f).track = s.track := rfl
@[simp] theorem State.modSch_rate (f) : (s.modSch f).rate = s.rate := rfl
@[simp] theorem State.modSch_cls (f) : (s.modSch f).cls = s.cls := rfl
@[simp] theorem State.modSch_sch (f) : (s.modSch f).sch = f s.sch := rfl
@[simp] theorem State.modSch_phone (f) : (s.modSch f).phone = s.phone := rfl
@[simp] theorem State.modSch_voice (f) : (s.modSch f).voice = s.voice := rfl
@[simp] theorem State.modSch_supply (f) : (s.modSch f).supply = s.supply := rfl
@[simp] theorem State.modSch_mon (f) : (s.modSch f).mon = s.mon := rfl
@[simp] theorem State.modSch_evt (f) : (s.modSch f).evt = s.evt := rfl
@[simp] theorem State.modSch_agent (f) : (s.modSch f).agent = s.agent := rfl
@[simp] theorem State.modSch_out (f) : (s.modSch f).out = s.out := rfl

@[simp] theorem State.modMon_pending (f) : (s.modMon f).pending = s.pending := rfl
@[simp] theorem State.modMon_due (f) : (s.modMon f).due = s.due := rfl
@[simp] theorem State.modMon_time (f) : (s.modMon f).time = s.time := rfl
@[simp] theorem State.modMon_line (f) : (s.modMon f).line = s.line := rfl
@[simp] theorem State.modMon_load (f) : (s.modMon f).load = s.load := rfl
@[simp] theorem State.modMon_track (f) : (s.modMon f).track = s.track := rfl
@[simp] theorem State.modMon_rate (f) : (s.modMon f).rate = s.rate := rfl
@[simp] theorem State.modMon_cls (f) : (s.modMon f).cls = s.cls := rfl
@[simp] theorem State.modMon_sch (f) : (s.modMon f).sch = s.sch := rfl
@[simp] theorem State.modMon_phone (f) : (s.modMon f).phone = s.phone := rfl
@[simp] theorem State.modMon_voice (f) : (s.modMon f).voice = s.voice := rfl
@[simp] theorem State.modMon_supply (f) : (s.modMon f).supply = s.supply := rfl
@[simp] theorem State.modMon_mon (f) : (s.modMon f).mon = f s.mon := rfl
@[simp] theorem State.modMon_evt (f) : (s.modMon f).evt = s.evt := rfl
@[simp] theorem State.modMon_agent (f) : (s.modMon f).agent = s.agent := rfl
@[simp] theorem State.modMon_out (f) : (s.modMon f).out = s.out := rfl

@[simp] theorem State.modEvt_pending (f) : (s.modEvt f).pending = s.pending := rfl
@[simp] theorem State.modEvt_due (f) : (s.modEvt f).due = s.due := rfl
@[simp] theorem State.modEvt_time (f) : (s.modEvt f).time = s.time := rfl
@[simp] theorem State.modEvt_line (f) : (s.modEvt f).line = s.line := rfl
@[simp] theorem State.modEvt_load (f) : (s.modEvt f).load = s.load := rfl
@[simp] theorem State.modEvt_track (f) : (s.modEvt f).track = s.track := rfl
@[simp] theorem State.modEvt_rate (f) : (s.modEvt f).rate = s.rate := rfl
@[simp] theorem State.modEvt_cls (f) : (s.modEvt f).cls = s.cls := rfl
@[simp] theorem State.modEvt_sch (f) : (s.modEvt f).sch = s.sch := rfl
@[simp] theorem State.modEvt_phone (f) : (s.modEvt f).phone = s.phone := rfl
@[simp] theorem State.modEvt_voice (f) : (s.modEvt f).voice = s.voice := rfl
@[simp] theorem State.modEvt_supply (f) : (s.modEvt f).supply = s.supply := rfl
@[simp] theorem State.modEvt_mon (f) : (s.modEvt f).mon = s.mon := rfl
@[simp] theorem State.modEvt_evt (f) : (s.modEvt f).evt = f s.evt := rfl
@[simp] theorem State.modEvt_agent (f) : (s.modEvt f).agent = s.agent := rfl
@[simp] theorem State.modEvt_out (f) : (s.modEvt f).out = s.out := rfl

@[simp] theorem State.modAgent_pending (f) : (s.modAgent f).pending = s.pending := rfl
@[simp] theorem State.modAgent_due (f) : (s.modAgent f).due = s.due := rfl
@[simp] theorem State.modAgent_time (f) : (s.modAgent f).time = s.time := rfl
@[simp] theorem State.modAgent_line (f) : (s.modAgent f).line = s.line := rfl
@[simp] theorem State.modAgent_load (f) : (s.modAgent f).load = s.load := rfl
@[simp] theorem State.modAgent_track (f) : (s.modAgent f).track = s.track := rfl
@[simp] theorem State.modAgent_rate (f) : (s.modAgent f).rate = s.rate := rfl
@[simp] theorem State.modAgent_cls (f) : (s.modAgent f).cls = s.cls := rfl
@[simp] theorem State.modAgent_sch (f) : (s.modAgent f).sch = s.sch := rfl
@[simp] theorem State.modAgent_phone (f) : (s.modAgent f).phone = s.phone := rfl
@[simp] theorem State.modAgent_voice (f) : (s.modAgent f).voice = s.voice := rfl
@[simp] theorem State.modAgent_supply (f) : (s.modAgent f).supply = s.supply := rfl
@[simp] theorem State.modAgent_mon (f) : (s.modAgent f).mon = s.mon := rfl
@[simp] theorem State.modAgent_evt (f) : (s.modAgent f).evt = s.evt := rfl
@[simp] theorem State.modAgent_agent (f) : (s.modAgent f).agent = f s.agent := rfl
@[simp] theorem State.modAgent_out (f) : (s.modAgent f).out = s.out := rfl

@[simp] theorem State.modOut_pending (f) : (s.modOut f).pending = s.pending := rfl
@[simp] theorem State.modOut_due (f) : (s.modOut f).due = s.due := rfl
@[simp] theorem State.modOut_time (f) : (s.modOut f).time = s.time := rfl
@[simp] theorem State.modOut_line (f) : (s.modOut f).line = s.line := rfl
@[simp] theorem State.modOut_load (f) : (s.modOut f).load = s.load := rfl
@[simp] theorem State.modOut_track (f) : (s.modOut f).track = s.track := rfl
@[simp] theorem State.modOut_rate (f) : (s.modOut f).rate = s.rate := rfl
@[simp] theorem State.modOut_cls (f) : (s.modOut f).cls = s.cls := rfl
@[simp] theorem State.modOut_sch (f) : (s.modOut f).sch = s.sch := rfl
@[simp] theorem State.modOut_phone (f) : (s.modOut f).phone = s.phone := rfl
@[simp] theorem State.modOut_voice (f) : (s.modOut f).voice = s.voice := rfl
@[simp] theorem State.modOut_supply (f) : (s.modOut f).supply = s.supply := rfl
@[simp] theorem State.modOut_mon (f) : (s.modOut f).mon = s.mon := rfl
@[simp] theorem State.modOut_evt (f) : (s.modOut f).evt = s.evt := rfl
@[simp] theorem State.modOut_agent (f) : (s.modOut f).agent = s.agent := rfl
@[simp] theorem State.modOut_out (f) : (s.modOut f).out = f s.out := rfl

end Sys2Proof.Machine
end

