-- ==== Sys2Proof/Laws/Counting.lean ====
section
/-! SUPPORT. What counting and sending leave in each field of the state. -/

namespace Sys2Proof.Machine

variable (s : State)

@[simp] theorem State.countLine_pending (f) : (s.countLine f).pending = s.pending := rfl
@[simp] theorem State.countLine_due (f) : (s.countLine f).due = s.due := rfl
@[simp] theorem State.countLine_time (f) : (s.countLine f).time = s.time := rfl
@[simp] theorem State.countLine_line (f) : (s.countLine f).line = s.line := rfl
@[simp] theorem State.countLine_load (f) : (s.countLine f).load = s.load := rfl
@[simp] theorem State.countLine_track (f) : (s.countLine f).track = s.track := rfl
@[simp] theorem State.countLine_rate (f) : (s.countLine f).rate = s.rate := rfl
@[simp] theorem State.countLine_cls (f) : (s.countLine f).cls = s.cls := rfl
@[simp] theorem State.countLine_sch (f) : (s.countLine f).sch = s.sch := rfl
@[simp] theorem State.countLine_phone (f) : (s.countLine f).phone = s.phone := rfl
@[simp] theorem State.countLine_voice (f) : (s.countLine f).voice = s.voice := rfl
@[simp] theorem State.countLine_supply (f) : (s.countLine f).supply = s.supply := rfl
@[simp] theorem State.countLine_evt (f) : (s.countLine f).evt = s.evt := rfl
@[simp] theorem State.countLine_agent (f) : (s.countLine f).agent = s.agent := rfl
@[simp] theorem State.countLine_out (f) : (s.countLine f).out = s.out := rfl

@[simp] theorem State.countTraffic_pending (f) : (s.countTraffic f).pending = s.pending := rfl
@[simp] theorem State.countTraffic_due (f) : (s.countTraffic f).due = s.due := rfl
@[simp] theorem State.countTraffic_time (f) : (s.countTraffic f).time = s.time := rfl
@[simp] theorem State.countTraffic_line (f) : (s.countTraffic f).line = s.line := rfl
@[simp] theorem State.countTraffic_load (f) : (s.countTraffic f).load = s.load := rfl
@[simp] theorem State.countTraffic_track (f) : (s.countTraffic f).track = s.track := rfl
@[simp] theorem State.countTraffic_rate (f) : (s.countTraffic f).rate = s.rate := rfl
@[simp] theorem State.countTraffic_cls (f) : (s.countTraffic f).cls = s.cls := rfl
@[simp] theorem State.countTraffic_sch (f) : (s.countTraffic f).sch = s.sch := rfl
@[simp] theorem State.countTraffic_phone (f) : (s.countTraffic f).phone = s.phone := rfl
@[simp] theorem State.countTraffic_voice (f) : (s.countTraffic f).voice = s.voice := rfl
@[simp] theorem State.countTraffic_supply (f) : (s.countTraffic f).supply = s.supply := rfl
@[simp] theorem State.countTraffic_evt (f) : (s.countTraffic f).evt = s.evt := rfl
@[simp] theorem State.countTraffic_agent (f) : (s.countTraffic f).agent = s.agent := rfl
@[simp] theorem State.countTraffic_out (f) : (s.countTraffic f).out = s.out := rfl

@[simp] theorem State.countCls_pending (f) : (s.countCls f).pending = s.pending := rfl
@[simp] theorem State.countCls_due (f) : (s.countCls f).due = s.due := rfl
@[simp] theorem State.countCls_time (f) : (s.countCls f).time = s.time := rfl
@[simp] theorem State.countCls_line (f) : (s.countCls f).line = s.line := rfl
@[simp] theorem State.countCls_load (f) : (s.countCls f).load = s.load := rfl
@[simp] theorem State.countCls_track (f) : (s.countCls f).track = s.track := rfl
@[simp] theorem State.countCls_rate (f) : (s.countCls f).rate = s.rate := rfl
@[simp] theorem State.countCls_cls (f) : (s.countCls f).cls = s.cls := rfl
@[simp] theorem State.countCls_sch (f) : (s.countCls f).sch = s.sch := rfl
@[simp] theorem State.countCls_phone (f) : (s.countCls f).phone = s.phone := rfl
@[simp] theorem State.countCls_voice (f) : (s.countCls f).voice = s.voice := rfl
@[simp] theorem State.countCls_supply (f) : (s.countCls f).supply = s.supply := rfl
@[simp] theorem State.countCls_evt (f) : (s.countCls f).evt = s.evt := rfl
@[simp] theorem State.countCls_agent (f) : (s.countCls f).agent = s.agent := rfl
@[simp] theorem State.countCls_out (f) : (s.countCls f).out = s.out := rfl

@[simp] theorem State.countSch_pending (f) : (s.countSch f).pending = s.pending := rfl
@[simp] theorem State.countSch_due (f) : (s.countSch f).due = s.due := rfl
@[simp] theorem State.countSch_time (f) : (s.countSch f).time = s.time := rfl
@[simp] theorem State.countSch_line (f) : (s.countSch f).line = s.line := rfl
@[simp] theorem State.countSch_load (f) : (s.countSch f).load = s.load := rfl
@[simp] theorem State.countSch_track (f) : (s.countSch f).track = s.track := rfl
@[simp] theorem State.countSch_rate (f) : (s.countSch f).rate = s.rate := rfl
@[simp] theorem State.countSch_cls (f) : (s.countSch f).cls = s.cls := rfl
@[simp] theorem State.countSch_sch (f) : (s.countSch f).sch = s.sch := rfl
@[simp] theorem State.countSch_phone (f) : (s.countSch f).phone = s.phone := rfl
@[simp] theorem State.countSch_voice (f) : (s.countSch f).voice = s.voice := rfl
@[simp] theorem State.countSch_supply (f) : (s.countSch f).supply = s.supply := rfl
@[simp] theorem State.countSch_evt (f) : (s.countSch f).evt = s.evt := rfl
@[simp] theorem State.countSch_agent (f) : (s.countSch f).agent = s.agent := rfl
@[simp] theorem State.countSch_out (f) : (s.countSch f).out = s.out := rfl

@[simp] theorem State.countVoice_pending (f) : (s.countVoice f).pending = s.pending := rfl
@[simp] theorem State.countVoice_due (f) : (s.countVoice f).due = s.due := rfl
@[simp] theorem State.countVoice_time (f) : (s.countVoice f).time = s.time := rfl
@[simp] theorem State.countVoice_line (f) : (s.countVoice f).line = s.line := rfl
@[simp] theorem State.countVoice_load (f) : (s.countVoice f).load = s.load := rfl
@[simp] theorem State.countVoice_track (f) : (s.countVoice f).track = s.track := rfl
@[simp] theorem State.countVoice_rate (f) : (s.countVoice f).rate = s.rate := rfl
@[simp] theorem State.countVoice_cls (f) : (s.countVoice f).cls = s.cls := rfl
@[simp] theorem State.countVoice_sch (f) : (s.countVoice f).sch = s.sch := rfl
@[simp] theorem State.countVoice_phone (f) : (s.countVoice f).phone = s.phone := rfl
@[simp] theorem State.countVoice_voice (f) : (s.countVoice f).voice = s.voice := rfl
@[simp] theorem State.countVoice_supply (f) : (s.countVoice f).supply = s.supply := rfl
@[simp] theorem State.countVoice_evt (f) : (s.countVoice f).evt = s.evt := rfl
@[simp] theorem State.countVoice_agent (f) : (s.countVoice f).agent = s.agent := rfl
@[simp] theorem State.countVoice_out (f) : (s.countVoice f).out = s.out := rfl

@[simp] theorem State.countPort_pending (p) (f) : (s.countPort p f).pending = s.pending := rfl
@[simp] theorem State.countPort_due (p) (f) : (s.countPort p f).due = s.due := rfl
@[simp] theorem State.countPort_time (p) (f) : (s.countPort p f).time = s.time := rfl
@[simp] theorem State.countPort_line (p) (f) : (s.countPort p f).line = s.line := rfl
@[simp] theorem State.countPort_load (p) (f) : (s.countPort p f).load = s.load := rfl
@[simp] theorem State.countPort_track (p) (f) : (s.countPort p f).track = s.track := rfl
@[simp] theorem State.countPort_rate (p) (f) : (s.countPort p f).rate = s.rate := rfl
@[simp] theorem State.countPort_cls (p) (f) : (s.countPort p f).cls = s.cls := rfl
@[simp] theorem State.countPort_sch (p) (f) : (s.countPort p f).sch = s.sch := rfl
@[simp] theorem State.countPort_phone (p) (f) : (s.countPort p f).phone = s.phone := rfl
@[simp] theorem State.countPort_voice (p) (f) : (s.countPort p f).voice = s.voice := rfl
@[simp] theorem State.countPort_supply (p) (f) : (s.countPort p f).supply = s.supply := rfl
@[simp] theorem State.countPort_evt (p) (f) : (s.countPort p f).evt = s.evt := rfl
@[simp] theorem State.countPort_agent (p) (f) : (s.countPort p f).agent = s.agent := rfl
@[simp] theorem State.countPort_out (p) (f) : (s.countPort p f).out = s.out := rfl

@[simp] theorem State.modInterval_pending (f) : (s.modInterval f).pending = s.pending := rfl
@[simp] theorem State.modInterval_due (f) : (s.modInterval f).due = s.due := rfl
@[simp] theorem State.modInterval_time (f) : (s.modInterval f).time = s.time := rfl
@[simp] theorem State.modInterval_line (f) : (s.modInterval f).line = s.line := rfl
@[simp] theorem State.modInterval_load (f) : (s.modInterval f).load = s.load := rfl
@[simp] theorem State.modInterval_track (f) : (s.modInterval f).track = s.track := rfl
@[simp] theorem State.modInterval_rate (f) : (s.modInterval f).rate = s.rate := rfl
@[simp] theorem State.modInterval_cls (f) : (s.modInterval f).cls = s.cls := rfl
@[simp] theorem State.modInterval_sch (f) : (s.modInterval f).sch = s.sch := rfl
@[simp] theorem State.modInterval_phone (f) : (s.modInterval f).phone = s.phone := rfl
@[simp] theorem State.modInterval_voice (f) : (s.modInterval f).voice = s.voice := rfl
@[simp] theorem State.modInterval_supply (f) : (s.modInterval f).supply = s.supply := rfl
@[simp] theorem State.modInterval_evt (f) : (s.modInterval f).evt = s.evt := rfl
@[simp] theorem State.modInterval_agent (f) : (s.modInterval f).agent = s.agent := rfl
@[simp] theorem State.modInterval_out (f) : (s.modInterval f).out = s.out := rfl

@[simp] theorem State.countCall_pending (p) (f) : (s.countCall p f).pending = s.pending := rfl
@[simp] theorem State.countCall_due (p) (f) : (s.countCall p f).due = s.due := rfl
@[simp] theorem State.countCall_time (p) (f) : (s.countCall p f).time = s.time := rfl
@[simp] theorem State.countCall_line (p) (f) : (s.countCall p f).line = s.line := rfl
@[simp] theorem State.countCall_load (p) (f) : (s.countCall p f).load = s.load := rfl
@[simp] theorem State.countCall_track (p) (f) : (s.countCall p f).track = s.track := rfl
@[simp] theorem State.countCall_rate (p) (f) : (s.countCall p f).rate = s.rate := rfl
@[simp] theorem State.countCall_cls (p) (f) : (s.countCall p f).cls = s.cls := rfl
@[simp] theorem State.countCall_sch (p) (f) : (s.countCall p f).sch = s.sch := rfl
@[simp] theorem State.countCall_phone (p) (f) : (s.countCall p f).phone = s.phone := rfl
@[simp] theorem State.countCall_supply (p) (f) : (s.countCall p f).supply = s.supply := rfl
@[simp] theorem State.countCall_evt (p) (f) : (s.countCall p f).evt = s.evt := rfl
@[simp] theorem State.countCall_agent (p) (f) : (s.countCall p f).agent = s.agent := rfl
@[simp] theorem State.countCall_out (p) (f) : (s.countCall p f).out = s.out := rfl

@[simp] theorem State.send_pending (c) : (s.send c).pending = s.pending := rfl
@[simp] theorem State.send_due (c) : (s.send c).due = s.due := rfl
@[simp] theorem State.send_time (c) : (s.send c).time = s.time := rfl
@[simp] theorem State.send_line (c) : (s.send c).line = s.line := rfl
@[simp] theorem State.send_load (c) : (s.send c).load = s.load := rfl
@[simp] theorem State.send_track (c) : (s.send c).track = s.track := rfl
@[simp] theorem State.send_rate (c) : (s.send c).rate = s.rate := rfl
@[simp] theorem State.send_cls (c) : (s.send c).cls = s.cls := rfl
@[simp] theorem State.send_sch (c) : (s.send c).sch = s.sch := rfl
@[simp] theorem State.send_phone (c) : (s.send c).phone = s.phone := rfl
@[simp] theorem State.send_voice (c) : (s.send c).voice = s.voice := rfl
@[simp] theorem State.send_supply (c) : (s.send c).supply = s.supply := rfl
@[simp] theorem State.send_mon (c) : (s.send c).mon = s.mon := rfl
@[simp] theorem State.send_evt (c) : (s.send c).evt = s.evt := rfl
@[simp] theorem State.send_agent (c) : (s.send c).agent = s.agent := rfl
@[simp] theorem State.send_out (c) : (s.send c).out = { s.out with commands := s.out.commands ++ [c] } := rfl

@[simp] theorem State.params_eq : s.params = s.agent.params := rfl

end Sys2Proof.Machine
end

