-- ==== Sys2Proof/Laws/Events.lean ====
section
/-! SUPPORT. What raising an occurrence, entering a condition and recomputing the rates can change: the event unit, the
watches, and the management egress queue (through a notice), and nothing else. -/

namespace Sys2Proof.Machine

theorem Quiet.refl (s : State) : Quiet s s := by constructor <;> rfl

theorem Quiet.trans {s t u : State} (h : Quiet s t) (k : Quiet t u) : Quiet s u := by
  constructor <;> first
    | (rw [k.mon, h.mon])
    | exact k.pending.trans h.pending
    | exact k.due.trans h.due
    | exact k.time.trans h.time
    | exact k.line.trans h.line
    | exact k.load.trans h.load
    | exact k.track.trans h.track
    | exact k.rate.trans h.rate
    | exact k.sch.trans h.sch
    | exact k.phone.trans h.phone
    | exact k.voice.trans h.voice
    | exact k.supply.trans h.supply
    | exact k.agent.trans h.agent
    | exact k.out.trans h.out
    | exact k.table.trans h.table
    | exact k.homeQueue.trans h.homeQueue

theorem Quiet.frame {s t : State} (q : Quiet s t) :
    t.pending = s.pending ∧ t.due = s.due ∧ t.time = s.time ∧ t.line = s.line ∧ t.load = s.load ∧ t.track = s.track ∧
    t.rate = s.rate ∧ t.sch = s.sch ∧ t.phone = s.phone ∧ t.voice = s.voice ∧ t.supply = s.supply ∧
    t.agent = s.agent ∧ t.out = s.out ∧ t.cls.table = s.cls.table ∧ t.cls.homeQueue = s.cls.homeQueue :=
  ⟨q.pending, q.due, q.time, q.line, q.load, q.track, q.rate, q.sch,
    q.phone, q.voice, q.supply, q.agent, q.out, q.table, q.homeQueue⟩

/-! ## The steps of an occurrence -/

@[simp] theorem portTake_table (c : Classifier) : (portTake c).table = c.table := by unfold portTake; split <;> rfl

@[simp] theorem portTake_homeQueue (c : Classifier) : (portTake c).homeQueue = c.homeQueue := by
  unfold portTake; split <;> rfl

@[simp] theorem portTake_mgmtQueue (c : Classifier) : (portTake c).mgmtQueue = c.mgmtQueue := by
  unfold portTake; split <;> rfl

theorem mgmtOffer_quiet {f : MgmtFrame} {s t : State} (h : mgmtOffer f s = some t) : Quiet s t := by
  unfold mgmtOffer at h
  split at h
  · cases h
    constructor <;> simp [portTake_table, portTake_homeQueue]
  · cases h

theorem mgmtOffer_evt {f : MgmtFrame} {s t : State} (h : mgmtOffer f s = some t) : t.evt = s.evt ∧ t.mon = s.mon := by
  unfold mgmtOffer at h
  split at h
  · cases h; simp
  · cases h

theorem modEvt_quiet (s : State) (f : EventUnit → EventUnit) : Quiet s (s.modEvt f) := by
  constructor <;> simp

theorem offerNotice_quiet (s : State) : Quiet s (offerNotice s) := by
  unfold offerNotice
  split
  · split
    · exact (mgmtOffer_quiet ‹_›).trans (modEvt_quiet _ _)
    · exact modEvt_quiet _ _
  · exact Quiet.refl s

theorem writeLog_quiet (e : Event) (s : State) : Quiet s (writeLog e s) := by
  unfold writeLog; exact modEvt_quiet _ _

theorem takeOccurrence_quiet (e : Event) (s : State) : Quiet s (takeOccurrence e s) := by
  unfold takeOccurrence
  dsimp only
  split
  · exact (modEvt_quiet _ _).trans (writeLog_quiet _ _)
  · exact modEvt_quiet _ _

theorem countWatch_quiet (i : Ix4) (s : State) : Quiet s (countWatch i s) := by
  constructor <;> simp [countWatch]

/-- A fold of quiet steps is quiet. -/
theorem foldl_quiet {α : Type} (f : State → α → State) (h : ∀ t a, Quiet t (f t a)) (l : List α) (s : State) :
    Quiet s (l.foldl f s) := by
  induction l generalizing s with
  | nil => exact Quiet.refl s
  | cons a l ih => exact (h s a).trans (ih _)

theorem fireWith_quiet (r : Event → State → State) (h : ∀ e t, Quiet t (r e t)) (p : WatchSource → Bool) (s : State) :
    Quiet s (fireWith r p s) := by
  refine foldl_quiet _ (fun t i => ?_) _ s
  dsimp only
  split
  · split
    · exact (countWatch_quiet i t).trans (h _ _)
    · exact countWatch_quiet i t
  · exact Quiet.refl t

theorem raiseAt_quiet (n : Nat) (e : Event) (s : State) : Quiet s (raiseAt n e s) := by
  induction n generalizing e s with
  | zero => exact Quiet.refl s
  | succ n ih =>
    exact ((takeOccurrence_quiet e s).trans (offerNotice_quiet _)).trans (fireWith_quiet _ (fun e t => ih e t) _ _)

/-- R148: raising an occurrence touches the event unit, the watches and the management egress queue alone. -/
theorem raise_quiet (e : Event) (s : State) : Quiet s (raise e s) := raiseAt_quiet 5 e s

theorem enterCondition_quiet (c : Condition) (s : State) : Quiet s (enterCondition c s) :=
  fireWith_quiet _ raise_quiet _ s

theorem seeMessage_quiet (b : Bool) (k : MsgKind) (s : State) : Quiet s (seeMessage b k s) :=
  fireWith_quiet _ raise_quiet _ s

theorem countTimeWatches_quiet (s : State) : Quiet s (countTimeWatches s) := fireWith_quiet _ raise_quiet _ s

/-! ## Field by field -/

@[simp] theorem raise_frame (e : Event) (s : State) :
    (raise e s).pending = s.pending ∧ (raise e s).due = s.due ∧ (raise e s).time = s.time ∧
    (raise e s).line = s.line ∧ (raise e s).load = s.load ∧ (raise e s).track = s.track ∧ (raise e s).rate = s.rate ∧
    (raise e s).sch = s.sch ∧ (raise e s).phone = s.phone ∧ (raise e s).voice = s.voice ∧
    (raise e s).supply = s.supply ∧ (raise e s).agent = s.agent ∧ (raise e s).out = s.out ∧
    (raise e s).cls.table = s.cls.table ∧ (raise e s).cls.homeQueue = s.cls.homeQueue :=
  (raise_quiet e s).frame

@[simp] theorem enterCondition_frame (c : Condition) (s : State) :
    (enterCondition c s).pending = s.pending ∧ (enterCondition c s).due = s.due ∧
    (enterCondition c s).time = s.time ∧ (enterCondition c s).line = s.line ∧ (enterCondition c s).load = s.load ∧
    (enterCondition c s).track = s.track ∧ (enterCondition c s).rate = s.rate ∧ (enterCondition c s).sch = s.sch ∧
    (enterCondition c s).phone = s.phone ∧ (enterCondition c s).voice = s.voice ∧
    (enterCondition c s).supply = s.supply ∧ (enterCondition c s).agent = s.agent ∧
    (enterCondition c s).out = s.out ∧ (enterCondition c s).cls.table = s.cls.table ∧
    (enterCondition c s).cls.homeQueue = s.cls.homeQueue :=
  (enterCondition_quiet c s).frame

@[simp] theorem seeMessage_frame (b : Bool) (k : MsgKind) (s : State) :
    (seeMessage b k s).pending = s.pending ∧ (seeMessage b k s).due = s.due ∧ (seeMessage b k s).time = s.time ∧
    (seeMessage b k s).line = s.line ∧ (seeMessage b k s).load = s.load ∧ (seeMessage b k s).track = s.track ∧
    (seeMessage b k s).rate = s.rate ∧ (seeMessage b k s).sch = s.sch ∧ (seeMessage b k s).phone = s.phone ∧
    (seeMessage b k s).voice = s.voice ∧ (seeMessage b k s).supply = s.supply ∧ (seeMessage b k s).agent = s.agent ∧
    (seeMessage b k s).out = s.out ∧ (seeMessage b k s).cls.table = s.cls.table ∧
    (seeMessage b k s).cls.homeQueue = s.cls.homeQueue :=
  (seeMessage_quiet b k s).frame

@[simp] theorem countTimeWatches_frame (s : State) :
    (countTimeWatches s).pending = s.pending ∧ (countTimeWatches s).due = s.due ∧
    (countTimeWatches s).time = s.time ∧ (countTimeWatches s).line = s.line ∧ (countTimeWatches s).load = s.load ∧
    (countTimeWatches s).track = s.track ∧ (countTimeWatches s).rate = s.rate ∧ (countTimeWatches s).sch = s.sch ∧
    (countTimeWatches s).phone = s.phone ∧ (countTimeWatches s).voice = s.voice ∧
    (countTimeWatches s).supply = s.supply ∧ (countTimeWatches s).agent = s.agent ∧
    (countTimeWatches s).out = s.out ∧ (countTimeWatches s).cls.table = s.cls.table ∧
    (countTimeWatches s).cls.homeQueue = s.cls.homeQueue :=
  (countTimeWatches_quiet s).frame

@[simp] theorem offerNotice_frame (s : State) :
    (offerNotice s).pending = s.pending ∧ (offerNotice s).due = s.due ∧ (offerNotice s).time = s.time ∧
    (offerNotice s).line = s.line ∧ (offerNotice s).load = s.load ∧ (offerNotice s).track = s.track ∧
    (offerNotice s).rate = s.rate ∧ (offerNotice s).sch = s.sch ∧ (offerNotice s).phone = s.phone ∧
    (offerNotice s).voice = s.voice ∧ (offerNotice s).supply = s.supply ∧ (offerNotice s).agent = s.agent ∧
    (offerNotice s).out = s.out ∧ (offerNotice s).cls.table = s.cls.table ∧
    (offerNotice s).cls.homeQueue = s.cls.homeQueue :=
  (offerNotice_quiet s).frame

/-! ## The rate unit -/

/-- R66: recomputing replaces the rate record; an entry into a binding limit is all else it brings. -/
theorem recompute_quiet (s : State) : Quiet (s.setRate (rateRecord s)) (recompute s) := by
  unfold recompute
  dsimp only
  split
  · split
    · exact Quiet.refl _
    · exact enterCondition_quiet _ _
  · exact Quiet.refl _

/-- R61 to R67: the record that a recomputation leaves is the one the inputs of the moment give. -/
@[simp] theorem recompute_rate (s : State) : (recompute s).rate = rateRecord s := (recompute_quiet s).rate

@[simp] theorem recompute_frame (s : State) :
    (recompute s).pending = s.pending ∧ (recompute s).due = s.due ∧ (recompute s).time = s.time ∧
    (recompute s).line = s.line ∧ (recompute s).load = s.load ∧ (recompute s).track = s.track ∧
    (recompute s).sch = s.sch ∧ (recompute s).phone = s.phone ∧ (recompute s).voice = s.voice ∧
    (recompute s).supply = s.supply ∧ (recompute s).agent = s.agent ∧ (recompute s).out = s.out ∧
    (recompute s).cls.table = s.cls.table ∧ (recompute s).cls.homeQueue = s.cls.homeQueue := by
  have q := recompute_quiet s
  exact ⟨q.pending, q.due, q.time, q.line, q.load, q.track, q.sch, q.phone,
    q.voice, q.supply, q.agent, q.out, q.table, q.homeQueue⟩

end Sys2Proof.Machine
end

