-- ==== Sys2Proof/Laws/Steps.lean ====
section
/-! SUPPORT. How a step is made of its parts: settling, taking a due step, the agent's turn; and the one induction that
every invariant of the machine goes through. -/

namespace Sys2Proof.Machine

/-! ## Due steps -/

/-- Taking a step that is not due changes nothing. -/
theorem takeDue_of_not_mem {d : Due} {s : State} (h : d ∉ s.due) : takeDue d s = s := by simp [takeDue, h]

/-- Taking a due step runs it on the state in which it is due no longer. -/
theorem takeDue_of_mem {d : Due} {s : State} (h : d ∈ s.due) : takeDue d s = runDue d (s.setDue (s.due.erase d)) := by
  simp [takeDue, h]

/-- With no step due, settling changes nothing. -/
theorem settle_of_due_nil {s : State} (h : s.due = []) : settle s = s := by simp [settle, drain, h]

/-- What running a due step and dropping due steps keep, taking one keeps. -/
theorem takeDue_keeps {P : State → Prop} (due : ∀ s x, P s → P (s.setDue x)) (run : ∀ d s, P s → P (runDue d s))
    (d : Due) {s : State} (h : P s) : P (takeDue d s) := by
  unfold takeDue
  split
  · exact run _ _ (due _ _ h)
  · exact h

theorem takeFirst_keeps {P : State → Prop} (due : ∀ s x, P s → P (s.setDue x)) (run : ∀ d s, P s → P (runDue d s))
    (p : Due → Bool) {s : State} (h : P s) : P (takeFirst p s) := by
  unfold takeFirst
  split
  · exact takeDue_keeps due run _ h
  · exact h

theorem drain_keeps {P : State → Prop} (due : ∀ s x, P s → P (s.setDue x)) (run : ∀ d s, P s → P (runDue d s))
    {s : State} (h : P s) : P (drain s) := by
  unfold drain
  generalize s.due = l
  induction l generalizing s with
  | nil => exact h
  | cons d l ih => exact ih (takeDue_keeps due run d h)

/-- What running a due step and dropping due steps keep, settling keeps. -/
theorem settle_keeps {P : State → Prop} (due : ∀ s x, P s → P (s.setDue x)) (run : ∀ d s, P s → P (runDue d s))
    {s : State} (h : P s) : P (settle s) := drain_keeps due run (drain_keeps due run h)

/-! ## The agent's turn -/

@[simp] theorem answerReadTable_state (r : Request) (s : State) : (answerReadTable r s).state = s := by
  simp only [answerReadTable]; repeat' split
  all_goals rfl

@[simp] theorem answerReadStatus_state (r : Request) (s : State) : (answerReadStatus r s).state = s := by
  simp only [answerReadStatus]; repeat' split
  all_goals rfl

@[simp] theorem answerReadCounters_state (r : Request) (s : State) : (answerReadCounters r s).state = s := by
  simp only [answerReadCounters]; repeat' split
  all_goals rfl

@[simp] theorem answerReadHistory_state (r : Request) (s : State) : (answerReadHistory r s).state = s := by
  simp only [answerReadHistory]; repeat' split
  all_goals rfl

@[simp] theorem answerBadKind_state (r : Request) (s : State) : (answerBadKind r s).state = s := rfl

/-- What taking a request, its handler and offering a reply keep, the agent's turn keeps. -/
theorem runRequest_keeps {P : State → Prop} (pop : ∀ s q, P s → P (s.modAgent fun a => { a with queue := q }))
    (reply : ∀ f s, P s → P (offerReply f s)) (row : RequestRow) (h : Request → State → Answer)
    (answer : ∀ r s, P s → P (h r s).state) {s : State} (hs : P s) : P (runRequest row h s) := by
  unfold runRequest
  split
  · exact hs
  · split
    · exact reply _ _ (answer _ _ (pop _ _ hs))
    · exact hs

/-! ## The induction -/

/-- Everything a step is made of keeps `P`. -/
structure Kept (P : State → Prop) : Prop where
  queue : ∀ s q, P s → P { s with pending := q }
  powerOn : ∀ q, P { State.reset with pending := q }
  due : ∀ s x, P s → P (s.setDue x)
  run : ∀ d s, P s → P (runDue d s)
  tick : ∀ a b s, P s → P (tickStep a b s)
  trained : ∀ r s, P s → P (trainedStep r s)
  trainFailed : ∀ r s, P s → P (trainFailedStep r s)
  signalLost : ∀ s, P s → P (signalLostStep s)
  frameReport : ∀ r s, P s → P (frameReportStep r s)
  marginReport : ∀ r s, P s → P (marginReportStep r s)
  pull : ∀ s, P s → P (pullUnit s)
  receive : ∀ u d s, P s → P (receiveUnit u d s)
  homeArrival : ∀ f b s, P s → P (homeArrival f b s)
  finishSending : ∀ s, P s → P (finishSending s)
  sample : ∀ x y s, P s → P (sampleStep x y s)
  pop : ∀ s q, P s → P (s.modAgent fun a => { a with queue := q })
  reply : ∀ f s, P s → P (offerReply f s)
  writeTable : ∀ r s, P s → P (answerWriteTable r s).state
  writeOn : ∀ r s, P s → P (answerWriteOn r s).state
  readLog : ∀ r s, P s → P (answerReadLog r s).state
  readEvents : ∀ r s, P s → P (answerReadEvents r s).state
  clearEvents : ∀ r s, P s → P (answerClearEvents r s).state
  start : ∀ r s, P s → P (answerStart r s).state
  stop : ∀ r s, P s → P (answerStop r s).state
  retrain : ∀ r s, P s → P (answerRetrain r s).state
  openLine : ∀ r s, P s → P (answerOpenLine r s).state
  openIntercom : ∀ r s, P s → P (answerOpenIntercom r s).state
  close : ∀ r s, P s → P (answerClose r s).state
  ring : ∀ r s, P s → P (answerRing r s).state
  ringStop : ∀ r s, P s → P (answerRingStop r s).state
  portControl : ∀ r s, P s → P (answerPortControl r s).state
  hostSleep : ∀ r s, P s → P (answerHostSleep r s).state
  setPartition : ∀ r s, P s → P (answerSetPartition r s).state
  resetPart : ∀ r s, P s → P (answerResetPart r s).state
  resetLine : ∀ r s, P s → P (answerResetLine r s).state
  resetTraffic : ∀ r s, P s → P (answerResetTraffic r s).state
  resetVoice : ∀ r s, P s → P (answerResetVoice r s).state
  resetMonitor : ∀ r s, P s → P (answerResetMonitor r s).state

/-- An invariant that every part keeps, every step keeps. -/
theorem Kept.step {P : State → Prop} (k : Kept P) {s t : State} (hs : P s) (h : Machine.step s = .next t) : P t := by
  have S : ∀ {x}, P x → P (settle x) := settle_keeps k.due k.run
  have D : ∀ d {x}, P x → P (takeDue d x) := fun d {x} => takeDue_keeps k.due k.run d
  have F : ∀ p {x}, P x → P (takeFirst p x) := fun p {x} => takeFirst_keeps k.due k.run p
  have R : ∀ row f, (∀ r x, P x → P (f r x).state) → ∀ {x}, P x → P (runRequest row f x) :=
    fun row f ha {x} => runRequest_keeps k.pop k.reply row f ha
  have read : ∀ {f : Request → State → Answer}, (∀ r x, (f r x).state = x) → ∀ r x, P x → P (f r x).state :=
    fun hf r x hx => (hf r x).symm ▸ hx
  unfold Machine.step at h
  split at h
  · cases h; exact hs
  · rename_i c rest _
    have hq := k.queue s rest hs
    generalize { s with pending := rest } = u at h hq
    cases c <;> (dsimp only [exec] at h; cases h)
    · exact k.powerOn _
    · exact k.tick _ _ _ (S hq)
    · exact D _ hq
    · exact D _ hq
    · exact k.trained _ _ (S hq)
    · exact k.trainFailed _ _ (S hq)
    · exact k.signalLost _ (S hq)
    · exact k.frameReport _ _ (S hq)
    · exact D _ hq
    · exact D _ hq
    · exact D _ hq
    · exact D _ hq
    · exact D _ hq
    · exact k.marginReport _ _ (S hq)
    · exact D _ hq
    · exact D _ hq
    · exact D _ hq
    · exact k.pull _ (S hq)
    · exact k.receive _ _ _ (S hq)
    · exact F _ hq
    · exact F _ hq
    · exact F _ hq
    · exact F _ hq
    · exact F _ hq
    · exact F _ hq
    · exact F _ hq
    · exact F _ hq
    · exact k.homeArrival _ _ _ (S hq)
    · exact k.finishSending _ (S hq)
    · exact D _ (D _ (D _ (D _ hq)))
    · exact D _ hq
    · exact D _ hq
    · exact D _ hq
    · exact D _ hq
    · exact D _ hq
    · exact D _ hq
    · exact D _ hq
    · exact R _ _ (read answerReadTable_state) (S hq)
    · exact R _ _ k.writeTable (S hq)
    · exact R _ _ k.writeOn (S hq)
    · exact R _ _ (read answerReadStatus_state) (S hq)
    · exact R _ _ (read answerReadCounters_state) (S hq)
    · exact R _ _ (read answerReadHistory_state) (S hq)
    · exact R _ _ k.readLog (S hq)
    · exact R _ _ k.readEvents (S hq)
    · exact R _ _ k.clearEvents (S hq)
    · exact R _ _ k.start (S hq)
    · exact R _ _ k.stop (S hq)
    · exact R _ _ k.retrain (S hq)
    · exact R _ _ k.openLine (S hq)
    · exact R _ _ k.openIntercom (S hq)
    · exact R _ _ k.close (S hq)
    · exact R _ _ k.ring (S hq)
    · exact R _ _ k.ringStop (S hq)
    · exact R _ _ k.portControl (S hq)
    · exact R _ _ k.hostSleep (S hq)
    · exact R _ _ k.setPartition (S hq)
    · exact R _ _ k.resetPart (S hq)
    · exact D _ hq
    · exact R _ _ k.resetLine (S hq)
    · exact R _ _ k.resetTraffic (S hq)
    · exact R _ _ k.resetVoice (S hq)
    · exact R _ _ k.resetMonitor (S hq)
    · exact R _ _ (read answerBadKind_state) (S hq)
    · exact k.sample _ _ _ (S hq)

end Sys2Proof.Machine
end

