-- ==== Sys2Proof/Laws/Frames.lean ====
section
/-! SUPPORT. What each shared operation leaves as it was: one theorem per operation, naming every block (or part of a
block) that it cannot change. What is not named, it may change. -/

namespace Sys2Proof.Machine

/-- What every step of a fold keeps, the fold keeps. -/
theorem foldl_keep {α β : Type} (g : State → β) (f : State → α → State) (h : ∀ t a, g (f t a) = g t) (l : List α)
    (s : State) : g (l.foldl f s) = g s := by
  induction l generalizing s with
  | nil => rfl
  | cons a l ih => exact (ih _).trans (h s a)

@[simp] theorem mqOffer_frame (s : State) (m : Message) :
    (mqOffer m s).pending = s.pending ∧ (mqOffer m s).due = s.due ∧ (mqOffer m s).time = s.time ∧
    (mqOffer m s).line = s.line ∧ (mqOffer m s).load = s.load ∧ (mqOffer m s).track = s.track ∧
    (mqOffer m s).rate = s.rate ∧ (mqOffer m s).cls = s.cls ∧ (mqOffer m s).phone = s.phone ∧
    (mqOffer m s).voice = s.voice ∧ (mqOffer m s).supply = s.supply ∧ (mqOffer m s).evt = s.evt ∧
    (mqOffer m s).agent = s.agent ∧ (mqOffer m s).out = s.out := by
  simp only [mqOffer]; repeat' split
  all_goals simp

@[simp] theorem guardCountdown_frame (s : State) (d : Direction) :
    (guardCountdown d s).pending = s.pending ∧ (guardCountdown d s).due = s.due ∧
    (guardCountdown d s).time = s.time ∧ (guardCountdown d s).line = s.line ∧ (guardCountdown d s).load = s.load ∧
    (guardCountdown d s).rate = s.rate ∧ (guardCountdown d s).cls = s.cls ∧ (guardCountdown d s).sch = s.sch ∧
    (guardCountdown d s).phone = s.phone ∧ (guardCountdown d s).voice = s.voice ∧
    (guardCountdown d s).supply = s.supply ∧ (guardCountdown d s).mon = s.mon ∧ (guardCountdown d s).evt = s.evt ∧
    (guardCountdown d s).agent = s.agent ∧ (guardCountdown d s).out = s.out := by
  simp only [guardCountdown]
  simp

@[simp] theorem installProtection_frame (s : State) (d : Direction) (p : Protection) :
    (installProtection d p s).pending = s.pending ∧ (installProtection d p s).due = s.due ∧
    (installProtection d p s).time = s.time ∧ (installProtection d p s).line = s.line ∧
    (installProtection d p s).rate = s.rate ∧ (installProtection d p s).sch = s.sch ∧
    (installProtection d p s).phone = s.phone ∧ (installProtection d p s).voice = s.voice ∧
    (installProtection d p s).supply = s.supply ∧ (installProtection d p s).agent = s.agent ∧
    (installProtection d p s).out = s.out ∧ (installProtection d p s).cls.table = s.cls.table ∧
    (installProtection d p s).cls.homeQueue = s.cls.homeQueue := by
  simp only [installProtection]; repeat' split
  all_goals simp

@[simp] theorem missTest_frame (s : State) (c : Word32) :
    (missTest c s).pending = s.pending ∧ (missTest c s).due = s.due ∧ (missTest c s).time = s.time ∧
    (missTest c s).line = s.line ∧ (missTest c s).load = s.load ∧ (missTest c s).rate = s.rate ∧
    (missTest c s).sch = s.sch ∧ (missTest c s).phone = s.phone ∧ (missTest c s).voice = s.voice ∧
    (missTest c s).supply = s.supply ∧ (missTest c s).agent = s.agent ∧ (missTest c s).out = s.out ∧
    (missTest c s).cls.table = s.cls.table ∧ (missTest c s).cls.homeQueue = s.cls.homeQueue := by
  simp only [missTest]; repeat' split
  all_goals simp

@[simp] theorem trackBurst_frame (s : State) (b : Burst) :
    (trackBurst b s).pending = s.pending ∧ (trackBurst b s).due = s.due ∧ (trackBurst b s).time = s.time ∧
    (trackBurst b s).line = s.line ∧ (trackBurst b s).load = s.load ∧ (trackBurst b s).rate = s.rate ∧
    (trackBurst b s).sch = s.sch ∧ (trackBurst b s).phone = s.phone ∧ (trackBurst b s).voice = s.voice ∧
    (trackBurst b s).supply = s.supply ∧ (trackBurst b s).agent = s.agent ∧ (trackBurst b s).out = s.out ∧
    (trackBurst b s).cls.table = s.cls.table ∧ (trackBurst b s).cls.homeQueue = s.cls.homeQueue := by
  simp only [trackBurst]; repeat' split
  all_goals simp

@[simp] theorem takeBurst_frame (s : State) (b : Burst) :
    (takeBurst s b).pending = s.pending ∧ (takeBurst s b).due = s.due ∧ (takeBurst s b).time = s.time ∧
    (takeBurst s b).line = s.line ∧ (takeBurst s b).load = s.load ∧ (takeBurst s b).rate = s.rate ∧
    (takeBurst s b).sch = s.sch ∧ (takeBurst s b).phone = s.phone ∧ (takeBurst s b).voice = s.voice ∧
    (takeBurst s b).supply = s.supply ∧ (takeBurst s b).agent = s.agent ∧ (takeBurst s b).out = s.out ∧
    (takeBurst s b).cls.table = s.cls.table ∧ (takeBurst s b).cls.homeQueue = s.cls.homeQueue := by
  simp only [takeBurst]; repeat' split
  all_goals simp

@[simp] theorem decideProtection_frame (s : State) :
    (decideProtection s).pending = s.pending ∧ (decideProtection s).due = s.due ∧
    (decideProtection s).time = s.time ∧ (decideProtection s).line = s.line ∧ (decideProtection s).load = s.load ∧
    (decideProtection s).rate = s.rate ∧ (decideProtection s).cls = s.cls ∧ (decideProtection s).sch = s.sch ∧
    (decideProtection s).phone = s.phone ∧ (decideProtection s).voice = s.voice ∧
    (decideProtection s).supply = s.supply ∧ (decideProtection s).mon = s.mon ∧ (decideProtection s).evt = s.evt ∧
    (decideProtection s).agent = s.agent ∧ (decideProtection s).out = s.out := by
  simp only [decideProtection]
  simp

@[simp] theorem admitFrame_frame (s : State) (i : Ix4) (f : Bytes) :
    (admitFrame i f s).pending = s.pending ∧ (admitFrame i f s).due = s.due ∧ (admitFrame i f s).time = s.time ∧
    (admitFrame i f s).line = s.line ∧ (admitFrame i f s).load = s.load ∧ (admitFrame i f s).track = s.track ∧
    (admitFrame i f s).rate = s.rate ∧ (admitFrame i f s).cls = s.cls ∧ (admitFrame i f s).phone = s.phone ∧
    (admitFrame i f s).voice = s.voice ∧ (admitFrame i f s).supply = s.supply ∧ (admitFrame i f s).evt = s.evt ∧
    (admitFrame i f s).agent = s.agent ∧ (admitFrame i f s).out = s.out := by
  simp only [admitFrame]; repeat' split
  all_goals simp

@[simp] theorem applyLimit_frame (s : State) (i : Ix4) :
    (applyLimit i s).pending = s.pending ∧ (applyLimit i s).due = s.due ∧ (applyLimit i s).time = s.time ∧
    (applyLimit i s).line = s.line ∧ (applyLimit i s).load = s.load ∧ (applyLimit i s).track = s.track ∧
    (applyLimit i s).rate = s.rate ∧ (applyLimit i s).cls = s.cls ∧ (applyLimit i s).phone = s.phone ∧
    (applyLimit i s).voice = s.voice ∧ (applyLimit i s).supply = s.supply ∧ (applyLimit i s).evt = s.evt ∧
    (applyLimit i s).agent = s.agent ∧ (applyLimit i s).out = s.out := by
  simp only [applyLimit]; repeat' split
  all_goals simp

@[simp] theorem dropStale_frame (s : State) (i : Ix4) :
    (dropStale i s).pending = s.pending ∧ (dropStale i s).due = s.due ∧ (dropStale i s).time = s.time ∧
    (dropStale i s).line = s.line ∧ (dropStale i s).load = s.load ∧ (dropStale i s).track = s.track ∧
    (dropStale i s).rate = s.rate ∧ (dropStale i s).cls = s.cls ∧ (dropStale i s).phone = s.phone ∧
    (dropStale i s).voice = s.voice ∧ (dropStale i s).supply = s.supply ∧ (dropStale i s).evt = s.evt ∧
    (dropStale i s).agent = s.agent ∧ (dropStale i s).out = s.out := by
  simp only [dropStale]; repeat' split
  all_goals simp

@[simp] theorem staleSweep_frame (s : State) :
    (staleSweep s).pending = s.pending ∧ (staleSweep s).due = s.due ∧ (staleSweep s).time = s.time ∧
    (staleSweep s).line = s.line ∧ (staleSweep s).load = s.load ∧ (staleSweep s).track = s.track ∧
    (staleSweep s).rate = s.rate ∧ (staleSweep s).cls = s.cls ∧ (staleSweep s).phone = s.phone ∧
    (staleSweep s).voice = s.voice ∧ (staleSweep s).supply = s.supply ∧ (staleSweep s).evt = s.evt ∧
    (staleSweep s).agent = s.agent ∧ (staleSweep s).out = s.out := by
  unfold staleSweep
  exact ⟨foldl_keep (fun t : State => t.pending) _ (fun t a => by simp) _ _,
    foldl_keep (fun t : State => t.due) _ (fun t a => by simp) _ _,
    foldl_keep (fun t : State => t.time) _ (fun t a => by simp) _ _,
    foldl_keep (fun t : State => t.line) _ (fun t a => by simp) _ _,
    foldl_keep (fun t : State => t.load) _ (fun t a => by simp) _ _,
    foldl_keep (fun t : State => t.track) _ (fun t a => by simp) _ _,
    foldl_keep (fun t : State => t.rate) _ (fun t a => by simp) _ _,
    foldl_keep (fun t : State => t.cls) _ (fun t a => by simp) _ _,
    foldl_keep (fun t : State => t.phone) _ (fun t a => by simp) _ _,
    foldl_keep (fun t : State => t.voice) _ (fun t a => by simp) _ _,
    foldl_keep (fun t : State => t.supply) _ (fun t a => by simp) _ _,
    foldl_keep (fun t : State => t.evt) _ (fun t a => by simp) _ _,
    foldl_keep (fun t : State => t.agent) _ (fun t a => by simp) _ _,
    foldl_keep (fun t : State => t.out) _ (fun t a => by simp) _ _⟩

@[simp] theorem flushShed_frame (s : State) (i : Ix4) :
    (flushShed i s).pending = s.pending ∧ (flushShed i s).due = s.due ∧ (flushShed i s).time = s.time ∧
    (flushShed i s).line = s.line ∧ (flushShed i s).load = s.load ∧ (flushShed i s).track = s.track ∧
    (flushShed i s).rate = s.rate ∧ (flushShed i s).cls = s.cls ∧ (flushShed i s).phone = s.phone ∧
    (flushShed i s).voice = s.voice ∧ (flushShed i s).supply = s.supply ∧ (flushShed i s).evt = s.evt ∧
    (flushShed i s).agent = s.agent ∧ (flushShed i s).out = s.out := by
  simp only [flushShed]; repeat' split
  all_goals simp

@[simp] theorem setShedLevel_frame (s : State) (l : Nat) :
    (setShedLevel l s).pending = s.pending ∧ (setShedLevel l s).due = s.due ∧ (setShedLevel l s).time = s.time ∧
    (setShedLevel l s).line = s.line ∧ (setShedLevel l s).load = s.load ∧ (setShedLevel l s).track = s.track ∧
    (setShedLevel l s).rate = s.rate ∧ (setShedLevel l s).cls = s.cls ∧ (setShedLevel l s).phone = s.phone ∧
    (setShedLevel l s).voice = s.voice ∧ (setShedLevel l s).supply = s.supply ∧ (setShedLevel l s).evt = s.evt ∧
    (setShedLevel l s).agent = s.agent ∧ (setShedLevel l s).out = s.out := by
  unfold setShedLevel
  exact ⟨(foldl_keep (fun t : State => t.pending) _ (fun t a => by split <;> simp) _ _).trans (by simp),
    (foldl_keep (fun t : State => t.due) _ (fun t a => by split <;> simp) _ _).trans (by simp),
    (foldl_keep (fun t : State => t.time) _ (fun t a => by split <;> simp) _ _).trans (by simp),
    (foldl_keep (fun t : State => t.line) _ (fun t a => by split <;> simp) _ _).trans (by simp),
    (foldl_keep (fun t : State => t.load) _ (fun t a => by split <;> simp) _ _).trans (by simp),
    (foldl_keep (fun t : State => t.track) _ (fun t a => by split <;> simp) _ _).trans (by simp),
    (foldl_keep (fun t : State => t.rate) _ (fun t a => by split <;> simp) _ _).trans (by simp),
    (foldl_keep (fun t : State => t.cls) _ (fun t a => by split <;> simp) _ _).trans (by simp),
    (foldl_keep (fun t : State => t.phone) _ (fun t a => by split <;> simp) _ _).trans (by simp),
    (foldl_keep (fun t : State => t.voice) _ (fun t a => by split <;> simp) _ _).trans (by simp),
    (foldl_keep (fun t : State => t.supply) _ (fun t a => by split <;> simp) _ _).trans (by simp),
    (foldl_keep (fun t : State => t.evt) _ (fun t a => by split <;> simp) _ _).trans (by simp),
    (foldl_keep (fun t : State => t.agent) _ (fun t a => by split <;> simp) _ _).trans (by simp),
    (foldl_keep (fun t : State => t.out) _ (fun t a => by split <;> simp) _ _).trans (by simp)⟩

@[simp] theorem vqDrop_frame (s : State) (p : PortId) :
    (vqDrop p s).pending = s.pending ∧ (vqDrop p s).due = s.due ∧ (vqDrop p s).time = s.time ∧
    (vqDrop p s).line = s.line ∧ (vqDrop p s).load = s.load ∧ (vqDrop p s).track = s.track ∧
    (vqDrop p s).rate = s.rate ∧ (vqDrop p s).phone = s.phone ∧ (vqDrop p s).supply = s.supply ∧
    (vqDrop p s).agent = s.agent ∧ (vqDrop p s).out = s.out ∧ (vqDrop p s).cls.table = s.cls.table ∧
    (vqDrop p s).cls.homeQueue = s.cls.homeQueue := by
  simp only [vqDrop, countVqDrop]
  simp

@[simp] theorem vqOffer_frame (s : State) (f : VqFrame) :
    (vqOffer f s).pending = s.pending ∧ (vqOffer f s).due = s.due ∧ (vqOffer f s).time = s.time ∧
    (vqOffer f s).line = s.line ∧ (vqOffer f s).load = s.load ∧ (vqOffer f s).track = s.track ∧
    (vqOffer f s).rate = s.rate ∧ (vqOffer f s).phone = s.phone ∧ (vqOffer f s).supply = s.supply ∧
    (vqOffer f s).agent = s.agent ∧ (vqOffer f s).out = s.out ∧ (vqOffer f s).cls.table = s.cls.table ∧
    (vqOffer f s).cls.homeQueue = s.cls.homeQueue := by
  simp only [vqOffer]; repeat' split
  all_goals simp

@[simp] theorem vqRemove_frame (s : State) (p : PortId) :
    (vqRemove p s).pending = s.pending ∧ (vqRemove p s).due = s.due ∧ (vqRemove p s).time = s.time ∧
    (vqRemove p s).line = s.line ∧ (vqRemove p s).load = s.load ∧ (vqRemove p s).track = s.track ∧
    (vqRemove p s).rate = s.rate ∧ (vqRemove p s).cls = s.cls ∧ (vqRemove p s).phone = s.phone ∧
    (vqRemove p s).voice = s.voice ∧ (vqRemove p s).supply = s.supply ∧ (vqRemove p s).mon = s.mon ∧
    (vqRemove p s).evt = s.evt ∧ (vqRemove p s).agent = s.agent ∧ (vqRemove p s).out = s.out := by
  simp only [vqRemove]
  simp

@[simp] theorem schedulerLineDown_frame (s : State) :
    (schedulerLineDown s).pending = s.pending ∧ (schedulerLineDown s).due = s.due ∧
    (schedulerLineDown s).time = s.time ∧ (schedulerLineDown s).line = s.line ∧ (schedulerLineDown s).load = s.load ∧
    (schedulerLineDown s).track = s.track ∧ (schedulerLineDown s).rate = s.rate ∧ (schedulerLineDown s).cls = s.cls ∧
    (schedulerLineDown s).phone = s.phone ∧ (schedulerLineDown s).voice = s.voice ∧
    (schedulerLineDown s).supply = s.supply ∧ (schedulerLineDown s).evt = s.evt ∧
    (schedulerLineDown s).agent = s.agent ∧ (schedulerLineDown s).out = s.out := by
  simp only [schedulerLineDown]; repeat' split
  all_goals simp

@[simp] theorem schedulerLineReset_frame (s : State) :
    (schedulerLineReset s).pending = s.pending ∧ (schedulerLineReset s).due = s.due ∧
    (schedulerLineReset s).time = s.time ∧ (schedulerLineReset s).line = s.line ∧
    (schedulerLineReset s).load = s.load ∧ (schedulerLineReset s).track = s.track ∧
    (schedulerLineReset s).rate = s.rate ∧ (schedulerLineReset s).cls = s.cls ∧
    (schedulerLineReset s).phone = s.phone ∧ (schedulerLineReset s).voice = s.voice ∧
    (schedulerLineReset s).supply = s.supply ∧ (schedulerLineReset s).mon = s.mon ∧
    (schedulerLineReset s).evt = s.evt ∧ (schedulerLineReset s).agent = s.agent ∧ (schedulerLineReset s).out = s.out := by
  simp only [schedulerLineReset]
  simp

@[simp] theorem schedulerTrafficReset_frame (s : State) :
    (schedulerTrafficReset s).pending = s.pending ∧ (schedulerTrafficReset s).due = s.due ∧
    (schedulerTrafficReset s).time = s.time ∧ (schedulerTrafficReset s).line = s.line ∧
    (schedulerTrafficReset s).load = s.load ∧ (schedulerTrafficReset s).track = s.track ∧
    (schedulerTrafficReset s).rate = s.rate ∧ (schedulerTrafficReset s).cls = s.cls ∧
    (schedulerTrafficReset s).phone = s.phone ∧ (schedulerTrafficReset s).voice = s.voice ∧
    (schedulerTrafficReset s).supply = s.supply ∧ (schedulerTrafficReset s).mon = s.mon ∧
    (schedulerTrafficReset s).evt = s.evt ∧ (schedulerTrafficReset s).agent = s.agent ∧
    (schedulerTrafficReset s).out = s.out := by
  simp only [schedulerTrafficReset]
  simp

@[simp] theorem sendCutback_frame (s : State) :
    (sendCutback s).pending = s.pending ∧ (sendCutback s).due = s.due ∧ (sendCutback s).time = s.time ∧
    (sendCutback s).line = s.line ∧ (sendCutback s).track = s.track ∧ (sendCutback s).rate = s.rate ∧
    (sendCutback s).cls = s.cls ∧ (sendCutback s).phone = s.phone ∧ (sendCutback s).voice = s.voice ∧
    (sendCutback s).supply = s.supply ∧ (sendCutback s).evt = s.evt ∧ (sendCutback s).agent = s.agent := by
  simp only [sendCutback]
  simp

@[simp] theorem cutbackTest_frame (s : State) :
    (cutbackTest s).pending = s.pending ∧ (cutbackTest s).due = s.due ∧ (cutbackTest s).time = s.time ∧
    (cutbackTest s).line = s.line ∧ (cutbackTest s).track = s.track ∧ (cutbackTest s).rate = s.rate ∧
    (cutbackTest s).cls = s.cls ∧ (cutbackTest s).phone = s.phone ∧ (cutbackTest s).voice = s.voice ∧
    (cutbackTest s).supply = s.supply ∧ (cutbackTest s).evt = s.evt ∧ (cutbackTest s).agent = s.agent := by
  simp only [cutbackTest]; repeat' split
  all_goals simp

@[simp] theorem leaveRun_frame (s : State) (x : LineState) :
    (leaveRun x s).pending = s.pending ∧ (leaveRun x s).due = s.due ∧ (leaveRun x s).time = s.time ∧
    (leaveRun x s).phone = s.phone ∧ (leaveRun x s).voice = s.voice ∧ (leaveRun x s).supply = s.supply ∧
    (leaveRun x s).agent = s.agent ∧ (leaveRun x s).out = s.out ∧ (leaveRun x s).cls.table = s.cls.table ∧
    (leaveRun x s).cls.homeQueue = s.cls.homeQueue := by
  simp only [leaveRun]
  simp

@[simp] theorem raiseRetrain_frame (s : State) (c : Cause) :
    (raiseRetrain c s).pending = s.pending ∧ (raiseRetrain c s).due = s.due ∧ (raiseRetrain c s).time = s.time ∧
    (raiseRetrain c s).line = s.line ∧ (raiseRetrain c s).load = s.load ∧ (raiseRetrain c s).track = s.track ∧
    (raiseRetrain c s).rate = s.rate ∧ (raiseRetrain c s).sch = s.sch ∧ (raiseRetrain c s).phone = s.phone ∧
    (raiseRetrain c s).voice = s.voice ∧ (raiseRetrain c s).supply = s.supply ∧ (raiseRetrain c s).agent = s.agent ∧
    (raiseRetrain c s).out = s.out ∧ (raiseRetrain c s).cls.table = s.cls.table ∧
    (raiseRetrain c s).cls.homeQueue = s.cls.homeQueue := by
  simp only [raiseRetrain]
  simp

@[simp] theorem enterTraining_frame (s : State) :
    (enterTraining s).pending = s.pending ∧ (enterTraining s).due = s.due ∧ (enterTraining s).time = s.time ∧
    (enterTraining s).load = s.load ∧ (enterTraining s).track = s.track ∧ (enterTraining s).rate = s.rate ∧
    (enterTraining s).cls = s.cls ∧ (enterTraining s).sch = s.sch ∧ (enterTraining s).phone = s.phone ∧
    (enterTraining s).voice = s.voice ∧ (enterTraining s).supply = s.supply ∧ (enterTraining s).mon = s.mon ∧
    (enterTraining s).evt = s.evt ∧ (enterTraining s).agent = s.agent := by
  simp only [enterTraining]
  simp

@[simp] theorem retrainFromRun_frame (s : State) (c : Cause) :
    (retrainFromRun c s).pending = s.pending ∧ (retrainFromRun c s).due = s.due ∧
    (retrainFromRun c s).time = s.time ∧ (retrainFromRun c s).phone = s.phone ∧
    (retrainFromRun c s).voice = s.voice ∧ (retrainFromRun c s).supply = s.supply ∧
    (retrainFromRun c s).agent = s.agent ∧ (retrainFromRun c s).cls.table = s.cls.table ∧
    (retrainFromRun c s).cls.homeQueue = s.cls.homeQueue := by
  simp only [retrainFromRun]; repeat' split
  all_goals simp

@[simp] theorem trainingFailed_frame (s : State) (n : Nat) :
    (trainingFailed n s).pending = s.pending ∧ (trainingFailed n s).due = s.due ∧
    (trainingFailed n s).time = s.time ∧ (trainingFailed n s).load = s.load ∧ (trainingFailed n s).track = s.track ∧
    (trainingFailed n s).rate = s.rate ∧ (trainingFailed n s).sch = s.sch ∧ (trainingFailed n s).phone = s.phone ∧
    (trainingFailed n s).voice = s.voice ∧ (trainingFailed n s).supply = s.supply ∧
    (trainingFailed n s).agent = s.agent ∧ (trainingFailed n s).out = s.out ∧
    (trainingFailed n s).cls.table = s.cls.table ∧ (trainingFailed n s).cls.homeQueue = s.cls.homeQueue := by
  simp only [trainingFailed]
  simp

@[simp] theorem enterRun_frame (s : State) (r : TrainedRecord) (lv : Dirs Level) :
    (enterRun r lv s).pending = s.pending ∧ (enterRun r lv s).due = s.due ∧ (enterRun r lv s).time = s.time ∧
    (enterRun r lv s).phone = s.phone ∧ (enterRun r lv s).voice = s.voice ∧ (enterRun r lv s).supply = s.supply ∧
    (enterRun r lv s).agent = s.agent ∧ (enterRun r lv s).cls.table = s.cls.table ∧
    (enterRun r lv s).cls.homeQueue = s.cls.homeQueue := by
  simp only [enterRun]
  simp

@[simp] theorem sendOffer_frame (s : State) (x : List (Nat × Nat)) (p : Option Protection) :
    (sendOffer x p s).pending = s.pending ∧ (sendOffer x p s).due = s.due ∧ (sendOffer x p s).time = s.time ∧
    (sendOffer x p s).line = s.line ∧ (sendOffer x p s).track = s.track ∧ (sendOffer x p s).rate = s.rate ∧
    (sendOffer x p s).cls = s.cls ∧ (sendOffer x p s).phone = s.phone ∧ (sendOffer x p s).voice = s.voice ∧
    (sendOffer x p s).supply = s.supply ∧ (sendOffer x p s).evt = s.evt ∧ (sendOffer x p s).agent = s.agent := by
  simp only [sendOffer]
  simp

@[simp] theorem buildOffer_frame (s : State) (g : List GroupReport) :
    (buildOffer g s).pending = s.pending ∧ (buildOffer g s).due = s.due ∧ (buildOffer g s).time = s.time ∧
    (buildOffer g s).line = s.line ∧ (buildOffer g s).track = s.track ∧ (buildOffer g s).rate = s.rate ∧
    (buildOffer g s).cls = s.cls ∧ (buildOffer g s).phone = s.phone ∧ (buildOffer g s).voice = s.voice ∧
    (buildOffer g s).supply = s.supply ∧ (buildOffer g s).evt = s.evt ∧ (buildOffer g s).agent = s.agent := by
  simp only [buildOffer]; repeat' split
  all_goals simp

@[simp] theorem loadingMargins_frame (s : State) (r : List Byte) :
    (loadingMargins r s).pending = s.pending ∧ (loadingMargins r s).due = s.due ∧
    (loadingMargins r s).time = s.time ∧ (loadingMargins r s).line = s.line ∧ (loadingMargins r s).track = s.track ∧
    (loadingMargins r s).rate = s.rate ∧ (loadingMargins r s).cls = s.cls ∧ (loadingMargins r s).phone = s.phone ∧
    (loadingMargins r s).voice = s.voice ∧ (loadingMargins r s).supply = s.supply ∧
    (loadingMargins r s).evt = s.evt ∧ (loadingMargins r s).agent = s.agent := by
  simp only [loadingMargins]; repeat' split
  all_goals simp

@[simp] theorem marginRetrain_frame (s : State) :
    (marginRetrain s).pending = s.pending ∧ (marginRetrain s).due = s.due ∧ (marginRetrain s).time = s.time ∧
    (marginRetrain s).phone = s.phone ∧ (marginRetrain s).voice = s.voice ∧ (marginRetrain s).supply = s.supply ∧
    (marginRetrain s).agent = s.agent ∧ (marginRetrain s).cls.table = s.cls.table ∧
    (marginRetrain s).cls.homeQueue = s.cls.homeQueue := by
  simp only [marginRetrain]; repeat' split
  all_goals simp

@[simp] theorem offerFailed_frame (s : State) (n : Nat) (o : OwnOffer) :
    (offerFailed n o s).pending = s.pending ∧ (offerFailed n o s).due = s.due ∧ (offerFailed n o s).time = s.time ∧
    (offerFailed n o s).phone = s.phone ∧ (offerFailed n o s).voice = s.voice ∧
    (offerFailed n o s).supply = s.supply ∧ (offerFailed n o s).agent = s.agent ∧
    (offerFailed n o s).cls.table = s.cls.table ∧ (offerFailed n o s).cls.homeQueue = s.cls.homeQueue := by
  simp only [offerFailed]
  simp

@[simp] theorem switchOffer_frame (s : State) (o : OwnOffer) :
    (switchOffer o s).pending = s.pending ∧ (switchOffer o s).due = s.due ∧ (switchOffer o s).time = s.time ∧
    (switchOffer o s).line = s.line ∧ (switchOffer o s).sch = s.sch ∧ (switchOffer o s).phone = s.phone ∧
    (switchOffer o s).voice = s.voice ∧ (switchOffer o s).supply = s.supply ∧ (switchOffer o s).agent = s.agent ∧
    (switchOffer o s).out = s.out ∧ (switchOffer o s).cls.table = s.cls.table ∧
    (switchOffer o s).cls.homeQueue = s.cls.homeQueue := by
  simp only [switchOffer]; repeat' split
  all_goals simp

@[simp] theorem countAnswer_frame (s : State) (n : Byte) :
    (countAnswer n s).pending = s.pending ∧ (countAnswer n s).due = s.due ∧ (countAnswer n s).time = s.time ∧
    (countAnswer n s).line = s.line ∧ (countAnswer n s).load = s.load ∧ (countAnswer n s).track = s.track ∧
    (countAnswer n s).rate = s.rate ∧ (countAnswer n s).cls = s.cls ∧ (countAnswer n s).sch = s.sch ∧
    (countAnswer n s).phone = s.phone ∧ (countAnswer n s).voice = s.voice ∧ (countAnswer n s).supply = s.supply ∧
    (countAnswer n s).evt = s.evt ∧ (countAnswer n s).agent = s.agent ∧ (countAnswer n s).out = s.out := by
  simp only [countAnswer]; repeat' split
  all_goals simp

@[simp] theorem takeAnswer_frame (s : State) (n : Byte) :
    (takeAnswer n s).pending = s.pending ∧ (takeAnswer n s).due = s.due ∧ (takeAnswer n s).time = s.time ∧
    (takeAnswer n s).line = s.line ∧ (takeAnswer n s).track = s.track ∧ (takeAnswer n s).rate = s.rate ∧
    (takeAnswer n s).cls = s.cls ∧ (takeAnswer n s).sch = s.sch ∧ (takeAnswer n s).phone = s.phone ∧
    (takeAnswer n s).voice = s.voice ∧ (takeAnswer n s).supply = s.supply ∧ (takeAnswer n s).evt = s.evt ∧
    (takeAnswer n s).agent = s.agent ∧ (takeAnswer n s).out = s.out := by
  simp only [takeAnswer]; repeat' split
  all_goals simp

@[simp] theorem declineAnswer_frame (s : State) (n : Byte) :
    (declineAnswer n s).pending = s.pending ∧ (declineAnswer n s).due = s.due ∧ (declineAnswer n s).time = s.time ∧
    (declineAnswer n s).phone = s.phone ∧ (declineAnswer n s).voice = s.voice ∧
    (declineAnswer n s).supply = s.supply ∧ (declineAnswer n s).agent = s.agent ∧
    (declineAnswer n s).cls.table = s.cls.table ∧ (declineAnswer n s).cls.homeQueue = s.cls.homeQueue := by
  simp only [declineAnswer]; repeat' split
  all_goals simp

@[simp] theorem declineOffer_frame (s : State) (n : Byte) (r : DeclineReason) :
    (declineOffer n r s).pending = s.pending ∧ (declineOffer n r s).due = s.due ∧
    (declineOffer n r s).time = s.time ∧ (declineOffer n r s).line = s.line ∧ (declineOffer n r s).load = s.load ∧
    (declineOffer n r s).track = s.track ∧ (declineOffer n r s).rate = s.rate ∧ (declineOffer n r s).cls = s.cls ∧
    (declineOffer n r s).phone = s.phone ∧ (declineOffer n r s).voice = s.voice ∧
    (declineOffer n r s).supply = s.supply ∧ (declineOffer n r s).evt = s.evt ∧
    (declineOffer n r s).agent = s.agent ∧ (declineOffer n r s).out = s.out := by
  simp only [declineOffer]
  simp

@[simp] theorem acceptOffer_frame (s : State) (o : OfferBody) :
    (acceptOffer o s).pending = s.pending ∧ (acceptOffer o s).due = s.due ∧ (acceptOffer o s).time = s.time ∧
    (acceptOffer o s).line = s.line ∧ (acceptOffer o s).track = s.track ∧ (acceptOffer o s).rate = s.rate ∧
    (acceptOffer o s).cls = s.cls ∧ (acceptOffer o s).phone = s.phone ∧ (acceptOffer o s).voice = s.voice ∧
    (acceptOffer o s).supply = s.supply ∧ (acceptOffer o s).evt = s.evt ∧ (acceptOffer o s).agent = s.agent := by
  simp only [acceptOffer]
  simp

@[simp] theorem farOffer_frame (s : State) (b : Bytes) :
    (farOffer b s).pending = s.pending ∧ (farOffer b s).due = s.due ∧ (farOffer b s).time = s.time ∧
    (farOffer b s).line = s.line ∧ (farOffer b s).track = s.track ∧ (farOffer b s).rate = s.rate ∧
    (farOffer b s).cls = s.cls ∧ (farOffer b s).phone = s.phone ∧ (farOffer b s).voice = s.voice ∧
    (farOffer b s).supply = s.supply ∧ (farOffer b s).evt = s.evt ∧ (farOffer b s).agent = s.agent := by
  simp only [farOffer]; repeat' split
  all_goals simp

@[simp] theorem switchFarChange_frame (s : State) (f : FarPending) :
    (switchFarChange f s).pending = s.pending ∧ (switchFarChange f s).due = s.due ∧
    (switchFarChange f s).time = s.time ∧ (switchFarChange f s).line = s.line ∧
    (switchFarChange f s).phone = s.phone ∧ (switchFarChange f s).voice = s.voice ∧
    (switchFarChange f s).supply = s.supply ∧ (switchFarChange f s).agent = s.agent ∧
    (switchFarChange f s).cls.table = s.cls.table ∧ (switchFarChange f s).cls.homeQueue = s.cls.homeQueue := by
  simp only [switchFarChange]; repeat' split
  all_goals simp

@[simp] theorem switchCutback_frame (s : State) (c : CutbackOut) :
    (switchCutback c s).pending = s.pending ∧ (switchCutback c s).due = s.due ∧ (switchCutback c s).time = s.time ∧
    (switchCutback c s).line = s.line ∧ (switchCutback c s).track = s.track ∧ (switchCutback c s).phone = s.phone ∧
    (switchCutback c s).voice = s.voice ∧ (switchCutback c s).supply = s.supply ∧
    (switchCutback c s).agent = s.agent ∧ (switchCutback c s).cls.table = s.cls.table ∧
    (switchCutback c s).cls.homeQueue = s.cls.homeQueue := by
  simp only [switchCutback]; repeat' split
  all_goals simp

@[simp] theorem cutbackAnswer_frame (s : State) (n : Byte) :
    (cutbackAnswer n s).pending = s.pending ∧ (cutbackAnswer n s).due = s.due ∧ (cutbackAnswer n s).time = s.time ∧
    (cutbackAnswer n s).line = s.line ∧ (cutbackAnswer n s).track = s.track ∧ (cutbackAnswer n s).rate = s.rate ∧
    (cutbackAnswer n s).cls = s.cls ∧ (cutbackAnswer n s).sch = s.sch ∧ (cutbackAnswer n s).phone = s.phone ∧
    (cutbackAnswer n s).voice = s.voice ∧ (cutbackAnswer n s).supply = s.supply ∧ (cutbackAnswer n s).evt = s.evt ∧
    (cutbackAnswer n s).agent = s.agent ∧ (cutbackAnswer n s).out = s.out := by
  simp only [cutbackAnswer]; repeat' split
  all_goals simp

@[simp] theorem handUpstream_frame (s : State) (i : Ix4) (f : Bytes) :
    (handUpstream i f s).pending = s.pending ∧ (handUpstream i f s).due = s.due ∧
    (handUpstream i f s).time = s.time ∧ (handUpstream i f s).line = s.line ∧ (handUpstream i f s).load = s.load ∧
    (handUpstream i f s).track = s.track ∧ (handUpstream i f s).rate = s.rate ∧ (handUpstream i f s).cls = s.cls ∧
    (handUpstream i f s).phone = s.phone ∧ (handUpstream i f s).voice = s.voice ∧
    (handUpstream i f s).supply = s.supply ∧ (handUpstream i f s).evt = s.evt ∧
    (handUpstream i f s).agent = s.agent ∧ (handUpstream i f s).out = s.out := by
  simp only [handUpstream]
  simp

@[simp] theorem classifyFrame_frame (s : State) (f : Bytes) :
    (classifyFrame f s).pending = s.pending ∧ (classifyFrame f s).due = s.due ∧ (classifyFrame f s).time = s.time ∧
    (classifyFrame f s).line = s.line ∧ (classifyFrame f s).load = s.load ∧ (classifyFrame f s).track = s.track ∧
    (classifyFrame f s).rate = s.rate ∧ (classifyFrame f s).phone = s.phone ∧ (classifyFrame f s).voice = s.voice ∧
    (classifyFrame f s).supply = s.supply ∧ (classifyFrame f s).evt = s.evt ∧ (classifyFrame f s).agent = s.agent ∧
    (classifyFrame f s).out = s.out ∧ (classifyFrame f s).cls.homeQueue = s.cls.homeQueue := by
  simp only [classifyFrame]; repeat' split
  all_goals simp

@[simp] theorem joinRequest_frame (s : State) (f : Bytes) :
    (joinRequest f s).pending = s.pending ∧ (joinRequest f s).due = s.due ∧ (joinRequest f s).time = s.time ∧
    (joinRequest f s).line = s.line ∧ (joinRequest f s).load = s.load ∧ (joinRequest f s).track = s.track ∧
    (joinRequest f s).rate = s.rate ∧ (joinRequest f s).sch = s.sch ∧ (joinRequest f s).phone = s.phone ∧
    (joinRequest f s).voice = s.voice ∧ (joinRequest f s).supply = s.supply ∧ (joinRequest f s).out = s.out ∧
    (joinRequest f s).cls.table = s.cls.table ∧ (joinRequest f s).cls.homeQueue = s.cls.homeQueue ∧
    (joinRequest f s).agent.params = s.agent.params := by
  simp only [joinRequest]
  simp

@[simp] theorem managementArrival_frame (s : State) (f : Bytes) :
    (managementArrival f s).pending = s.pending ∧ (managementArrival f s).due = s.due ∧
    (managementArrival f s).time = s.time ∧ (managementArrival f s).line = s.line ∧
    (managementArrival f s).load = s.load ∧ (managementArrival f s).track = s.track ∧
    (managementArrival f s).rate = s.rate ∧ (managementArrival f s).sch = s.sch ∧
    (managementArrival f s).phone = s.phone ∧ (managementArrival f s).voice = s.voice ∧
    (managementArrival f s).supply = s.supply ∧ (managementArrival f s).out = s.out ∧
    (managementArrival f s).cls.table = s.cls.table ∧ (managementArrival f s).cls.homeQueue = s.cls.homeQueue ∧
    (managementArrival f s).agent.params = s.agent.params := by
  simp only [managementArrival]; repeat' split
  all_goals simp

@[simp] theorem homeArrival_frame (s : State) (f : Bytes) (b : Bool) :
    (homeArrival f b s).pending = s.pending ∧ (homeArrival f b s).due = s.due ∧ (homeArrival f b s).time = s.time ∧
    (homeArrival f b s).line = s.line ∧ (homeArrival f b s).load = s.load ∧ (homeArrival f b s).track = s.track ∧
    (homeArrival f b s).rate = s.rate ∧ (homeArrival f b s).phone = s.phone ∧ (homeArrival f b s).voice = s.voice ∧
    (homeArrival f b s).supply = s.supply ∧ (homeArrival f b s).out = s.out ∧
    (homeArrival f b s).cls.homeQueue = s.cls.homeQueue ∧ (homeArrival f b s).agent.params = s.agent.params := by
  simp only [homeArrival]; repeat' split
  all_goals simp

@[simp] theorem downstream_frame (s : State) (f : Bytes) :
    (downstream f s).pending = s.pending ∧ (downstream f s).due = s.due ∧ (downstream f s).time = s.time ∧
    (downstream f s).line = s.line ∧ (downstream f s).load = s.load ∧ (downstream f s).track = s.track ∧
    (downstream f s).rate = s.rate ∧ (downstream f s).sch = s.sch ∧ (downstream f s).phone = s.phone ∧
    (downstream f s).voice = s.voice ∧ (downstream f s).supply = s.supply ∧ (downstream f s).evt = s.evt ∧
    (downstream f s).agent = s.agent ∧ (downstream f s).out = s.out ∧ (downstream f s).cls.table = s.cls.table := by
  simp only [downstream]; repeat' split
  all_goals simp

@[simp] theorem offerWaiting_frame (s : State) :
    (offerWaiting s).pending = s.pending ∧ (offerWaiting s).due = s.due ∧ (offerWaiting s).time = s.time ∧
    (offerWaiting s).line = s.line ∧ (offerWaiting s).load = s.load ∧ (offerWaiting s).track = s.track ∧
    (offerWaiting s).rate = s.rate ∧ (offerWaiting s).sch = s.sch ∧ (offerWaiting s).phone = s.phone ∧
    (offerWaiting s).voice = s.voice ∧ (offerWaiting s).supply = s.supply ∧ (offerWaiting s).mon = s.mon ∧
    (offerWaiting s).evt = s.evt ∧ (offerWaiting s).out = s.out ∧ (offerWaiting s).cls.table = s.cls.table ∧
    (offerWaiting s).cls.homeQueue = s.cls.homeQueue ∧ (offerWaiting s).agent.params = s.agent.params := by
  unfold offerWaiting; repeat' split
  all_goals first
    | (simp; done)
    | (rename_i h; have k := mgmtOffer_quiet h; have e := mgmtOffer_evt h; simp [e, k.pending, k.due, k.time, k.line, k.load, k.track, k.rate, k.sch, k.phone, k.voice, k.supply, k.out, k.table, k.homeQueue, k.agent])

@[simp] theorem emitHome_frame (s : State) (f : Bytes) :
    (emitHome f s).pending = s.pending ∧ (emitHome f s).due = s.due ∧ (emitHome f s).time = s.time ∧
    (emitHome f s).line = s.line ∧ (emitHome f s).load = s.load ∧ (emitHome f s).track = s.track ∧
    (emitHome f s).rate = s.rate ∧ (emitHome f s).cls = s.cls ∧ (emitHome f s).sch = s.sch ∧
    (emitHome f s).phone = s.phone ∧ (emitHome f s).voice = s.voice ∧ (emitHome f s).supply = s.supply ∧
    (emitHome f s).mon = s.mon ∧ (emitHome f s).evt = s.evt ∧ (emitHome f s).agent = s.agent := by
  simp only [emitHome]
  simp

@[simp] theorem mgmtSent_frame (s : State) (f : MgmtFrame) :
    (mgmtSent f s).pending = s.pending ∧ (mgmtSent f s).time = s.time ∧ (mgmtSent f s).line = s.line ∧
    (mgmtSent f s).load = s.load ∧ (mgmtSent f s).track = s.track ∧ (mgmtSent f s).rate = s.rate ∧
    (mgmtSent f s).sch = s.sch ∧ (mgmtSent f s).phone = s.phone ∧ (mgmtSent f s).voice = s.voice ∧
    (mgmtSent f s).supply = s.supply ∧ (mgmtSent f s).evt = s.evt ∧ (mgmtSent f s).cls.table = s.cls.table ∧
    (mgmtSent f s).cls.homeQueue = s.cls.homeQueue ∧ (mgmtSent f s).agent.params = s.agent.params := by
  simp only [mgmtSent]; repeat' split
  all_goals simp

@[simp] theorem homeSent_frame (s : State) (f : Bytes) (b : Bool) :
    (homeSent f b s).pending = s.pending ∧ (homeSent f b s).due = s.due ∧ (homeSent f b s).time = s.time ∧
    (homeSent f b s).line = s.line ∧ (homeSent f b s).load = s.load ∧ (homeSent f b s).track = s.track ∧
    (homeSent f b s).rate = s.rate ∧ (homeSent f b s).sch = s.sch ∧ (homeSent f b s).phone = s.phone ∧
    (homeSent f b s).voice = s.voice ∧ (homeSent f b s).supply = s.supply ∧ (homeSent f b s).evt = s.evt ∧
    (homeSent f b s).agent = s.agent ∧ (homeSent f b s).cls.table = s.cls.table := by
  simp only [homeSent]; repeat' split
  all_goals simp

@[simp] theorem finishSending_frame (s : State) :
    (finishSending s).pending = s.pending ∧ (finishSending s).time = s.time ∧ (finishSending s).line = s.line ∧
    (finishSending s).load = s.load ∧ (finishSending s).track = s.track ∧ (finishSending s).rate = s.rate ∧
    (finishSending s).sch = s.sch ∧ (finishSending s).phone = s.phone ∧ (finishSending s).voice = s.voice ∧
    (finishSending s).supply = s.supply ∧ (finishSending s).evt = s.evt ∧ (finishSending s).cls.table = s.cls.table ∧
    (finishSending s).agent.params = s.agent.params := by
  simp only [finishSending]; repeat' split
  all_goals simp

@[simp] theorem State.makeDue_frame (s : State) (d : Due) :
    (s.makeDue d).pending = s.pending ∧ (s.makeDue d).time = s.time ∧ (s.makeDue d).line = s.line ∧
    (s.makeDue d).load = s.load ∧ (s.makeDue d).track = s.track ∧ (s.makeDue d).rate = s.rate ∧
    (s.makeDue d).cls = s.cls ∧ (s.makeDue d).sch = s.sch ∧ (s.makeDue d).phone = s.phone ∧
    (s.makeDue d).voice = s.voice ∧ (s.makeDue d).supply = s.supply ∧ (s.makeDue d).mon = s.mon ∧
    (s.makeDue d).evt = s.evt ∧ (s.makeDue d).agent = s.agent ∧ (s.makeDue d).out = s.out := by
  simp only [State.makeDue]
  simp

@[simp] theorem countTaken_frame (s : State) (l : Lane) (t : Taken) :
    (countTaken l t s).pending = s.pending ∧ (countTaken l t s).due = s.due ∧ (countTaken l t s).time = s.time ∧
    (countTaken l t s).line = s.line ∧ (countTaken l t s).load = s.load ∧ (countTaken l t s).track = s.track ∧
    (countTaken l t s).rate = s.rate ∧ (countTaken l t s).cls = s.cls ∧ (countTaken l t s).sch = s.sch ∧
    (countTaken l t s).phone = s.phone ∧ (countTaken l t s).voice = s.voice ∧ (countTaken l t s).supply = s.supply ∧
    (countTaken l t s).evt = s.evt ∧ (countTaken l t s).agent = s.agent ∧ (countTaken l t s).out = s.out := by
  simp only [countTaken]; repeat' split
  all_goals simp

@[simp] theorem countMalformed_frame (s : State) :
    (countMalformed s).pending = s.pending ∧ (countMalformed s).due = s.due ∧ (countMalformed s).time = s.time ∧
    (countMalformed s).line = s.line ∧ (countMalformed s).load = s.load ∧ (countMalformed s).track = s.track ∧
    (countMalformed s).rate = s.rate ∧ (countMalformed s).cls = s.cls ∧ (countMalformed s).sch = s.sch ∧
    (countMalformed s).phone = s.phone ∧ (countMalformed s).voice = s.voice ∧ (countMalformed s).supply = s.supply ∧
    (countMalformed s).evt = s.evt ∧ (countMalformed s).agent = s.agent ∧ (countMalformed s).out = s.out := by
  simp only [countMalformed]
  simp

@[simp] theorem handMessage_frame (s : State) (f : Bytes) :
    (handMessage f s).pending = s.pending ∧ (handMessage f s).time = s.time ∧ (handMessage f s).line = s.line ∧
    (handMessage f s).load = s.load ∧ (handMessage f s).track = s.track ∧ (handMessage f s).rate = s.rate ∧
    (handMessage f s).sch = s.sch ∧ (handMessage f s).phone = s.phone ∧ (handMessage f s).voice = s.voice ∧
    (handMessage f s).supply = s.supply ∧ (handMessage f s).agent = s.agent ∧ (handMessage f s).out = s.out ∧
    (handMessage f s).cls.table = s.cls.table ∧ (handMessage f s).cls.homeQueue = s.cls.homeQueue := by
  simp only [handMessage]; repeat' split
  all_goals simp

@[simp] theorem handOn_frame (s : State) (l : Lane) (f : Bytes) :
    (handOn l f s).pending = s.pending ∧ (handOn l f s).time = s.time ∧ (handOn l f s).line = s.line ∧
    (handOn l f s).load = s.load ∧ (handOn l f s).track = s.track ∧ (handOn l f s).rate = s.rate ∧
    (handOn l f s).sch = s.sch ∧ (handOn l f s).phone = s.phone ∧ (handOn l f s).voice = s.voice ∧
    (handOn l f s).supply = s.supply ∧ (handOn l f s).agent = s.agent ∧ (handOn l f s).out = s.out ∧
    (handOn l f s).cls.table = s.cls.table ∧ (handOn l f s).cls.homeQueue = s.cls.homeQueue := by
  simp only [handOn]; repeat' split
  all_goals simp

@[simp] theorem receiveUnit_frame (s : State) (u : Bytes) (b : Bool) :
    (receiveUnit u b s).pending = s.pending ∧ (receiveUnit u b s).time = s.time ∧ (receiveUnit u b s).load = s.load ∧
    (receiveUnit u b s).track = s.track ∧ (receiveUnit u b s).rate = s.rate ∧ (receiveUnit u b s).sch = s.sch ∧
    (receiveUnit u b s).phone = s.phone ∧ (receiveUnit u b s).voice = s.voice ∧
    (receiveUnit u b s).supply = s.supply ∧ (receiveUnit u b s).agent = s.agent ∧ (receiveUnit u b s).out = s.out ∧
    (receiveUnit u b s).cls.table = s.cls.table ∧ (receiveUnit u b s).cls.homeQueue = s.cls.homeQueue := by
  simp only [receiveUnit]; repeat' split
  all_goals simp

@[simp] theorem State.modPort_frame (s : State) (p : PortId) (f : PhonePort → PhonePort) :
    (s.modPort p f).pending = s.pending ∧ (s.modPort p f).due = s.due ∧ (s.modPort p f).time = s.time ∧
    (s.modPort p f).line = s.line ∧ (s.modPort p f).load = s.load ∧ (s.modPort p f).track = s.track ∧
    (s.modPort p f).rate = s.rate ∧ (s.modPort p f).cls = s.cls ∧ (s.modPort p f).sch = s.sch ∧
    (s.modPort p f).voice = s.voice ∧ (s.modPort p f).supply = s.supply ∧ (s.modPort p f).mon = s.mon ∧
    (s.modPort p f).evt = s.evt ∧ (s.modPort p f).agent = s.agent ∧ (s.modPort p f).out = s.out := by
  simp only [State.modPort]
  simp

@[simp] theorem raiseRingDone_frame (s : State) (p : PortId) (n : Nat) :
    (raiseRingDone p n s).pending = s.pending ∧ (raiseRingDone p n s).due = s.due ∧
    (raiseRingDone p n s).time = s.time ∧ (raiseRingDone p n s).line = s.line ∧ (raiseRingDone p n s).load = s.load ∧
    (raiseRingDone p n s).track = s.track ∧ (raiseRingDone p n s).rate = s.rate ∧ (raiseRingDone p n s).sch = s.sch ∧
    (raiseRingDone p n s).phone = s.phone ∧ (raiseRingDone p n s).voice = s.voice ∧
    (raiseRingDone p n s).supply = s.supply ∧ (raiseRingDone p n s).agent = s.agent ∧
    (raiseRingDone p n s).out = s.out ∧ (raiseRingDone p n s).cls.table = s.cls.table ∧
    (raiseRingDone p n s).cls.homeQueue = s.cls.homeQueue := by
  simp only [raiseRingDone]; repeat' split
  all_goals simp

@[simp] theorem ringPhaseStep_frame (s : State) (p : PortId) :
    (ringPhaseStep p s).pending = s.pending ∧ (ringPhaseStep p s).due = s.due ∧ (ringPhaseStep p s).time = s.time ∧
    (ringPhaseStep p s).line = s.line ∧ (ringPhaseStep p s).load = s.load ∧ (ringPhaseStep p s).track = s.track ∧
    (ringPhaseStep p s).rate = s.rate ∧ (ringPhaseStep p s).sch = s.sch ∧ (ringPhaseStep p s).voice = s.voice ∧
    (ringPhaseStep p s).supply = s.supply ∧ (ringPhaseStep p s).agent = s.agent ∧ (ringPhaseStep p s).out = s.out ∧
    (ringPhaseStep p s).cls.table = s.cls.table ∧ (ringPhaseStep p s).cls.homeQueue = s.cls.homeQueue := by
  simp only [ringPhaseStep]; repeat' split
  all_goals simp

@[simp] theorem completeDigit_frame (s : State) (p : PortId) :
    (completeDigit p s).pending = s.pending ∧ (completeDigit p s).due = s.due ∧ (completeDigit p s).time = s.time ∧
    (completeDigit p s).line = s.line ∧ (completeDigit p s).load = s.load ∧ (completeDigit p s).track = s.track ∧
    (completeDigit p s).rate = s.rate ∧ (completeDigit p s).sch = s.sch ∧ (completeDigit p s).voice = s.voice ∧
    (completeDigit p s).supply = s.supply ∧ (completeDigit p s).agent = s.agent ∧ (completeDigit p s).out = s.out ∧
    (completeDigit p s).cls.table = s.cls.table ∧ (completeDigit p s).cls.homeQueue = s.cls.homeQueue := by
  simp only [completeDigit]; repeat' split
  all_goals simp

@[simp] theorem breakPulsesStep_frame (s : State) (p : PortId) :
    (breakPulsesStep p s).pending = s.pending ∧ (breakPulsesStep p s).due = s.due ∧
    (breakPulsesStep p s).time = s.time ∧ (breakPulsesStep p s).line = s.line ∧ (breakPulsesStep p s).load = s.load ∧
    (breakPulsesStep p s).track = s.track ∧ (breakPulsesStep p s).rate = s.rate ∧ (breakPulsesStep p s).sch = s.sch ∧
    (breakPulsesStep p s).voice = s.voice ∧ (breakPulsesStep p s).supply = s.supply ∧
    (breakPulsesStep p s).agent = s.agent ∧ (breakPulsesStep p s).out = s.out ∧
    (breakPulsesStep p s).cls.table = s.cls.table ∧ (breakPulsesStep p s).cls.homeQueue = s.cls.homeQueue := by
  simp only [breakPulsesStep]; repeat' split
  all_goals simp

@[simp] theorem interdigitStep_frame (s : State) (p : PortId) :
    (interdigitStep p s).pending = s.pending ∧ (interdigitStep p s).due = s.due ∧
    (interdigitStep p s).time = s.time ∧ (interdigitStep p s).line = s.line ∧ (interdigitStep p s).load = s.load ∧
    (interdigitStep p s).track = s.track ∧ (interdigitStep p s).rate = s.rate ∧ (interdigitStep p s).sch = s.sch ∧
    (interdigitStep p s).voice = s.voice ∧ (interdigitStep p s).supply = s.supply ∧
    (interdigitStep p s).agent = s.agent ∧ (interdigitStep p s).out = s.out ∧
    (interdigitStep p s).cls.table = s.cls.table ∧ (interdigitStep p s).cls.homeQueue = s.cls.homeQueue := by
  simp only [interdigitStep]; repeat' split
  all_goals simp

@[simp] theorem hangUpStep_frame (s : State) (p : PortId) :
    (hangUpStep p s).pending = s.pending ∧ (hangUpStep p s).due = s.due ∧ (hangUpStep p s).time = s.time ∧
    (hangUpStep p s).line = s.line ∧ (hangUpStep p s).load = s.load ∧ (hangUpStep p s).track = s.track ∧
    (hangUpStep p s).rate = s.rate ∧ (hangUpStep p s).sch = s.sch ∧ (hangUpStep p s).voice = s.voice ∧
    (hangUpStep p s).supply = s.supply ∧ (hangUpStep p s).agent = s.agent ∧ (hangUpStep p s).out = s.out ∧
    (hangUpStep p s).cls.table = s.cls.table ∧ (hangUpStep p s).cls.homeQueue = s.cls.homeQueue := by
  simp only [hangUpStep]; repeat' split
  all_goals simp

@[simp] theorem liftPort_frame (s : State) (p : PortId) :
    (liftPort p s).pending = s.pending ∧ (liftPort p s).due = s.due ∧ (liftPort p s).time = s.time ∧
    (liftPort p s).line = s.line ∧ (liftPort p s).load = s.load ∧ (liftPort p s).track = s.track ∧
    (liftPort p s).rate = s.rate ∧ (liftPort p s).sch = s.sch ∧ (liftPort p s).voice = s.voice ∧
    (liftPort p s).supply = s.supply ∧ (liftPort p s).agent = s.agent ∧ (liftPort p s).out = s.out ∧
    (liftPort p s).cls.table = s.cls.table ∧ (liftPort p s).cls.homeQueue = s.cls.homeQueue := by
  simp only [liftPort]
  simp

@[simp] theorem breakEnds_frame (s : State) (p : PortId) :
    (breakEnds p s).pending = s.pending ∧ (breakEnds p s).due = s.due ∧ (breakEnds p s).time = s.time ∧
    (breakEnds p s).line = s.line ∧ (breakEnds p s).load = s.load ∧ (breakEnds p s).track = s.track ∧
    (breakEnds p s).rate = s.rate ∧ (breakEnds p s).sch = s.sch ∧ (breakEnds p s).voice = s.voice ∧
    (breakEnds p s).supply = s.supply ∧ (breakEnds p s).agent = s.agent ∧ (breakEnds p s).out = s.out ∧
    (breakEnds p s).cls.table = s.cls.table ∧ (breakEnds p s).cls.homeQueue = s.cls.homeQueue := by
  simp only [breakEnds]; repeat' split
  all_goals simp

@[simp] theorem acceptOffHook_frame (s : State) (p : PortId) :
    (acceptOffHook p s).pending = s.pending ∧ (acceptOffHook p s).due = s.due ∧ (acceptOffHook p s).time = s.time ∧
    (acceptOffHook p s).line = s.line ∧ (acceptOffHook p s).load = s.load ∧ (acceptOffHook p s).track = s.track ∧
    (acceptOffHook p s).rate = s.rate ∧ (acceptOffHook p s).sch = s.sch ∧ (acceptOffHook p s).voice = s.voice ∧
    (acceptOffHook p s).supply = s.supply ∧ (acceptOffHook p s).agent = s.agent ∧ (acceptOffHook p s).out = s.out ∧
    (acceptOffHook p s).cls.table = s.cls.table ∧ (acceptOffHook p s).cls.homeQueue = s.cls.homeQueue := by
  simp only [acceptOffHook]; repeat' split
  all_goals simp

@[simp] theorem acceptOnHook_frame (s : State) (p : PortId) :
    (acceptOnHook p s).pending = s.pending ∧ (acceptOnHook p s).due = s.due ∧ (acceptOnHook p s).time = s.time ∧
    (acceptOnHook p s).line = s.line ∧ (acceptOnHook p s).load = s.load ∧ (acceptOnHook p s).track = s.track ∧
    (acceptOnHook p s).rate = s.rate ∧ (acceptOnHook p s).cls = s.cls ∧ (acceptOnHook p s).sch = s.sch ∧
    (acceptOnHook p s).voice = s.voice ∧ (acceptOnHook p s).supply = s.supply ∧ (acceptOnHook p s).mon = s.mon ∧
    (acceptOnHook p s).evt = s.evt ∧ (acceptOnHook p s).agent = s.agent ∧ (acceptOnHook p s).out = s.out := by
  simp only [acceptOnHook]; repeat' split
  all_goals simp

@[simp] theorem acceptHook_frame (s : State) (p : PortId) :
    (acceptHook p s).pending = s.pending ∧ (acceptHook p s).due = s.due ∧ (acceptHook p s).time = s.time ∧
    (acceptHook p s).line = s.line ∧ (acceptHook p s).load = s.load ∧ (acceptHook p s).track = s.track ∧
    (acceptHook p s).rate = s.rate ∧ (acceptHook p s).sch = s.sch ∧ (acceptHook p s).voice = s.voice ∧
    (acceptHook p s).supply = s.supply ∧ (acceptHook p s).agent = s.agent ∧ (acceptHook p s).out = s.out ∧
    (acceptHook p s).cls.table = s.cls.table ∧ (acceptHook p s).cls.homeQueue = s.cls.homeQueue := by
  simp only [acceptHook]; repeat' split
  all_goals simp

@[simp] theorem freeRecord_frame (s : State) (p : PortId) :
    (freeRecord p s).pending = s.pending ∧ (freeRecord p s).due = s.due ∧ (freeRecord p s).time = s.time ∧
    (freeRecord p s).line = s.line ∧ (freeRecord p s).load = s.load ∧ (freeRecord p s).track = s.track ∧
    (freeRecord p s).rate = s.rate ∧ (freeRecord p s).cls = s.cls ∧ (freeRecord p s).phone = s.phone ∧
    (freeRecord p s).supply = s.supply ∧ (freeRecord p s).mon = s.mon ∧ (freeRecord p s).evt = s.evt ∧
    (freeRecord p s).agent = s.agent ∧ (freeRecord p s).out = s.out := by
  simp only [freeRecord]
  simp

@[simp] theorem closeRecord_frame (s : State) (p : PortId) :
    (closeRecord p s).pending = s.pending ∧ (closeRecord p s).due = s.due ∧ (closeRecord p s).time = s.time ∧
    (closeRecord p s).line = s.line ∧ (closeRecord p s).load = s.load ∧ (closeRecord p s).track = s.track ∧
    (closeRecord p s).rate = s.rate ∧ (closeRecord p s).cls = s.cls ∧ (closeRecord p s).phone = s.phone ∧
    (closeRecord p s).supply = s.supply ∧ (closeRecord p s).mon = s.mon ∧ (closeRecord p s).evt = s.evt ∧
    (closeRecord p s).agent = s.agent ∧ (closeRecord p s).out = s.out := by
  simp only [closeRecord]; repeat' split
  all_goals simp

@[simp] theorem feedLossClose_frame (s : State) :
    (feedLossClose s).pending = s.pending ∧ (feedLossClose s).due = s.due ∧ (feedLossClose s).time = s.time ∧
    (feedLossClose s).line = s.line ∧ (feedLossClose s).load = s.load ∧ (feedLossClose s).track = s.track ∧
    (feedLossClose s).rate = s.rate ∧ (feedLossClose s).phone = s.phone ∧ (feedLossClose s).supply = s.supply ∧
    (feedLossClose s).agent = s.agent ∧ (feedLossClose s).out = s.out ∧ (feedLossClose s).cls.table = s.cls.table ∧
    (feedLossClose s).cls.homeQueue = s.cls.homeQueue := by
  simp only [feedLossClose]; repeat' split
  all_goals simp

@[simp] theorem loseFeed_frame (s : State) :
    (loseFeed s).pending = s.pending ∧ (loseFeed s).time = s.time ∧ (loseFeed s).line = s.line ∧
    (loseFeed s).load = s.load ∧ (loseFeed s).track = s.track ∧ (loseFeed s).rate = s.rate ∧
    (loseFeed s).supply = s.supply ∧ (loseFeed s).agent = s.agent ∧ (loseFeed s).out = s.out ∧
    (loseFeed s).cls.table = s.cls.table ∧ (loseFeed s).cls.homeQueue = s.cls.homeQueue := by
  simp only [loseFeed]; repeat' split
  all_goals simp

@[simp] theorem returnFeed_frame (s : State) :
    (returnFeed s).pending = s.pending ∧ (returnFeed s).due = s.due ∧ (returnFeed s).time = s.time ∧
    (returnFeed s).line = s.line ∧ (returnFeed s).load = s.load ∧ (returnFeed s).track = s.track ∧
    (returnFeed s).rate = s.rate ∧ (returnFeed s).cls = s.cls ∧ (returnFeed s).sch = s.sch ∧
    (returnFeed s).voice = s.voice ∧ (returnFeed s).supply = s.supply ∧ (returnFeed s).mon = s.mon ∧
    (returnFeed s).evt = s.evt ∧ (returnFeed s).agent = s.agent ∧ (returnFeed s).out = s.out := by
  simp only [returnFeed]
  simp

@[simp] theorem setPort2Feed_frame (s : State) (b : Bool) :
    (setPort2Feed b s).pending = s.pending ∧ (setPort2Feed b s).time = s.time ∧ (setPort2Feed b s).line = s.line ∧
    (setPort2Feed b s).load = s.load ∧ (setPort2Feed b s).track = s.track ∧ (setPort2Feed b s).rate = s.rate ∧
    (setPort2Feed b s).supply = s.supply ∧ (setPort2Feed b s).agent = s.agent ∧ (setPort2Feed b s).out = s.out ∧
    (setPort2Feed b s).cls.table = s.cls.table ∧ (setPort2Feed b s).cls.homeQueue = s.cls.homeQueue := by
  simp only [setPort2Feed]; repeat' split
  all_goals simp

@[simp] theorem restartPorts_frame (s : State) :
    (restartPorts s).pending = s.pending ∧ (restartPorts s).due = s.due ∧ (restartPorts s).time = s.time ∧
    (restartPorts s).line = s.line ∧ (restartPorts s).load = s.load ∧ (restartPorts s).track = s.track ∧
    (restartPorts s).rate = s.rate ∧ (restartPorts s).cls = s.cls ∧ (restartPorts s).sch = s.sch ∧
    (restartPorts s).voice = s.voice ∧ (restartPorts s).supply = s.supply ∧ (restartPorts s).mon = s.mon ∧
    (restartPorts s).evt = s.evt ∧ (restartPorts s).agent = s.agent ∧ (restartPorts s).out = s.out := by
  simp only [restartPorts]
  simp

@[simp] theorem State.setRecord_frame (s : State) (p : PortId) (r : ChannelRecord) :
    (s.setRecord p r).pending = s.pending ∧ (s.setRecord p r).due = s.due ∧ (s.setRecord p r).time = s.time ∧
    (s.setRecord p r).line = s.line ∧ (s.setRecord p r).load = s.load ∧ (s.setRecord p r).track = s.track ∧
    (s.setRecord p r).rate = s.rate ∧ (s.setRecord p r).cls = s.cls ∧ (s.setRecord p r).sch = s.sch ∧
    (s.setRecord p r).phone = s.phone ∧ (s.setRecord p r).supply = s.supply ∧ (s.setRecord p r).mon = s.mon ∧
    (s.setRecord p r).evt = s.evt ∧ (s.setRecord p r).agent = s.agent ∧ (s.setRecord p r).out = s.out := by
  simp only [State.setRecord]
  simp

@[simp] theorem openLine_frame (s : State) (p : PortId) (n m : Nat) (b : Byte) :
    (openLine p n m b s).pending = s.pending ∧ (openLine p n m b s).due = s.due ∧
    (openLine p n m b s).time = s.time ∧ (openLine p n m b s).line = s.line ∧ (openLine p n m b s).load = s.load ∧
    (openLine p n m b s).track = s.track ∧ (openLine p n m b s).rate = s.rate ∧ (openLine p n m b s).cls = s.cls ∧
    (openLine p n m b s).sch = s.sch ∧ (openLine p n m b s).phone = s.phone ∧
    (openLine p n m b s).supply = s.supply ∧ (openLine p n m b s).mon = s.mon ∧ (openLine p n m b s).evt = s.evt ∧
    (openLine p n m b s).agent = s.agent ∧ (openLine p n m b s).out = s.out := by
  simp only [openLine]
  simp

@[simp] theorem openIntercom_frame (s : State) (b : Byte) :
    (openIntercom b s).pending = s.pending ∧ (openIntercom b s).due = s.due ∧ (openIntercom b s).time = s.time ∧
    (openIntercom b s).line = s.line ∧ (openIntercom b s).load = s.load ∧ (openIntercom b s).track = s.track ∧
    (openIntercom b s).rate = s.rate ∧ (openIntercom b s).cls = s.cls ∧ (openIntercom b s).sch = s.sch ∧
    (openIntercom b s).phone = s.phone ∧ (openIntercom b s).supply = s.supply ∧ (openIntercom b s).mon = s.mon ∧
    (openIntercom b s).evt = s.evt ∧ (openIntercom b s).agent = s.agent ∧ (openIntercom b s).out = s.out := by
  simp only [openIntercom]
  simp

@[simp] theorem voiceArrives_frame (s : State) (n : Nat) (f : Bytes) :
    (voiceArrives n f s).pending = s.pending ∧ (voiceArrives n f s).due = s.due ∧
    (voiceArrives n f s).time = s.time ∧ (voiceArrives n f s).line = s.line ∧ (voiceArrives n f s).load = s.load ∧
    (voiceArrives n f s).track = s.track ∧ (voiceArrives n f s).rate = s.rate ∧ (voiceArrives n f s).cls = s.cls ∧
    (voiceArrives n f s).sch = s.sch ∧ (voiceArrives n f s).phone = s.phone ∧
    (voiceArrives n f s).supply = s.supply ∧ (voiceArrives n f s).evt = s.evt ∧
    (voiceArrives n f s).agent = s.agent ∧ (voiceArrives n f s).out = s.out := by
  simp only [voiceArrives]; repeat' split
  all_goals simp

@[simp] theorem takePlayout_frame (s : State) (p : PortId) :
    (takePlayout p s).pending = s.pending ∧ (takePlayout p s).due = s.due ∧ (takePlayout p s).time = s.time ∧
    (takePlayout p s).line = s.line ∧ (takePlayout p s).load = s.load ∧ (takePlayout p s).track = s.track ∧
    (takePlayout p s).rate = s.rate ∧ (takePlayout p s).sch = s.sch ∧ (takePlayout p s).phone = s.phone ∧
    (takePlayout p s).supply = s.supply ∧ (takePlayout p s).agent = s.agent ∧ (takePlayout p s).out = s.out ∧
    (takePlayout p s).cls.table = s.cls.table ∧ (takePlayout p s).cls.homeQueue = s.cls.homeQueue := by
  simp only [takePlayout]; repeat' split
  all_goals simp

@[simp] theorem formFrame_frame (s : State) (p : PortId) :
    (formFrame p s).pending = s.pending ∧ (formFrame p s).due = s.due ∧ (formFrame p s).time = s.time ∧
    (formFrame p s).line = s.line ∧ (formFrame p s).load = s.load ∧ (formFrame p s).track = s.track ∧
    (formFrame p s).rate = s.rate ∧ (formFrame p s).phone = s.phone ∧ (formFrame p s).supply = s.supply ∧
    (formFrame p s).agent = s.agent ∧ (formFrame p s).out = s.out ∧ (formFrame p s).cls.table = s.cls.table ∧
    (formFrame p s).cls.homeQueue = s.cls.homeQueue := by
  simp only [formFrame]; repeat' split
  all_goals simp

@[simp] theorem boundaryStep_frame (s : State) (p : PortId) :
    (boundaryStep p s).pending = s.pending ∧ (boundaryStep p s).due = s.due ∧ (boundaryStep p s).time = s.time ∧
    (boundaryStep p s).line = s.line ∧ (boundaryStep p s).load = s.load ∧ (boundaryStep p s).track = s.track ∧
    (boundaryStep p s).rate = s.rate ∧ (boundaryStep p s).phone = s.phone ∧ (boundaryStep p s).supply = s.supply ∧
    (boundaryStep p s).agent = s.agent ∧ (boundaryStep p s).out = s.out ∧
    (boundaryStep p s).cls.table = s.cls.table ∧ (boundaryStep p s).cls.homeQueue = s.cls.homeQueue := by
  simp only [boundaryStep]
  simp

@[simp] theorem takeSample_frame (s : State) (p : PortId) (b : Byte) :
    (takeSample p b s).pending = s.pending ∧ (takeSample p b s).time = s.time ∧ (takeSample p b s).line = s.line ∧
    (takeSample p b s).load = s.load ∧ (takeSample p b s).track = s.track ∧ (takeSample p b s).rate = s.rate ∧
    (takeSample p b s).cls = s.cls ∧ (takeSample p b s).sch = s.sch ∧ (takeSample p b s).phone = s.phone ∧
    (takeSample p b s).supply = s.supply ∧ (takeSample p b s).evt = s.evt ∧ (takeSample p b s).agent = s.agent ∧
    (takeSample p b s).out = s.out := by
  simp only [takeSample]; repeat' split
  all_goals simp

@[simp] theorem sampleStep_frame (s : State) (x y : PortFrame) :
    (sampleStep x y s).pending = s.pending ∧ (sampleStep x y s).time = s.time ∧ (sampleStep x y s).line = s.line ∧
    (sampleStep x y s).load = s.load ∧ (sampleStep x y s).track = s.track ∧ (sampleStep x y s).rate = s.rate ∧
    (sampleStep x y s).cls = s.cls ∧ (sampleStep x y s).sch = s.sch ∧ (sampleStep x y s).supply = s.supply ∧
    (sampleStep x y s).evt = s.evt ∧ (sampleStep x y s).agent = s.agent := by
  simp only [sampleStep]
  simp

@[simp] theorem resetRecords_frame (s : State) :
    (resetRecords s).pending = s.pending ∧ (resetRecords s).due = s.due ∧ (resetRecords s).time = s.time ∧
    (resetRecords s).line = s.line ∧ (resetRecords s).load = s.load ∧ (resetRecords s).track = s.track ∧
    (resetRecords s).rate = s.rate ∧ (resetRecords s).cls = s.cls ∧ (resetRecords s).phone = s.phone ∧
    (resetRecords s).supply = s.supply ∧ (resetRecords s).mon = s.mon ∧ (resetRecords s).evt = s.evt ∧
    (resetRecords s).agent = s.agent ∧ (resetRecords s).out = s.out := by
  simp only [resetRecords]
  simp

@[simp] theorem enterMode_frame (s : State) (m : Mode) :
    (enterMode m s).pending = s.pending ∧ (enterMode m s).time = s.time ∧ (enterMode m s).line = s.line ∧
    (enterMode m s).track = s.track ∧ (enterMode m s).agent = s.agent ∧ (enterMode m s).cls.table = s.cls.table ∧
    (enterMode m s).cls.homeQueue = s.cls.homeQueue := by
  simp only [enterMode]; repeat' split
  all_goals simp

@[simp] theorem workOutMode_frame (s : State) :
    (workOutMode s).pending = s.pending ∧ (workOutMode s).time = s.time ∧ (workOutMode s).line = s.line ∧
    (workOutMode s).track = s.track ∧ (workOutMode s).agent = s.agent ∧ (workOutMode s).cls.table = s.cls.table ∧
    (workOutMode s).cls.homeQueue = s.cls.homeQueue := by
  simp only [workOutMode]; repeat' split
  all_goals simp

@[simp] theorem acceptPin_frame (s : State) (p : PinId) :
    (acceptPin p s).pending = s.pending ∧ (acceptPin p s).time = s.time ∧ (acceptPin p s).line = s.line ∧
    (acceptPin p s).track = s.track ∧ (acceptPin p s).agent = s.agent ∧ (acceptPin p s).cls.table = s.cls.table ∧
    (acceptPin p s).cls.homeQueue = s.cls.homeQueue := by
  simp only [acceptPin]; repeat' split
  all_goals simp

@[simp] theorem classifySecond_frame (s : State) :
    (classifySecond s).pending = s.pending ∧ (classifySecond s).due = s.due ∧ (classifySecond s).time = s.time ∧
    (classifySecond s).line = s.line ∧ (classifySecond s).load = s.load ∧ (classifySecond s).track = s.track ∧
    (classifySecond s).rate = s.rate ∧ (classifySecond s).sch = s.sch ∧ (classifySecond s).phone = s.phone ∧
    (classifySecond s).voice = s.voice ∧ (classifySecond s).supply = s.supply ∧ (classifySecond s).agent = s.agent ∧
    (classifySecond s).out = s.out ∧ (classifySecond s).cls.table = s.cls.table ∧
    (classifySecond s).cls.homeQueue = s.cls.homeQueue := by
  simp only [classifySecond]; repeat' split
  all_goals simp

@[simp] theorem countResidency_frame (s : State) :
    (countResidency s).pending = s.pending ∧ (countResidency s).due = s.due ∧ (countResidency s).time = s.time ∧
    (countResidency s).line = s.line ∧ (countResidency s).load = s.load ∧ (countResidency s).track = s.track ∧
    (countResidency s).rate = s.rate ∧ (countResidency s).cls = s.cls ∧ (countResidency s).sch = s.sch ∧
    (countResidency s).phone = s.phone ∧ (countResidency s).voice = s.voice ∧ (countResidency s).supply = s.supply ∧
    (countResidency s).evt = s.evt ∧ (countResidency s).agent = s.agent ∧ (countResidency s).out = s.out := by
  simp only [countResidency]; repeat' split
  all_goals simp

@[simp] theorem tickInterval_frame (s : State) :
    (tickInterval s).pending = s.pending ∧ (tickInterval s).due = s.due ∧ (tickInterval s).time = s.time ∧
    (tickInterval s).line = s.line ∧ (tickInterval s).load = s.load ∧ (tickInterval s).track = s.track ∧
    (tickInterval s).rate = s.rate ∧ (tickInterval s).cls = s.cls ∧ (tickInterval s).sch = s.sch ∧
    (tickInterval s).phone = s.phone ∧ (tickInterval s).voice = s.voice ∧ (tickInterval s).supply = s.supply ∧
    (tickInterval s).evt = s.evt ∧ (tickInterval s).agent = s.agent ∧ (tickInterval s).out = s.out := by
  simp only [tickInterval]; repeat' split
  all_goals simp

@[simp] theorem farReport_frame (s : State) :
    (farReport s).pending = s.pending ∧ (farReport s).due = s.due ∧ (farReport s).time = s.time ∧
    (farReport s).line = s.line ∧ (farReport s).load = s.load ∧ (farReport s).track = s.track ∧
    (farReport s).rate = s.rate ∧ (farReport s).cls = s.cls ∧ (farReport s).phone = s.phone ∧
    (farReport s).voice = s.voice ∧ (farReport s).supply = s.supply ∧ (farReport s).agent = s.agent ∧
    (farReport s).out = s.out := by
  simp only [farReport]; repeat' split
  all_goals simp

@[simp] theorem beginSecond_frame (s : State) :
    (beginSecond s).pending = s.pending ∧ (beginSecond s).due = s.due ∧ (beginSecond s).time = s.time ∧
    (beginSecond s).line = s.line ∧ (beginSecond s).load = s.load ∧ (beginSecond s).track = s.track ∧
    (beginSecond s).rate = s.rate ∧ (beginSecond s).sch = s.sch ∧ (beginSecond s).phone = s.phone ∧
    (beginSecond s).voice = s.voice ∧ (beginSecond s).supply = s.supply ∧ (beginSecond s).agent = s.agent ∧
    (beginSecond s).out = s.out ∧ (beginSecond s).cls.table = s.cls.table ∧
    (beginSecond s).cls.homeQueue = s.cls.homeQueue := by
  simp only [beginSecond]; repeat' split
  all_goals simp

@[simp] theorem takeAvailability_frame (s : State) (b : Bool) :
    (takeAvailability b s).pending = s.pending ∧ (takeAvailability b s).due = s.due ∧
    (takeAvailability b s).time = s.time ∧ (takeAvailability b s).line = s.line ∧
    (takeAvailability b s).load = s.load ∧ (takeAvailability b s).track = s.track ∧
    (takeAvailability b s).rate = s.rate ∧ (takeAvailability b s).sch = s.sch ∧
    (takeAvailability b s).phone = s.phone ∧ (takeAvailability b s).voice = s.voice ∧
    (takeAvailability b s).supply = s.supply ∧ (takeAvailability b s).agent = s.agent ∧
    (takeAvailability b s).out = s.out ∧ (takeAvailability b s).cls.table = s.cls.table ∧
    (takeAvailability b s).cls.homeQueue = s.cls.homeQueue := by
  simp only [takeAvailability]; repeat' split
  all_goals simp

@[simp] theorem countSecond_frame (s : State) :
    (countSecond s).pending = s.pending ∧ (countSecond s).due = s.due ∧ (countSecond s).time = s.time ∧
    (countSecond s).line = s.line ∧ (countSecond s).load = s.load ∧ (countSecond s).track = s.track ∧
    (countSecond s).rate = s.rate ∧ (countSecond s).sch = s.sch ∧ (countSecond s).phone = s.phone ∧
    (countSecond s).voice = s.voice ∧ (countSecond s).supply = s.supply ∧ (countSecond s).agent = s.agent ∧
    (countSecond s).out = s.out ∧ (countSecond s).cls.table = s.cls.table ∧
    (countSecond s).cls.homeQueue = s.cls.homeQueue := by
  simp only [countSecond]; repeat' split
  all_goals simp

@[simp] theorem orderRetrain_frame (s : State) (b : Bool) :
    (orderRetrain b s).pending = s.pending ∧ (orderRetrain b s).due = s.due ∧ (orderRetrain b s).time = s.time ∧
    (orderRetrain b s).phone = s.phone ∧ (orderRetrain b s).voice = s.voice ∧ (orderRetrain b s).supply = s.supply ∧
    (orderRetrain b s).agent = s.agent ∧ (orderRetrain b s).cls.table = s.cls.table ∧
    (orderRetrain b s).cls.homeQueue = s.cls.homeQueue := by
  simp only [orderRetrain]; repeat' split
  all_goals simp

@[simp] theorem dueInterval_frame (s : State) :
    (dueInterval s).pending = s.pending ∧ (dueInterval s).time = s.time ∧ (dueInterval s).line = s.line ∧
    (dueInterval s).load = s.load ∧ (dueInterval s).track = s.track ∧ (dueInterval s).rate = s.rate ∧
    (dueInterval s).cls = s.cls ∧ (dueInterval s).sch = s.sch ∧ (dueInterval s).phone = s.phone ∧
    (dueInterval s).voice = s.voice ∧ (dueInterval s).supply = s.supply ∧ (dueInterval s).mon = s.mon ∧
    (dueInterval s).evt = s.evt ∧ (dueInterval s).agent = s.agent ∧ (dueInterval s).out = s.out := by
  simp only [dueInterval]; repeat' split
  all_goals simp

@[simp] theorem secondStep_frame (s : State) :
    (secondStep s).pending = s.pending ∧ (secondStep s).time = s.time ∧ (secondStep s).phone = s.phone ∧
    (secondStep s).voice = s.voice ∧ (secondStep s).supply = s.supply ∧ (secondStep s).agent = s.agent ∧
    (secondStep s).cls.table = s.cls.table ∧ (secondStep s).cls.homeQueue = s.cls.homeQueue := by
  simp only [secondStep]; repeat' split
  all_goals simp

@[simp] theorem closeInterval_frame (s : State) :
    (closeInterval s).pending = s.pending ∧ (closeInterval s).due = s.due ∧ (closeInterval s).time = s.time ∧
    (closeInterval s).line = s.line ∧ (closeInterval s).load = s.load ∧ (closeInterval s).track = s.track ∧
    (closeInterval s).rate = s.rate ∧ (closeInterval s).cls = s.cls ∧ (closeInterval s).sch = s.sch ∧
    (closeInterval s).phone = s.phone ∧ (closeInterval s).voice = s.voice ∧ (closeInterval s).supply = s.supply ∧
    (closeInterval s).evt = s.evt ∧ (closeInterval s).agent = s.agent ∧ (closeInterval s).out = s.out := by
  simp only [closeInterval]; repeat' split
  all_goals simp

@[simp] theorem offerReply_frame (s : State) (f : MgmtFrame) :
    (offerReply f s).pending = s.pending ∧ (offerReply f s).due = s.due ∧ (offerReply f s).time = s.time ∧
    (offerReply f s).line = s.line ∧ (offerReply f s).load = s.load ∧ (offerReply f s).track = s.track ∧
    (offerReply f s).rate = s.rate ∧ (offerReply f s).sch = s.sch ∧ (offerReply f s).phone = s.phone ∧
    (offerReply f s).voice = s.voice ∧ (offerReply f s).supply = s.supply ∧ (offerReply f s).mon = s.mon ∧
    (offerReply f s).evt = s.evt ∧ (offerReply f s).out = s.out ∧ (offerReply f s).cls.table = s.cls.table ∧
    (offerReply f s).cls.homeQueue = s.cls.homeQueue ∧ (offerReply f s).agent.params = s.agent.params := by
  unfold offerReply; repeat' split
  all_goals first
    | (simp; done)
    | (rename_i h; have k := mgmtOffer_quiet h; have e := mgmtOffer_evt h; simp [e, k.pending, k.due, k.time, k.line, k.load, k.track, k.rate, k.sch, k.phone, k.voice, k.supply, k.out, k.table, k.homeQueue, k.agent])

@[simp] theorem farQueryStep_frame (s : State) (t : Byte) (b : Bytes) :
    (farQueryStep t b s).pending = s.pending ∧ (farQueryStep t b s).due = s.due ∧
    (farQueryStep t b s).time = s.time ∧ (farQueryStep t b s).line = s.line ∧ (farQueryStep t b s).load = s.load ∧
    (farQueryStep t b s).track = s.track ∧ (farQueryStep t b s).rate = s.rate ∧ (farQueryStep t b s).cls = s.cls ∧
    (farQueryStep t b s).phone = s.phone ∧ (farQueryStep t b s).voice = s.voice ∧
    (farQueryStep t b s).supply = s.supply ∧ (farQueryStep t b s).evt = s.evt ∧
    (farQueryStep t b s).agent = s.agent ∧ (farQueryStep t b s).out = s.out := by
  simp only [farQueryStep]
  simp

@[simp] theorem startLine_frame (s : State) :
    (startLine s).pending = s.pending ∧ (startLine s).due = s.due ∧ (startLine s).time = s.time ∧
    (startLine s).load = s.load ∧ (startLine s).track = s.track ∧ (startLine s).rate = s.rate ∧
    (startLine s).cls = s.cls ∧ (startLine s).sch = s.sch ∧ (startLine s).phone = s.phone ∧
    (startLine s).voice = s.voice ∧ (startLine s).supply = s.supply ∧ (startLine s).mon = s.mon ∧
    (startLine s).evt = s.evt ∧ (startLine s).agent = s.agent := by
  simp only [startLine]; repeat' split
  all_goals simp

@[simp] theorem stopLine_frame (s : State) :
    (stopLine s).pending = s.pending ∧ (stopLine s).due = s.due ∧ (stopLine s).time = s.time ∧
    (stopLine s).phone = s.phone ∧ (stopLine s).voice = s.voice ∧ (stopLine s).supply = s.supply ∧
    (stopLine s).agent = s.agent ∧ (stopLine s).cls.table = s.cls.table ∧
    (stopLine s).cls.homeQueue = s.cls.homeQueue := by
  simp only [stopLine]; repeat' split
  all_goals simp

@[simp] theorem stopRing_frame (s : State) (p : PortId) :
    (stopRing p s).pending = s.pending ∧ (stopRing p s).due = s.due ∧ (stopRing p s).time = s.time ∧
    (stopRing p s).line = s.line ∧ (stopRing p s).load = s.load ∧ (stopRing p s).track = s.track ∧
    (stopRing p s).rate = s.rate ∧ (stopRing p s).sch = s.sch ∧ (stopRing p s).voice = s.voice ∧
    (stopRing p s).supply = s.supply ∧ (stopRing p s).agent = s.agent ∧ (stopRing p s).out = s.out ∧
    (stopRing p s).cls.table = s.cls.table ∧ (stopRing p s).cls.homeQueue = s.cls.homeQueue := by
  simp only [stopRing]; repeat' split
  all_goals simp

@[simp] theorem beginRing_frame (s : State) (p : PortId) (n m : Nat) :
    (beginRing p n m s).pending = s.pending ∧ (beginRing p n m s).due = s.due ∧ (beginRing p n m s).time = s.time ∧
    (beginRing p n m s).line = s.line ∧ (beginRing p n m s).load = s.load ∧ (beginRing p n m s).track = s.track ∧
    (beginRing p n m s).rate = s.rate ∧ (beginRing p n m s).cls = s.cls ∧ (beginRing p n m s).sch = s.sch ∧
    (beginRing p n m s).voice = s.voice ∧ (beginRing p n m s).supply = s.supply ∧ (beginRing p n m s).mon = s.mon ∧
    (beginRing p n m s).evt = s.evt ∧ (beginRing p n m s).agent = s.agent ∧ (beginRing p n m s).out = s.out := by
  simp only [beginRing]
  simp

@[simp] theorem setPartitionTo_frame (s : State) (n : Nat) :
    (setPartitionTo n s).pending = s.pending ∧ (setPartitionTo n s).due = s.due ∧
    (setPartitionTo n s).time = s.time ∧ (setPartitionTo n s).line = s.line ∧ (setPartitionTo n s).load = s.load ∧
    (setPartitionTo n s).track = s.track ∧ (setPartitionTo n s).rate = s.rate ∧ (setPartitionTo n s).sch = s.sch ∧
    (setPartitionTo n s).phone = s.phone ∧ (setPartitionTo n s).voice = s.voice ∧
    (setPartitionTo n s).supply = s.supply ∧ (setPartitionTo n s).mon = s.mon ∧ (setPartitionTo n s).out = s.out ∧
    (setPartitionTo n s).cls.homeQueue = s.cls.homeQueue ∧ (setPartitionTo n s).agent.params = s.agent.params := by
  simp only [setPartitionTo]
  simp

@[simp] theorem emptyDigits_frame (s : State) :
    (emptyDigits s).pending = s.pending ∧ (emptyDigits s).due = s.due ∧ (emptyDigits s).time = s.time ∧
    (emptyDigits s).line = s.line ∧ (emptyDigits s).load = s.load ∧ (emptyDigits s).track = s.track ∧
    (emptyDigits s).rate = s.rate ∧ (emptyDigits s).cls = s.cls ∧ (emptyDigits s).sch = s.sch ∧
    (emptyDigits s).voice = s.voice ∧ (emptyDigits s).supply = s.supply ∧ (emptyDigits s).mon = s.mon ∧
    (emptyDigits s).evt = s.evt ∧ (emptyDigits s).agent = s.agent ∧ (emptyDigits s).out = s.out := by
  simp only [emptyDigits]
  simp

@[simp] theorem setCursor_frame (s : State) (c : Option Cursor) :
    (setCursor c s).pending = s.pending ∧ (setCursor c s).due = s.due ∧ (setCursor c s).time = s.time ∧
    (setCursor c s).line = s.line ∧ (setCursor c s).load = s.load ∧ (setCursor c s).track = s.track ∧
    (setCursor c s).rate = s.rate ∧ (setCursor c s).cls = s.cls ∧ (setCursor c s).sch = s.sch ∧
    (setCursor c s).phone = s.phone ∧ (setCursor c s).voice = s.voice ∧ (setCursor c s).supply = s.supply ∧
    (setCursor c s).mon = s.mon ∧ (setCursor c s).evt = s.evt ∧ (setCursor c s).out = s.out ∧
    (setCursor c s).agent.params = s.agent.params := by
  simp only [setCursor]
  simp

@[simp] theorem recomputeAllowances_frame (s : State) :
    (recomputeAllowances s).pending = s.pending ∧ (recomputeAllowances s).due = s.due ∧
    (recomputeAllowances s).time = s.time ∧ (recomputeAllowances s).line = s.line ∧
    (recomputeAllowances s).load = s.load ∧ (recomputeAllowances s).track = s.track ∧
    (recomputeAllowances s).cls = s.cls ∧ (recomputeAllowances s).sch = s.sch ∧
    (recomputeAllowances s).phone = s.phone ∧ (recomputeAllowances s).voice = s.voice ∧
    (recomputeAllowances s).supply = s.supply ∧ (recomputeAllowances s).mon = s.mon ∧
    (recomputeAllowances s).evt = s.evt ∧ (recomputeAllowances s).agent = s.agent ∧
    (recomputeAllowances s).out = s.out := by
  simp only [recomputeAllowances]; repeat' split
  all_goals simp

@[simp] theorem wakeOnMask_frame (s : State) :
    (wakeOnMask s).pending = s.pending ∧ (wakeOnMask s).due = s.due ∧ (wakeOnMask s).time = s.time ∧
    (wakeOnMask s).line = s.line ∧ (wakeOnMask s).load = s.load ∧ (wakeOnMask s).track = s.track ∧
    (wakeOnMask s).rate = s.rate ∧ (wakeOnMask s).cls = s.cls ∧ (wakeOnMask s).sch = s.sch ∧
    (wakeOnMask s).phone = s.phone ∧ (wakeOnMask s).voice = s.voice ∧ (wakeOnMask s).supply = s.supply ∧
    (wakeOnMask s).mon = s.mon ∧ (wakeOnMask s).agent = s.agent ∧ (wakeOnMask s).out = s.out := by
  simp only [wakeOnMask]; repeat' split
  all_goals simp

@[simp] theorem tellRate_frame (s : State) (w : Nat → Bool) :
    (tellRate w s).pending = s.pending ∧ (tellRate w s).due = s.due ∧ (tellRate w s).time = s.time ∧
    (tellRate w s).line = s.line ∧ (tellRate w s).load = s.load ∧ (tellRate w s).track = s.track ∧
    (tellRate w s).sch = s.sch ∧ (tellRate w s).phone = s.phone ∧ (tellRate w s).voice = s.voice ∧
    (tellRate w s).supply = s.supply ∧ (tellRate w s).agent = s.agent ∧ (tellRate w s).out = s.out ∧
    (tellRate w s).cls.table = s.cls.table ∧ (tellRate w s).cls.homeQueue = s.cls.homeQueue := by
  simp only [tellRate]; repeat' split
  all_goals simp

@[simp] theorem tellScheduler_frame (s : State) (w : Nat → Bool) :
    (tellScheduler w s).pending = s.pending ∧ (tellScheduler w s).due = s.due ∧ (tellScheduler w s).time = s.time ∧
    (tellScheduler w s).line = s.line ∧ (tellScheduler w s).load = s.load ∧ (tellScheduler w s).track = s.track ∧
    (tellScheduler w s).rate = s.rate ∧ (tellScheduler w s).cls = s.cls ∧ (tellScheduler w s).phone = s.phone ∧
    (tellScheduler w s).voice = s.voice ∧ (tellScheduler w s).supply = s.supply ∧ (tellScheduler w s).evt = s.evt ∧
    (tellScheduler w s).agent = s.agent ∧ (tellScheduler w s).out = s.out := by
  unfold tellScheduler
  exact ⟨(foldl_keep (fun t : State => t.pending) _ (fun t a => by split <;> simp) _ _).trans (by split <;> simp),
    (foldl_keep (fun t : State => t.due) _ (fun t a => by split <;> simp) _ _).trans (by split <;> simp),
    (foldl_keep (fun t : State => t.time) _ (fun t a => by split <;> simp) _ _).trans (by split <;> simp),
    (foldl_keep (fun t : State => t.line) _ (fun t a => by split <;> simp) _ _).trans (by split <;> simp),
    (foldl_keep (fun t : State => t.load) _ (fun t a => by split <;> simp) _ _).trans (by split <;> simp),
    (foldl_keep (fun t : State => t.track) _ (fun t a => by split <;> simp) _ _).trans (by split <;> simp),
    (foldl_keep (fun t : State => t.rate) _ (fun t a => by split <;> simp) _ _).trans (by split <;> simp),
    (foldl_keep (fun t : State => t.cls) _ (fun t a => by split <;> simp) _ _).trans (by split <;> simp),
    (foldl_keep (fun t : State => t.phone) _ (fun t a => by split <;> simp) _ _).trans (by split <;> simp),
    (foldl_keep (fun t : State => t.voice) _ (fun t a => by split <;> simp) _ _).trans (by split <;> simp),
    (foldl_keep (fun t : State => t.supply) _ (fun t a => by split <;> simp) _ _).trans (by split <;> simp),
    (foldl_keep (fun t : State => t.evt) _ (fun t a => by split <;> simp) _ _).trans (by split <;> simp),
    (foldl_keep (fun t : State => t.agent) _ (fun t a => by split <;> simp) _ _).trans (by split <;> simp),
    (foldl_keep (fun t : State => t.out) _ (fun t a => by split <;> simp) _ _).trans (by split <;> simp)⟩

@[simp] theorem tellLoading_frame (s : State) (w : Nat → Bool) :
    (tellLoading w s).pending = s.pending ∧ (tellLoading w s).due = s.due ∧ (tellLoading w s).time = s.time ∧
    (tellLoading w s).line = s.line ∧ (tellLoading w s).track = s.track ∧ (tellLoading w s).rate = s.rate ∧
    (tellLoading w s).cls = s.cls ∧ (tellLoading w s).phone = s.phone ∧ (tellLoading w s).voice = s.voice ∧
    (tellLoading w s).supply = s.supply ∧ (tellLoading w s).evt = s.evt ∧ (tellLoading w s).agent = s.agent := by
  simp only [tellLoading]; repeat' split
  all_goals simp

@[simp] theorem tellPhone_frame (s : State) (w : Nat → Bool) :
    (tellPhone w s).pending = s.pending ∧ (tellPhone w s).time = s.time ∧ (tellPhone w s).line = s.line ∧
    (tellPhone w s).load = s.load ∧ (tellPhone w s).track = s.track ∧ (tellPhone w s).rate = s.rate ∧
    (tellPhone w s).supply = s.supply ∧ (tellPhone w s).agent = s.agent ∧ (tellPhone w s).out = s.out ∧
    (tellPhone w s).cls.table = s.cls.table ∧ (tellPhone w s).cls.homeQueue = s.cls.homeQueue := by
  simp only [tellPhone]; repeat' split
  all_goals simp

@[simp] theorem tellEvents_frame (s : State) (w : Nat → Bool) :
    (tellEvents w s).pending = s.pending ∧ (tellEvents w s).due = s.due ∧ (tellEvents w s).time = s.time ∧
    (tellEvents w s).line = s.line ∧ (tellEvents w s).load = s.load ∧ (tellEvents w s).track = s.track ∧
    (tellEvents w s).rate = s.rate ∧ (tellEvents w s).cls = s.cls ∧ (tellEvents w s).sch = s.sch ∧
    (tellEvents w s).phone = s.phone ∧ (tellEvents w s).voice = s.voice ∧ (tellEvents w s).supply = s.supply ∧
    (tellEvents w s).mon = s.mon ∧ (tellEvents w s).agent = s.agent ∧ (tellEvents w s).out = s.out := by
  simp only [tellEvents]; repeat' split
  all_goals simp

@[simp] theorem writeParams_frame (s : State) (n m : Nat) (l : List Bytes) :
    (writeParams n m l s).pending = s.pending ∧ (writeParams n m l s).time = s.time ∧
    (writeParams n m l s).line = s.line ∧ (writeParams n m l s).track = s.track ∧
    (writeParams n m l s).supply = s.supply ∧ (writeParams n m l s).cls.table = s.cls.table ∧
    (writeParams n m l s).cls.homeQueue = s.cls.homeQueue := by
  simp only [writeParams]
  simp

@[simp] theorem giveData_frame (s : State) (i : Ix4) :
    ((giveData i s).1).pending = s.pending ∧ ((giveData i s).1).due = s.due ∧ ((giveData i s).1).time = s.time ∧
    ((giveData i s).1).line = s.line ∧ ((giveData i s).1).load = s.load ∧ ((giveData i s).1).track = s.track ∧
    ((giveData i s).1).rate = s.rate ∧ ((giveData i s).1).cls = s.cls ∧ ((giveData i s).1).phone = s.phone ∧
    ((giveData i s).1).voice = s.voice ∧ ((giveData i s).1).supply = s.supply ∧ ((giveData i s).1).evt = s.evt ∧
    ((giveData i s).1).agent = s.agent ∧ ((giveData i s).1).out = s.out := by
  simp only [giveData]; repeat' split
  all_goals simp

@[simp] theorem giveMessage_frame (s : State) (m : Message) (n : Nat) :
    ((giveMessage m n s).1).pending = s.pending ∧ ((giveMessage m n s).1).due = s.due ∧
    ((giveMessage m n s).1).time = s.time ∧ ((giveMessage m n s).1).line = s.line ∧
    ((giveMessage m n s).1).load = s.load ∧ ((giveMessage m n s).1).track = s.track ∧
    ((giveMessage m n s).1).rate = s.rate ∧ ((giveMessage m n s).1).phone = s.phone ∧
    ((giveMessage m n s).1).voice = s.voice ∧ ((giveMessage m n s).1).supply = s.supply ∧
    ((giveMessage m n s).1).agent = s.agent ∧ ((giveMessage m n s).1).out = s.out ∧
    ((giveMessage m n s).1).cls.table = s.cls.table ∧ ((giveMessage m n s).1).cls.homeQueue = s.cls.homeQueue := by
  simp only [giveMessage]; repeat' split
  all_goals simp

@[simp] theorem giveVoice_frame (s : State) :
    ((giveVoice s).1).pending = s.pending ∧ ((giveVoice s).1).due = s.due ∧ ((giveVoice s).1).time = s.time ∧
    ((giveVoice s).1).line = s.line ∧ ((giveVoice s).1).load = s.load ∧ ((giveVoice s).1).track = s.track ∧
    ((giveVoice s).1).rate = s.rate ∧ ((giveVoice s).1).cls = s.cls ∧ ((giveVoice s).1).phone = s.phone ∧
    ((giveVoice s).1).voice = s.voice ∧ ((giveVoice s).1).supply = s.supply ∧ ((giveVoice s).1).evt = s.evt ∧
    ((giveVoice s).1).agent = s.agent ∧ ((giveVoice s).1).out = s.out := by
  simp only [giveVoice]; repeat' split
  all_goals simp

@[simp] theorem drrSelect_frame (s : State) (n : Nat) :
    (drrSelect n s).pending = s.pending ∧ (drrSelect n s).due = s.due ∧ (drrSelect n s).time = s.time ∧
    (drrSelect n s).line = s.line ∧ (drrSelect n s).load = s.load ∧ (drrSelect n s).track = s.track ∧
    (drrSelect n s).rate = s.rate ∧ (drrSelect n s).cls = s.cls ∧ (drrSelect n s).phone = s.phone ∧
    (drrSelect n s).voice = s.voice ∧ (drrSelect n s).supply = s.supply ∧ (drrSelect n s).evt = s.evt ∧
    (drrSelect n s).agent = s.agent ∧ (drrSelect n s).out = s.out := by
  induction n generalizing s with
  | zero => simp [drrSelect]
  | succ n ih =>
    simp only [drrSelect]; repeat' split
    all_goals simp [ih]

@[simp] theorem selectData_frame (s : State) :
    (selectData s).pending = s.pending ∧ (selectData s).due = s.due ∧ (selectData s).time = s.time ∧
    (selectData s).line = s.line ∧ (selectData s).load = s.load ∧ (selectData s).track = s.track ∧
    (selectData s).rate = s.rate ∧ (selectData s).cls = s.cls ∧ (selectData s).phone = s.phone ∧
    (selectData s).voice = s.voice ∧ (selectData s).supply = s.supply ∧ (selectData s).evt = s.evt ∧
    (selectData s).agent = s.agent ∧ (selectData s).out = s.out := by
  simp only [selectData]; repeat' split
  all_goals simp

@[simp] theorem nextData_frame (s : State) :
    ((nextData s).1).pending = s.pending ∧ ((nextData s).1).due = s.due ∧ ((nextData s).1).time = s.time ∧
    ((nextData s).1).line = s.line ∧ ((nextData s).1).load = s.load ∧ ((nextData s).1).track = s.track ∧
    ((nextData s).1).rate = s.rate ∧ ((nextData s).1).cls = s.cls ∧ ((nextData s).1).phone = s.phone ∧
    ((nextData s).1).voice = s.voice ∧ ((nextData s).1).supply = s.supply ∧ ((nextData s).1).evt = s.evt ∧
    ((nextData s).1).agent = s.agent ∧ ((nextData s).1).out = s.out := by
  simp only [nextData]; repeat' split
  all_goals simp

@[simp] theorem nextUnit_frame (s : State) :
    ((nextUnit s).1).pending = s.pending ∧ ((nextUnit s).1).due = s.due ∧ ((nextUnit s).1).time = s.time ∧
    ((nextUnit s).1).line = s.line ∧ ((nextUnit s).1).load = s.load ∧ ((nextUnit s).1).track = s.track ∧
    ((nextUnit s).1).rate = s.rate ∧ ((nextUnit s).1).phone = s.phone ∧ ((nextUnit s).1).voice = s.voice ∧
    ((nextUnit s).1).supply = s.supply ∧ ((nextUnit s).1).agent = s.agent ∧ ((nextUnit s).1).out = s.out ∧
    ((nextUnit s).1).cls.table = s.cls.table ∧ ((nextUnit s).1).cls.homeQueue = s.cls.homeQueue := by
  simp only [nextUnit]; repeat' split
  all_goals simp

@[simp] theorem answerUnit_frame (s : State) (u : Bytes) :
    (answerUnit u s).pending = s.pending ∧ (answerUnit u s).due = s.due ∧ (answerUnit u s).time = s.time ∧
    (answerUnit u s).line = s.line ∧ (answerUnit u s).load = s.load ∧ (answerUnit u s).track = s.track ∧
    (answerUnit u s).rate = s.rate ∧ (answerUnit u s).cls = s.cls ∧ (answerUnit u s).sch = s.sch ∧
    (answerUnit u s).phone = s.phone ∧ (answerUnit u s).voice = s.voice ∧ (answerUnit u s).supply = s.supply ∧
    (answerUnit u s).mon = s.mon ∧ (answerUnit u s).evt = s.evt ∧ (answerUnit u s).agent = s.agent := by
  simp only [answerUnit]
  simp

@[simp] theorem pullUnit_frame (s : State) :
    (pullUnit s).pending = s.pending ∧ (pullUnit s).due = s.due ∧ (pullUnit s).time = s.time ∧
    (pullUnit s).line = s.line ∧ (pullUnit s).load = s.load ∧ (pullUnit s).track = s.track ∧
    (pullUnit s).rate = s.rate ∧ (pullUnit s).phone = s.phone ∧ (pullUnit s).voice = s.voice ∧
    (pullUnit s).supply = s.supply ∧ (pullUnit s).agent = s.agent ∧ (pullUnit s).cls.table = s.cls.table ∧
    (pullUnit s).cls.homeQueue = s.cls.homeQueue := by
  unfold pullUnit; split
  · split <;> (rename_i h; have k := nextUnit_frame s; rw [h] at k; simp only at k; simp [k])
  · simp

@[simp] theorem resetLineScope_frame (s : State) :
    (resetLineScope s).pending = s.pending ∧ (resetLineScope s).due = s.due ∧ (resetLineScope s).time = s.time ∧
    (resetLineScope s).cls = s.cls ∧ (resetLineScope s).phone = s.phone ∧ (resetLineScope s).voice = s.voice ∧
    (resetLineScope s).supply = s.supply ∧ (resetLineScope s).mon = s.mon ∧ (resetLineScope s).evt = s.evt ∧
    (resetLineScope s).agent = s.agent := by
  simp only [resetLineScope]
  simp

@[simp] theorem resetTrafficScope_frame (s : State) :
    (resetTrafficScope s).pending = s.pending ∧ (resetTrafficScope s).due = s.due ∧
    (resetTrafficScope s).time = s.time ∧ (resetTrafficScope s).line = s.line ∧ (resetTrafficScope s).load = s.load ∧
    (resetTrafficScope s).track = s.track ∧ (resetTrafficScope s).rate = s.rate ∧
    (resetTrafficScope s).phone = s.phone ∧ (resetTrafficScope s).voice = s.voice ∧
    (resetTrafficScope s).supply = s.supply ∧ (resetTrafficScope s).mon = s.mon ∧ (resetTrafficScope s).evt = s.evt ∧
    (resetTrafficScope s).agent = s.agent ∧ (resetTrafficScope s).out = s.out := by
  simp only [resetTrafficScope]
  simp

@[simp] theorem resetVoiceScope_frame (s : State) :
    (resetVoiceScope s).pending = s.pending ∧ (resetVoiceScope s).due = s.due ∧ (resetVoiceScope s).time = s.time ∧
    (resetVoiceScope s).line = s.line ∧ (resetVoiceScope s).load = s.load ∧ (resetVoiceScope s).track = s.track ∧
    (resetVoiceScope s).rate = s.rate ∧ (resetVoiceScope s).cls = s.cls ∧ (resetVoiceScope s).supply = s.supply ∧
    (resetVoiceScope s).mon = s.mon ∧ (resetVoiceScope s).evt = s.evt ∧ (resetVoiceScope s).agent = s.agent ∧
    (resetVoiceScope s).out = s.out := by
  simp only [resetVoiceScope]
  simp

@[simp] theorem resetMonitorScope_frame (s : State) :
    (resetMonitorScope s).pending = s.pending ∧ (resetMonitorScope s).due = s.due ∧
    (resetMonitorScope s).time = s.time ∧ (resetMonitorScope s).line = s.line ∧ (resetMonitorScope s).load = s.load ∧
    (resetMonitorScope s).track = s.track ∧ (resetMonitorScope s).rate = s.rate ∧ (resetMonitorScope s).sch = s.sch ∧
    (resetMonitorScope s).phone = s.phone ∧ (resetMonitorScope s).supply = s.supply ∧
    (resetMonitorScope s).agent = s.agent ∧ (resetMonitorScope s).out = s.out ∧
    (resetMonitorScope s).cls.homeQueue = s.cls.homeQueue := by
  simp only [resetMonitorScope]
  simp

@[simp] theorem tickState_frame (s : State) (a b : Bool) :
    (tickState a b s).pending = s.pending ∧ (tickState a b s).due = s.due ∧ (tickState a b s).load = s.load ∧
    (tickState a b s).track = s.track ∧ (tickState a b s).rate = s.rate ∧ (tickState a b s).cls = s.cls ∧
    (tickState a b s).voice = s.voice ∧ (tickState a b s).mon = s.mon ∧ (tickState a b s).agent = s.agent ∧
    (tickState a b s).out = s.out := by
  simp only [tickState]
  simp

@[simp] theorem tickStep_frame (s : State) (a b : Bool) :
    (tickStep a b s).pending = s.pending ∧ (tickStep a b s).load = s.load ∧ (tickStep a b s).track = s.track ∧
    (tickStep a b s).rate = s.rate ∧ (tickStep a b s).cls = s.cls ∧ (tickStep a b s).voice = s.voice ∧
    (tickStep a b s).mon = s.mon ∧ (tickStep a b s).agent = s.agent ∧ (tickStep a b s).out = s.out := by
  simp only [tickStep]; repeat' split
  all_goals simp

@[simp] theorem trackReport_frame (s : State) (l : List ReportedBurst) :
    (trackReport l s).pending = s.pending ∧ (trackReport l s).due = s.due ∧ (trackReport l s).time = s.time ∧
    (trackReport l s).line = s.line ∧ (trackReport l s).load = s.load ∧ (trackReport l s).rate = s.rate ∧
    (trackReport l s).sch = s.sch ∧ (trackReport l s).phone = s.phone ∧ (trackReport l s).voice = s.voice ∧
    (trackReport l s).supply = s.supply ∧ (trackReport l s).agent = s.agent ∧ (trackReport l s).out = s.out ∧
    (trackReport l s).cls.table = s.cls.table ∧ (trackReport l s).cls.homeQueue = s.cls.homeQueue := by
  have q := foldl_keep (fun t : State => (t.pending, t.due, t.time, t.line, t.load, t.rate, t.sch, t.phone, t.voice, t.supply, t.agent, t.out, t.cls.table, t.cls.homeQueue))
    takeBurst (fun t a => by simp) (reportBursts s.line.symbolCount l) s
  simp only [Prod.mk.injEq] at q
  simp [trackReport, q]

@[simp] theorem reportInRun_frame (s : State) (r : FrameReport) :
    (reportInRun r s).pending = s.pending ∧ (reportInRun r s).time = s.time ∧ (reportInRun r s).load = s.load ∧
    (reportInRun r s).rate = s.rate ∧ (reportInRun r s).sch = s.sch ∧ (reportInRun r s).phone = s.phone ∧
    (reportInRun r s).voice = s.voice ∧ (reportInRun r s).supply = s.supply ∧ (reportInRun r s).agent = s.agent ∧
    (reportInRun r s).out = s.out ∧ (reportInRun r s).cls.table = s.cls.table ∧
    (reportInRun r s).cls.homeQueue = s.cls.homeQueue := by
  simp only [reportInRun]
  simp

@[simp] theorem frameReportStep_frame (s : State) (r : FrameReport) :
    (frameReportStep r s).pending = s.pending ∧ (frameReportStep r s).time = s.time ∧
    (frameReportStep r s).load = s.load ∧ (frameReportStep r s).rate = s.rate ∧ (frameReportStep r s).sch = s.sch ∧
    (frameReportStep r s).phone = s.phone ∧ (frameReportStep r s).voice = s.voice ∧
    (frameReportStep r s).supply = s.supply ∧ (frameReportStep r s).agent = s.agent ∧
    (frameReportStep r s).out = s.out ∧ (frameReportStep r s).cls.table = s.cls.table ∧
    (frameReportStep r s).cls.homeQueue = s.cls.homeQueue := by
  simp only [frameReportStep]; repeat' split
  all_goals simp

@[simp] theorem marginReportStep_frame (s : State) (l : List Byte) :
    (marginReportStep l s).pending = s.pending ∧ (marginReportStep l s).due = s.due ∧
    (marginReportStep l s).time = s.time ∧ (marginReportStep l s).line = s.line ∧
    (marginReportStep l s).rate = s.rate ∧ (marginReportStep l s).cls = s.cls ∧
    (marginReportStep l s).phone = s.phone ∧ (marginReportStep l s).voice = s.voice ∧
    (marginReportStep l s).supply = s.supply ∧ (marginReportStep l s).evt = s.evt ∧
    (marginReportStep l s).agent = s.agent := by
  simp only [marginReportStep]; repeat' split
  all_goals simp

@[simp] theorem trainedStep_frame (s : State) (r : TrainedRecord) :
    (trainedStep r s).pending = s.pending ∧ (trainedStep r s).due = s.due ∧ (trainedStep r s).time = s.time ∧
    (trainedStep r s).phone = s.phone ∧ (trainedStep r s).voice = s.voice ∧ (trainedStep r s).supply = s.supply ∧
    (trainedStep r s).agent = s.agent ∧ (trainedStep r s).cls.table = s.cls.table ∧
    (trainedStep r s).cls.homeQueue = s.cls.homeQueue := by
  simp only [trainedStep]; repeat' split
  all_goals simp

@[simp] theorem trainFailedStep_frame (s : State) (b : Byte) :
    (trainFailedStep b s).pending = s.pending ∧ (trainFailedStep b s).due = s.due ∧
    (trainFailedStep b s).time = s.time ∧ (trainFailedStep b s).load = s.load ∧
    (trainFailedStep b s).track = s.track ∧ (trainFailedStep b s).rate = s.rate ∧ (trainFailedStep b s).sch = s.sch ∧
    (trainFailedStep b s).phone = s.phone ∧ (trainFailedStep b s).voice = s.voice ∧
    (trainFailedStep b s).supply = s.supply ∧ (trainFailedStep b s).agent = s.agent ∧
    (trainFailedStep b s).out = s.out ∧ (trainFailedStep b s).cls.table = s.cls.table ∧
    (trainFailedStep b s).cls.homeQueue = s.cls.homeQueue := by
  simp only [trainFailedStep]; repeat' split
  all_goals simp

@[simp] theorem signalLostStep_frame (s : State) :
    (signalLostStep s).pending = s.pending ∧ (signalLostStep s).due = s.due ∧ (signalLostStep s).time = s.time ∧
    (signalLostStep s).phone = s.phone ∧ (signalLostStep s).voice = s.voice ∧ (signalLostStep s).supply = s.supply ∧
    (signalLostStep s).agent = s.agent ∧ (signalLostStep s).cls.table = s.cls.table ∧
    (signalLostStep s).cls.homeQueue = s.cls.homeQueue := by
  simp only [signalLostStep]; repeat' split
  all_goals simp

@[simp] theorem trainingTimeoutStep_frame (s : State) :
    (trainingTimeoutStep s).pending = s.pending ∧ (trainingTimeoutStep s).due = s.due ∧
    (trainingTimeoutStep s).time = s.time ∧ (trainingTimeoutStep s).load = s.load ∧
    (trainingTimeoutStep s).track = s.track ∧ (trainingTimeoutStep s).rate = s.rate ∧
    (trainingTimeoutStep s).sch = s.sch ∧ (trainingTimeoutStep s).phone = s.phone ∧
    (trainingTimeoutStep s).voice = s.voice ∧ (trainingTimeoutStep s).supply = s.supply ∧
    (trainingTimeoutStep s).agent = s.agent ∧ (trainingTimeoutStep s).cls.table = s.cls.table ∧
    (trainingTimeoutStep s).cls.homeQueue = s.cls.homeQueue := by
  simp only [trainingTimeoutStep]; repeat' split
  all_goals simp

@[simp] theorem holdoffExpiryStep_frame (s : State) :
    (holdoffExpiryStep s).pending = s.pending ∧ (holdoffExpiryStep s).due = s.due ∧
    (holdoffExpiryStep s).time = s.time ∧ (holdoffExpiryStep s).load = s.load ∧
    (holdoffExpiryStep s).track = s.track ∧ (holdoffExpiryStep s).rate = s.rate ∧ (holdoffExpiryStep s).sch = s.sch ∧
    (holdoffExpiryStep s).phone = s.phone ∧ (holdoffExpiryStep s).voice = s.voice ∧
    (holdoffExpiryStep s).supply = s.supply ∧ (holdoffExpiryStep s).agent = s.agent ∧
    (holdoffExpiryStep s).cls.table = s.cls.table ∧ (holdoffExpiryStep s).cls.homeQueue = s.cls.homeQueue := by
  simp only [holdoffExpiryStep]; repeat' split
  all_goals simp

@[simp] theorem pacingStep_frame (s : State) :
    (pacingStep s).pending = s.pending ∧ (pacingStep s).due = s.due ∧ (pacingStep s).time = s.time ∧
    (pacingStep s).line = s.line ∧ (pacingStep s).load = s.load ∧ (pacingStep s).track = s.track ∧
    (pacingStep s).rate = s.rate ∧ (pacingStep s).sch = s.sch ∧ (pacingStep s).phone = s.phone ∧
    (pacingStep s).voice = s.voice ∧ (pacingStep s).supply = s.supply ∧ (pacingStep s).agent = s.agent ∧
    (pacingStep s).out = s.out ∧ (pacingStep s).cls.table = s.cls.table ∧
    (pacingStep s).cls.homeQueue = s.cls.homeQueue := by
  simp only [pacingStep]
  simp

@[simp] theorem offerDeadlineStep_frame (s : State) :
    (offerDeadlineStep s).pending = s.pending ∧ (offerDeadlineStep s).due = s.due ∧
    (offerDeadlineStep s).time = s.time ∧ (offerDeadlineStep s).phone = s.phone ∧
    (offerDeadlineStep s).voice = s.voice ∧ (offerDeadlineStep s).supply = s.supply ∧
    (offerDeadlineStep s).agent = s.agent ∧ (offerDeadlineStep s).cls.table = s.cls.table ∧
    (offerDeadlineStep s).cls.homeQueue = s.cls.homeQueue := by
  simp only [offerDeadlineStep]; repeat' split
  all_goals simp

@[simp] theorem offerSwitchStep_frame (s : State) :
    (offerSwitchStep s).pending = s.pending ∧ (offerSwitchStep s).due = s.due ∧ (offerSwitchStep s).time = s.time ∧
    (offerSwitchStep s).line = s.line ∧ (offerSwitchStep s).sch = s.sch ∧ (offerSwitchStep s).phone = s.phone ∧
    (offerSwitchStep s).voice = s.voice ∧ (offerSwitchStep s).supply = s.supply ∧
    (offerSwitchStep s).agent = s.agent ∧ (offerSwitchStep s).out = s.out ∧
    (offerSwitchStep s).cls.table = s.cls.table ∧ (offerSwitchStep s).cls.homeQueue = s.cls.homeQueue := by
  simp only [offerSwitchStep]; repeat' split
  all_goals simp

@[simp] theorem farChangeStep_frame (s : State) :
    (farChangeStep s).pending = s.pending ∧ (farChangeStep s).due = s.due ∧ (farChangeStep s).time = s.time ∧
    (farChangeStep s).line = s.line ∧ (farChangeStep s).phone = s.phone ∧ (farChangeStep s).voice = s.voice ∧
    (farChangeStep s).supply = s.supply ∧ (farChangeStep s).agent = s.agent ∧
    (farChangeStep s).cls.table = s.cls.table ∧ (farChangeStep s).cls.homeQueue = s.cls.homeQueue := by
  simp only [farChangeStep]; repeat' split
  all_goals simp

@[simp] theorem cutbackSwitchStep_frame (s : State) :
    (cutbackSwitchStep s).pending = s.pending ∧ (cutbackSwitchStep s).due = s.due ∧
    (cutbackSwitchStep s).time = s.time ∧ (cutbackSwitchStep s).line = s.line ∧
    (cutbackSwitchStep s).track = s.track ∧ (cutbackSwitchStep s).phone = s.phone ∧
    (cutbackSwitchStep s).voice = s.voice ∧ (cutbackSwitchStep s).supply = s.supply ∧
    (cutbackSwitchStep s).agent = s.agent ∧ (cutbackSwitchStep s).cls.table = s.cls.table ∧
    (cutbackSwitchStep s).cls.homeQueue = s.cls.homeQueue := by
  simp only [cutbackSwitchStep]; repeat' split
  all_goals simp

@[simp] theorem messageStep_frame (s : State) (k : MsgKind) (t : Byte) (b : Bytes) :
    (messageStep k t b s).pending = s.pending ∧ (messageStep k t b s).due = s.due ∧
    (messageStep k t b s).time = s.time ∧ (messageStep k t b s).phone = s.phone ∧
    (messageStep k t b s).voice = s.voice ∧ (messageStep k t b s).supply = s.supply ∧
    (messageStep k t b s).agent = s.agent ∧ (messageStep k t b s).cls.table = s.cls.table ∧
    (messageStep k t b s).cls.homeQueue = s.cls.homeQueue := by
  simp only [messageStep]; repeat' split
  all_goals simp

@[simp] theorem arrivalStep_frame (s : State) (a : Arrival) :
    (arrivalStep a s).pending = s.pending ∧ (arrivalStep a s).due = s.due ∧ (arrivalStep a s).time = s.time ∧
    (arrivalStep a s).phone = s.phone ∧ (arrivalStep a s).supply = s.supply ∧ (arrivalStep a s).agent = s.agent ∧
    (arrivalStep a s).cls.table = s.cls.table := by
  simp only [arrivalStep]; repeat' split
  all_goals simp

end Sys2Proof.Machine
end

