-- ==== Sys2Proof/Tests/Slice0.lean ====
section
/-! SUPPORT. The model's own tests. `test_wit_…` shows states and operands that meet the hypotheses of a statement, clause
by clause, mostly beside what the command then leaves; `test_ex_…` is a worked example of the manual; `test_wf_…` an
ill-formed command that the check refuses. Expected values are worked out by hand from the rules named. -/

namespace Sys2Proof.Tests

open Sys2Proof Sys2Proof.Machine

/-! ## Helpers -/

/-- The command answers a next state in which `f` is `x`. -/
def got {α : Type} [DecidableEq α] (f : State → α) (c : Instr) (s : State) (x : α) : Bool :=
  match exec c s with
  | .next t => f t == x
  | .fault _ => false
  | .refused _ => false

/-- The rate record brought up to date. -/
def rated (s : State) : State := { s with rate := rateRecord s }

/-- The line in a state, its timer at 0, at superframe 10, with 8 bits in each receive and 4 in each transmit group. -/
def lineIn (x : LineState) : State :=
  rated { State.reset with
    line := { LinePort.reset with
      state := x, superframe := 10
      training := if x = .training then some 0 else none
      holdoff := if x = .holdoff then some 0 else none
      silence := if x = .run then some 0 else none }
    load := { Loading.reset with rxLoads := List.replicate 64 8, txLoads := List.replicate 32 4 } }

/-- The line in RUN. -/
def inRun : State := lineIn .run

/-- A supply mode in force. -/
def onMode (m : Mode) (s : State) : State := rated { s with supply := { s.supply with mode := m } }

/-- Steps due. -/
def due (ds : List Due) (s : State) : State := { s with due := ds }

/-- A request of a kind with a body. -/
def req (kind : Nat) (body : Bytes) : Request :=
  { source := 5, version := 1, kind := BitVec.ofNat 8 kind, tag := 7, bodyLen := body.length, rest := body }

/-- The agent holds one request. -/
def asking (kind : Nat) (body : Bytes) (s : State) : State :=
  { s with agent := { s.agent with queue := [req kind body] } }

/-- The status in the newest reply. -/
def status (t : State) : Option Byte := (t.cls.mgmtQueue.getLast?).bind fun f => f.bytes[20]?

/-- The length and the bytes of the body of the newest reply. -/
def reply (t : State) : Option Bytes := (t.cls.mgmtQueue.getLast?).map fun f => f.bytes.drop 21

/-- A phone port in a state. -/
def portIn (x : PortState) : PhonePort := { PhonePort.reset with state := x }

/-- The ports in states. -/
def phones (one two : PhonePort) (s : State) : State := { s with phone := { s.phone with ports := ⟨one, two⟩ } }

/-- A LINE call on a stream. -/
def call (stream : Nat) : LineCall :=
  { stream := stream, target := 2, position := 0, seq := 0, samples := [], formed := false
    buffer := { playing := false, expected := none, held := [], last := none, conceal := 0 }, chosen := none }

/-- Record 1 with a LINE call. -/
def calling (c : LineCall) (s : State) : State :=
  { s with voice := ⟨{ ChannelRecord.reset with call := .line c }, ChannelRecord.reset⟩ }

/-- A message of 6 + n bytes. -/
def msg (k : MsgKind) (n : Nat) : Message := mkMessage k 0 (List.replicate n 9)

/-- A message has come in. -/
def arrived (k : MsgKind) (body : Bytes) : Due := .arrival (.message k 3 body)

/-- The occurrences of which the log tells, the oldest first. -/
def told (t : State) : List Event := t.evt.log.map LogRecord.event

/-- Watch 0 counts a source, its threshold 1. -/
def watched (x : WatchSource) (s : State) : State :=
  { s with mon := { s.mon with watches := { s.mon.watches with i0 := { source := x, threshold := 1, count := 0 } } } }

/-- What watch 0 has counted, and whether WATCH is pending. -/
def counted (t : State) : Nat × Bool := (t.mon.watches.i0.count, t.evt.pending.has .watch)

/-- R159: a request alone in the queue of an idle agent, with nothing due, is asked. -/
theorem asked {row : RequestRow} (kind : Nat) (body : Bytes) (s : State) (r : (req kind body).row = row) (d : s.due = [])
    (i : agentIdle s = true) : Asked row (req kind body) [] (asking kind body s) := by
  have h : settle (asking kind body s) = asking kind body s := settle_of_due_nil d
  exact ⟨by rw [h]; rfl, by rw [h]; exact i, r⟩

/-- R169: the body of such a request is there in full. -/
theorem hasBody (kind : Nat) (body : Bytes) : (req kind body).HasBody body.length := ⟨rfl, Nat.le_refl _⟩

/-! ## Well-formedness -/

/-- R175: 63 receive loads. -/
theorem test_wf_trained : ¬ (Instr.trained ⟨List.replicate 63 0, List.replicate 32 0, 0, 0⟩).WellFormed := by
  simp [Instr.WellFormed, TrainedRecord.WellFormed]

/-- R175: a load that no byte holds. -/
theorem test_wf_trained_load : ¬ (Instr.trained ⟨List.replicate 64 256, List.replicate 32 0, 0, 0⟩).WellFormed := by
  simp [Instr.WellFormed, TrainedRecord.WellFormed]

/-- R175: five bursts. -/
theorem test_wf_frame_report : ¬ (Instr.frameReport ⟨0, 0, List.replicate 5 ⟨0, 1⟩⟩).WellFormed := by
  simp [Instr.WellFormed, FrameReport.WellFormed]

/-- R175: 65 ratios. -/
theorem test_wf_margin_report : ¬ (Instr.marginReport (List.replicate 65 0)).WellFormed := by simp [Instr.WellFormed]

/-- R172: a unit of 63 bytes. -/
theorem test_wf_unit : ¬ (Instr.receivedUnit (List.replicate 63 0) false).WellFormed := by simp [Instr.WellFormed]

/-- The table gives no bits, so that no word spells a command (log entry 6). -/
theorem test_no_word_spells_a_command : decodeTableWord 8 0 = none := rfl

/-! ## The queue of commands, power-on -/

theorem test_wit_step :
    ({ State.reset with pending := [.start, .stop] } : State).pending = .start :: [.stop] ∧ State.reset.pending = [] :=
  ⟨rfl, rfl⟩

/-- R137: the mode comes back to MAINS and the line to OFF; the commands waiting stay. -/
theorem test_power_on :
    got (fun t => (t.line.state, t.supply.mode, t.pending)) .powerOn (onMode .reserve { inRun with pending := [.stop] })
      (.off, .mains, [.stop]) = true := by decide

/-! ## A state that meets every invariant, with everything in it at work -/

/-- RUN with a change in flight each way, a frame in progress, a voice frame and a message waiting, a call, a ring, a
sleeping host and a pull to come. -/
def busy : State :=
  rated { inRun with
    pending := [.unitPull]
    load := { inRun.load with
      own := .outstanding { number := 1, switch := 18, table := List.replicate 64 12, newProt := none }
      tx := .farPending { switch := 40, table := List.replicate 32 0, newProt := none } }
    sch := { Scheduler.reset 0 with
      queues := ⟨[], [⟨List.replicate 100 1, 0, 1⟩, ⟨List.replicate 60 2, 0, 0⟩], [], []⟩, inProgress := some .i1
      vq := [{ port := .p1, stream := 15, bytes := voiceFrameBytes 15 true 0 (List.replicate 80 0), started := true }]
      mq := [msg .loadTake 1], credit := 32000 }
    cls := { Classifier.reset with homeQueue := [List.replicate 14 3], sending := some (.home (List.replicate 14 3)) }
    phone := { Phone.reset with ports :=
      ⟨portIn .offHook, { portIn .ringing with
        ring := some { entry := 1, repeats := 0, segment := 1, onPhase := true, ms := 5, passes := 0 } }⟩ }
    voice := ⟨{ ChannelRecord.reset with call := .line (call 15) }, ChannelRecord.reset⟩
    mon := { Monitor.reset with
      seconds := 5, perf := { PerfCounters.zero with inRun := 5, inMains := 5, boundLine := 5, impulseCost := 5 } }
    evt := { EventUnit.reset with pending := 1, asleep := true } }

theorem test_busy_depths : DepthsOk busy ∧ StoreOk busy ∧ HomePortOk busy :=
  ⟨⟨by decide, by decide, by decide, by decide, by decide, by decide, by decide, by intro p; cases p <;> decide⟩,
   ⟨by decide, by decide, by decide, by decide⟩,
   ⟨fun f h => (by cases h), fun f h => (by cases h; rfl), fun h => (by cases h)⟩⟩

theorem test_busy_loads : LoadsOk busy ∧ ∀ c rest, busy.pending = c :: rest → c.WellFormed :=
  ⟨⟨⟨by decide, by decide⟩, ⟨by decide, by decide⟩, by intro t h; cases h; exact ⟨by decide, by decide⟩,
    by intro t h; cases h; exact ⟨by decide, by decide⟩⟩,
   by intro c rest h; cases h; trivial⟩

theorem test_busy_rates : RateOk busy ∧ ResidencyOk busy := ⟨rfl, fun _ => by decide⟩

/-- RUN in LIFELINE with a loading of 1280 above its ceiling of 1200, and a change in flight. -/
def overCeiling : State := onMode .lifeline { busy with load := { busy.load with txLoads := List.replicate 32 5 } }

theorem test_over_ceiling :
    CutbackOk overCeiling ∧ overCeiling.params.loadCeiling.get .lifeline < 8 * overCeiling.load.txLoads.sum :=
  ⟨fun _ _ _ => (by decide), by decide⟩

theorem test_busy_queues : QueuesOk busy ∧ ProgressOk busy := by
  refine ⟨⟨by intro i; cases i <;> decide, by decide, by intro i; cases i <;> decide, by decide⟩, ⟨?_, ?_, ?_⟩⟩
  · intro i f; cases i <;> simp [busy, rated, Quad.get]
  · intro i f rest; cases i <;> simp [busy, rated, Quad.get]
    rintro _ rfl; simp
  · intro i h
    cases h
    exact ⟨_, _, rfl, by decide, by decide⟩

theorem test_busy_calls : VoiceQueueOk busy ∧ CallsOk busy := by
  refine ⟨⟨by decide, by intro p; cases p <;> decide, ?_⟩, ⟨?_, ?_, ?_⟩⟩
  · intro f rest h; cases h; simp
  · intro p n h; cases p <;> cases h
  · intro m n _ h; cases h
  · intro p m h; cases p <;> cases h; decide

theorem test_busy_ports : PortsOk busy :=
  ⟨by decide, by decide, by intro p; cases p <;> decide, by intro p; cases p <;> decide⟩

theorem test_busy_line : TimersOk busy ∧ OutsideRunOk (lineIn .training) ∧ SchedulesOk busy ∧ HostAwakeOk busy := by
  refine ⟨⟨by decide, by decide, by decide⟩, ⟨fun _ => rfl, fun _ => rfl, ?_, fun _ => ⟨rfl, rfl, by decide⟩,
    fun _ => ⟨rfl, rfl, rfl⟩⟩, ?_, fun _ => (by decide)⟩
  · intro _ d; cases d <;> rfl
  · intro d; cases d <;> rfl

theorem test_reset_params : ParamsOk Params.reset := by
  constructor <;> first
    | decide
    | (intro m; cases m <;> decide)

/-- The invariants' statements are about a step that answers a next state. -/
theorem test_wit_invariants :
    (∃ t, step busy = .next t) ∧ (∃ t, step overCeiling = .next t) ∧
      (∃ t, step { lineIn .training with pending := [.signalLost] } = .next t) :=
  ⟨⟨_, rfl⟩, ⟨_, rfl⟩, ⟨_, rfl⟩⟩

theorem test_wit_flags_stay :
    Instr.unitPull ≠ .clearEvents ∧ Instr.unitPull ≠ .resetMonitor ∧ Instr.unitPull ≠ .powerOn ∧
      .partReset ∉ busy.due ∧ (∃ t, exec .unitPull busy = .next t) ∧ busy.evt.pending.has .lineUp = true :=
  ⟨by decide, by decide, by decide, by decide, ⟨_, rfl⟩, by decide⟩

theorem test_wit_only_some :
    (∀ a b, Instr.unitPull ≠ .msTick a b) ∧ Instr.unitPull ≠ .powerOn ∧ (∀ p, .pin p ∉ busy.due) ∧
      Instr.unitPull ≠ .writeTable ∧ Instr.unitPull ≠ .writeOn ∧ Instr.unitPull ≠ .setPartition ∧
      (∃ t, exec .unitPull busy = .next t) ∧ ParamsOk busy.params :=
  ⟨fun a b h => (by cases h), by decide, fun p => (by cases p <;> decide), by decide, by decide, by decide, ⟨_, rfl⟩, test_reset_params⟩

/-! ## The rate unit -/

/-- RUN with a receive guard of period 4400 and width 5. -/
def guarded : State :=
  rated { inRun with load := { inRun.load with
    prot := ⟨{ level := .p0, guard := some { period := 4400, width := 5, anchor := 0 } }, inRun.load.prot.tx⟩ } }

theorem test_in_run_loads : LoadsOk inRun :=
  ⟨⟨by decide, by decide⟩, ⟨by decide, by decide⟩, fun _ h => (by cases h), fun _ h => (by cases h)⟩

/-- R61, R62: 64 groups of 8 bits and 32 of 4; at P1 floor(4096 · 30 / 32). -/
theorem test_wit_raw_net :
    LoadsOk inRun ∧ (inRun.load.prot.get .receive).level = .p0 ∧ inRun.rate.raw = ⟨4096, 1024⟩ ∧
      inRun.rate.net = ⟨4096, 1024⟩ ∧ netOf 4096 .p1 = 3840 := ⟨test_in_run_loads, by decide⟩

/-- R63: 125 · 4096 / 16, and with the guard floor(512000 · 4395 / 70400); the widest products. -/
theorem test_wit_line_capacity :
    inRun.line.state = .run ∧ inRun.rate.capacity = ⟨32000, 8000⟩ ∧ guarded.line.state = .run ∧
      (recompute guarded).rate.capacity.rx = 31963 ∧ 125 * 6144 * (16000 - 0) < 2 ^ 40 ∧
      125 * 3072 * (65535 - 1) = 25165056000 := by decide

/-- R63: the manual's own example. -/
theorem test_ex_capacity : capacityOf 1500 (some (4400, 5)) = 11705 := by decide

/-- PROVIDER-CAP at 4000. -/
def provided (s : State) : State :=
  rated { s with agent := { s.agent with params := { s.agent.params with providerCap := 4000 } } }

/-- R64: LINE in MAINS; both caps at 4000 in LIFELINE give SUPPLY, and PROVIDER back in MAINS. R67: OFF. -/
theorem test_wit_capacities :
    inRun.line.state = .run ∧ (inRun.rate.effTx, inRun.rate.binding) = (8000, .line) ∧
      ((provided (onMode .lifeline inRun)).rate.effTx, (provided (onMode .lifeline inRun)).rate.binding) =
        (4000, .supply) ∧
      ((provided inRun).rate.effTx, (provided inRun).rate.binding) = (4000, .provider) ∧
      (lineIn .off).line.state ≠ .run ∧ (lineIn .off).rate.capacity = ⟨0, 0⟩ ∧ (lineIn .off).rate.raw = ⟨4096, 1024⟩ ∧
      LineState.training ≠ .run := by decide

/-- R65: 8000 · 12 / 16 and 32000 · 12 / 16; a share of 20 is clamped to 16. -/
theorem test_wit_voice_allowances :
    inRun.line.state = .run ∧ (inRun.rate.txAllowance, inRun.rate.rxAllowance) = (6000, 24000) ∧
      (lineIn .holdoff).line.state ≠ .run ∧ (writeParams 10 1 [[0, 0, 0, 20]] inRun).rate.txAllowance = 8000 := by
  decide

/-! ## Operations that many commands share -/

/-- Watch 0 counts the occurrences of LINE-UP. -/
def watching : State :=
  { State.reset with mon := { Monitor.reset with
    watches := ⟨{ source := .event .lineUp, threshold := 2, count := 0 }, Watch.reset, Watch.reset, Watch.reset⟩ } }

/-- R153, R156, R154, R146: the premises of the clauses, at a HOOK, an UNAVAILABLE, a TRAIN-FAIL and a LINE-UP. -/
theorem test_wit_raising :
    busy.evt.asleep = true ∧ busy.params.wakeMask.has .hook = true ∧
      (raise (.plain .hook) busy).evt.wakePin = true ∧ (raise (.plain .hook) busy).evt.asleep = false ∧
      busy.params.farMask.has .unavailable = true ∧ logsNow .trainFail (State.reset.evt.pending.has .trainFail) = true ∧
      (∀ i : Ix4, (State.reset.mon.watches.get i).source ≠ .event .hook) ∧ Kind.lineUp ≠ .watch ∧
      (watching.mon.watches.get .i0).source = .event .lineUp ∧
      ((raise (.plain .lineUp) watching).mon.watches.get .i0).count = 1 :=
  ⟨by decide, by decide, by decide, by decide, by decide, by decide, fun i => (by cases i <;> decide), by decide,
   by decide, by decide⟩

/-- R148, R150, R156: with pacing PACED, SUPPLY-CHANGE of both masks joins both sets, HOOK joins the notice-due set alone and
LINE-UP of the notice mask no far set; DIGIT, in neither mask here, joins none. R154: a full log of 64 loses one, counted. -/
theorem test_wit_sets :
    let s : State := { State.reset with
      evt := { EventUnit.reset with pacing := .paced 0 false, log := List.replicate 64 ⟨0, .trainFail, .off, .mains, none, none⟩ }
      agent := { Agent.reset with
        partition := 8, params := { Params.reset with noticeMask := 0x01001, farMask := 0x01000 } } }
    let sets (k : Kind) : KindSet × KindSet × Nat :=
      let t := raise (.plain k) s
      (t.evt.noticeDue, t.evt.farPending, t.evt.overwritten)
    s.evt.pacing ≠ .ready ∧ (∀ i : Ix4, (s.mon.watches.get i).source ≠ .event .supplyChange) ∧
      sets .supplyChange = (0x01000, 0x01000, 1) ∧ sets .lineUp = (0x00001, 0, 0) ∧ sets .digit = (0, 0, 0) :=
  ⟨by decide, fun i => (by cases i <;> decide), by decide, by decide, by decide⟩

/-- R146, R147: a watch on TRAIN-FAIL crosses its threshold: its index 0 is told of after the occurrence. -/
theorem test_wit_watch_told :
    let s := watched (.event .trainFail) State.reset
    (s.mon.watches.get .i0).threshold = (s.mon.watches.get .i0).count + 1 ∧ s.evt.pending.has .watch = false ∧
      (s.mon.watches.get .i1).source ≠ .event .trainFail ∧
      told (raise (.withA .trainFail 2) s) = [.withA .trainFail 2, .withA .watch 0] := by decide

/-- R14, R98: the frame in progress starts again, and VQ, MQ and both changes go. -/
theorem test_wit_line_down :
    LineState.off ≠ .run ∧ busy.sch.inProgress = some .i1 ∧
      (leaveRun .off busy).sch.queues.i1.map FrameRec.sent = [0, 0] ∧ (leaveRun .off busy).sch.vq = [] ∧
      (leaveRun .off busy).mon.traffic.sch.flushed = 1 ∧ (leaveRun .off busy).load.own = .none := by decide

/-- RUN with messages in MQ. -/
def queued (q : List Message) : State := { inRun with sch := { inRun.sch with mq := q } }

/-- R93: each row and column of the table. -/
theorem test_wit_mq_offer :
    (lineIn .off).line.state ≠ .run ∧ (mqOffer (msg .loadOffer 2) (lineIn .off)).mon.traffic.sch.refused = 1 ∧
      (mqOffer (msg .farAnswer 2) (queued (List.replicate 7 (msg .loadTake 1)))).sch.mq.length = 8 ∧
      (mqOffer (msg .farAnswer 2) (queued (List.replicate 8 (msg .loadTake 1)))).mon.traffic.sch.discardedReport = 1 ∧
      (mqOffer (msg .loadOffer 2)
        (queued ([msg .loadTake 1] ++ msg .faultReport 1 :: List.replicate 6 (msg .cutback 1)))).sch.mq =
        [msg .loadTake 1] ++ List.replicate 6 (msg .cutback 1) ++ [msg .loadOffer 2] ∧
      (mqOffer (msg .loadOffer 2) (queued (List.replicate 8 (msg .cutback 1)))).mon.traffic.sch.discardedLoad = 1 := by
  decide

/-- The home port is sending the head of a management egress queue of n frames. -/
def sendingMgmt (n : Nat) (part : Bool) : State :=
  let f : MgmtFrame := { bytes := List.replicate 21 1, partReply := part }
  { State.reset with cls := { Classifier.reset with mgmtQueue := List.replicate n f, sending := some (.mgmt f) } }

/-- R83, R159: a reply joins at 7, waits at 8, and joins when a frame has gone. -/
theorem test_wit_mgmt_offer :
    let f : MgmtFrame := { bytes := [2], partReply := false }
    let s := sendingMgmt 8 false
    ((mgmtOffer f (sendingMgmt 7 false)).map fun t => t.cls.mgmtQueue.length) = some 8 ∧ mgmtOffer f s = none ∧
      (offerReply f s).agent.waiting = some f ∧
      (finishSending { s with agent := { s.agent with waiting := some f } }).cls.mgmtQueue.getLast? = some f ∧
      (finishSending { s with agent := { s.agent with waiting := some f } }).cls.mgmtQueue.length = 8 := by decide

/-- Every Q-LIMIT at 16, and 15 units waiting in Q1. -/
def nearLimit : State :=
  { State.reset with
    agent := { Agent.reset with params := { Params.reset with qLimit := ⟨16, 16, 16, 16⟩ } }
    sch := { Scheduler.reset 2 with queues := ⟨[], List.replicate 15 ⟨[1], 0, 0⟩, [], []⟩ } }

/-- R87, R90: at level 2 Q3 and Q2 are shed; the sixteenth unit fits, a seventeenth does not. -/
theorem test_wit_admission :
    shedAt nearLimit.sch.shedLevel .i3 = true ∧
      (admitFrame .i3 [] nearLimit).mon.traffic.sch.shed = ⟨0, 0, 0, 1⟩ ∧
      shedAt nearLimit.sch.shedLevel .i1 = false ∧
      (admitFrame .i1 (List.replicate 60 0) nearLimit).sch.queues.i1.length = 16 ∧
      (admitFrame .i1 (List.replicate 61 0) nearLimit).mon.traffic.sch.tailDropped = ⟨0, 1, 0, 0⟩ := by decide

/-- A match field, and an entry with one. -/
def matching (sel : Selector) (offset value mask : Nat) (a : Action) (q : Ix4) : ClassEntry :=
  { ClassEntry.empty with
    valid := true, action := a, queue := q
    matchA := { selector := sel, offset := offset, value := BitVec.ofNat 16 value, mask := BitVec.ofNat 16 mask } }

/-- The five entries of section 5.6. -/
def morning : List ClassEntry :=
  [matching .type 0 0x0806 0xFFFF .count .i0,
   { matching .word 36 0x13C4 0xFFFF .queue .i0 with
     matchB := { selector := .word, offset := 40, value := 0x13C4, mask := 0xFFFF } },
   matching .vlan 0 0x00FF 0x0FFF .drop .i0, matching .prio 0 4 4 .queue .i1, matching .type 0 0x0800 0xFFFF .count .i0]

/-- An untagged frame of a type, of 60 bytes. -/
def untagged (type : Bytes) : Bytes := List.replicate 12 0 ++ type ++ List.replicate 46 0

/-- Arrival 3 of section 5.6: VLAN 255 at priority 5, cut short. -/
def camera : Bytes := List.replicate 12 0 ++ [0x81, 0, 0xA0, 0xFF, 8, 0] ++ List.replicate 60 0

/-- Section 5.6: the ARP frame counts at entry 0 and is defaulted; the camera's frame is dropped at entry 2. -/
theorem test_ex_morning :
    (classWalk (untagged [8, 6]) morning).2 = .defaulted ∧
      (classWalk (untagged [8, 6]) morning).1.map ClassEntry.hits = [1, 0, 0, 0, 0] ∧
      (classWalk camera morning).2 = .drop ∧ (classWalk camera morning).1.map ClassEntry.hits = [0, 0, 1, 0, 0] := by
  decide

/-- R78: the premises of both clauses: two entries before the one that decides, and a table of COUNT entries alone. -/
theorem test_wit_class_walk :
    (∀ x ∈ morning.take 2, x.valid = true → x.admits camera = true → x.action = .count) ∧
      (matching .vlan 0 0x00FF 0x0FFF .drop .i0).admits camera = true ∧
      (∀ x ∈ [matching .type 0 0x0806 0xFFFF .count .i0], x.valid = true → x.admits (untagged [8, 6]) = true →
        x.action = .count) := by decide

/-- A frame of 26 units waits in Q3, nothing in progress. -/
def choosing : State :=
  { inRun with sch := { inRun.sch with queues := ⟨[], [], [], [⟨List.replicate 1536 1, 0, 0⟩]⟩ } }

/-- R86: 1536 bytes make 26 units. -/
theorem choosing_units (f : FrameRec) (h : f ∈ choosing.sch.queues.i3) : f.units ≤ 26 := by
  have e : f = ⟨List.replicate 1536 1, 0, 0⟩ := List.mem_singleton.1 h
  rw [e, FrameRec.units, List.length_replicate]
  decide

set_option maxRecDepth 20000 in
/-- R97: weight 1 gives 8 a visit, so the fourth visit to Q3 pays for 26 units. -/
theorem test_wit_selection :
    choosing.sch.inProgress = none ∧ ParamsOk choosing.params ∧
      (∀ i f, f ∈ choosing.sch.queues.get i → f.units ≤ 26) ∧ (selectData choosing).sch.inProgress = some .i3 ∧
      (selectData choosing).sch.deficit.q3 = 6 := by
  refine ⟨rfl, test_reset_params, ?_, by decide, by decide⟩
  intro i f h
  cases i
  · cases h
  · cases h
  · cases h
  · exact choosing_units f h

/-- Frames of one unit wait in the queues named, at 2001 ms: the first of each has waited so long, the second 1001 ms. -/
def robin (turn : Drr) (mark : Bool) (shedLevel : Nat) (held : Ix4 → Bool) : State :=
  let q (i : Ix4) : List FrameRec := if held i then [⟨[1], 0, 0⟩, ⟨[2], 1000, 0⟩] else []
  { inRun with
    time := ⟨2001, 0⟩
    sch := { inRun.sch with
      queues := ⟨q .i0, q .i1, q .i2, q .i3⟩, deficit := ⟨1, 1, 1⟩, turn := turn, mark := mark, shedLevel := shedLevel } }

/-- What a selection leaves: the queue in progress, the bytes of its head, the deficits, the turn and the mark. -/
def selected (s : State) : Option Ix4 × List Bytes × Tri Nat × Drr × Bool :=
  let x := (selectData s).sch
  (x.inProgress, x.queues.i0.map FrameRec.bytes ++ x.queues.i2.map FrameRec.bytes, x.deficit, x.turn, x.mark)

/-- R89, R97: Q0 first; all idle. -/
theorem test_wit_robin_first :
    selected (robin .q1 true 0 fun _ => true) = (some .i0, [[2], [1], [2]], ⟨1, 1, 1⟩, .q1, true) ∧
      selected (robin .q2 true 0 fun _ => false) = (none, [], ⟨0, 0, 0⟩, .q2, false) := by decide

/-- R89, R97: a shed and an empty turn passed; a stale head. -/
theorem test_wit_round_robin :
    shedAt 1 Drr.q3.queue = true ∧
      selected (robin .q3 true 1 (· == .i2)) = (some .i2, [[2]], ⟨0, 16, 0⟩, .q2, true) := by decide

/-- R89, R97: a head that fits with its quantum, and in a turn that has had it; a stale head of Q1. -/
theorem test_wit_robin_turns :
    selected (robin .q2 false 0 (· == .i2)) = (some .i2, [[2]], ⟨1, 16, 1⟩, .q2, true) ∧
      selected (robin .q2 true 0 (· == .i2)) = (some .i2, [[2]], ⟨1, 0, 1⟩, .q2, true) ∧
      (dropStale .i1 (robin .q1 false 0 fun _ => true)).mon.traffic.sch.stale.i1 = 1 ∧
      shedAt 0 Drr.q2.queue = false := by decide

/-- RUN in LIFELINE with 1280 loaded, above the ceiling of 1200. -/
def cutting : State := onMode .lifeline { inRun with load := { inRun.load with txLoads := List.replicate 32 5 } }

/-- R38: 10 bits have to go: the two highest groups are emptied; the switch is at 10 + 8. -/
theorem test_wit_cutback :
    cutting.supply.mode ≠ .mains ∧ cutting.line.state = .run ∧
      cutting.params.loadCeiling.get cutting.supply.mode < 8 * cutting.load.txLoads.sum ∧ cutting.load.tx = .none ∧
      cutting.sch.mq.length < 8 ∧
      (cutbackTest cutting).load.tx =
        .cutbackOut { switch := 18, table := List.replicate 30 5 ++ [0, 0], number := 1, answered := false } := by
  decide

/-- A line with a transmit guard in force, period 4400 and width 4, that next starts at symbol n. -/
def txGuarded (n : Word32) (s : State) : State :=
  rated { s with
    load := { s.load with prot := { s.load.prot with
      tx := { level := .p1, guard := some { period := 4400, width := 4, anchor := n } } } }
    track := { s.track with sched := { s.track.sched with tx := some { period := 4400, width := 4, next := n } } } }

/-- The guards of the commands to the transceiver: the anchor's superframe and offset. -/
def anchors (t : State) : List (Option (Superframe × Nat)) :=
  t.out.commands.map fun c => match c with
    | .tableSet x => x.guard.map fun g => (g.anchorSuperframe, g.anchorOffset)
    | .train _ => none
    | .halt => none
    | .tableCancel _ _ => none

/-- R38, R173: the switch is at symbol 800; a start there stays, and one at 799 moves on by a period to 5199, which is 4399 on.
The message has the number, the switch and 32 loads. -/
theorem test_wit_cutback_sent :
    let s (n : Word32) : State := txGuarded n cutting
    (s 800).track.sched.get .transmit = some ⟨4400, 4, 800⟩ ∧ atOrAfter (800 : Word32) 800 = true ∧
      atOrAfter (799 : Word32) 800 = false ∧ (s 799).load.tx = .none ∧
      anchors (cutbackTest (s 800)) = [some (18, 0)] ∧ anchors (cutbackTest (s 799)) = [some (61, 99)] ∧
      (cutbackTest (s 800)).sch.mq.map (fun m => m.bytes.drop 6) = [[1, 18] ++ List.replicate 30 5 ++ [0, 0]] := by
  decide

/-! ## Time -/

/-- Port 1 OFF-HOOK with a pulse and a break that has been seen for 19 ms, port 2 UNFED, both pins accepted, MAINS-OK
low for 49 ticks, the training timer one tick short, at the thousandth tick. -/
def ticking : State :=
  let s := phones { portIn .offHook with accepted := true, stable := 19, pulses := 1 } (portIn .unfed) (lineIn .training)
  { s with
    time := ⟨5, 999⟩, line := { s.line with training := some 59999 }
    supply := { s.supply with mainsOk := ⟨some true, some false, 49⟩, battLow := ⟨some false, some false, 0⟩ } }

/-- R6, R102, R131, R137. -/
theorem test_wit_ms_tick :
    ticking.phone.ports.one.state ≠ .unfed ∧ ticking.phone.ports.one.state = .offHook ∧
      0 < ticking.phone.ports.one.pulses ∧ ticking.phone.ports.two.state = .unfed ∧
      ticking.supply.mainsOk.accepted = some true ∧ ticking.supply.battLow.accepted = some false ∧
      got (fun t => (t.time, t.due, t.phone.ports.one.interdigitMs)) (.msTick false false) ticking
        (⟨6, 0⟩, [.trainingTimeout, .pin .mainsOk, .hook .p1, .secondTick], 1) = true := by decide

/-- R131, log entry 19: a pin with no accepted level. The fiftieth tick at a level makes its acceptance due and the forty-ninth
does not; a tick of another level starts the count at 0; the first tick after power-on counts 1. -/
theorem test_wit_first_acceptance :
    let s (x : PinDebounce) : State := { State.reset with supply := { State.reset.supply with mainsOk := x } }
    let seen (t : State) : List Due × Nat := (t.due, t.supply.mainsOk.stable)
    got seen (.msTick false false) (s ⟨none, some false, 49⟩) ([.pin .mainsOk], 50) = true ∧
      got seen (.msTick false false) (s ⟨none, some false, 48⟩) ([], 49) = true ∧
      got seen (.msTick true false) (s ⟨none, some false, 49⟩) ([], 0) = true ∧
      got (fun t => (seen t, t.supply.battLow.stable)) (.msTick true false) State.reset (([], 1), 1) = true := by decide

/-- R105, R106, R110, R151: the timers of the ports and of pacing at the tick that brings them to their limits: the break at
101 and at 701 ms, the digit at 300, the ring's 400 ms, pacing at 500 and, refused with an interval of 0, at 100. -/
theorem test_wit_ms_tick_expiries :
    let s (one two : PhonePort) (p : Pacing) (every : Nat) : State :=
      let t := phones one two State.reset
      { t with evt := { t.evt with pacing := p }
               agent := { t.agent with params := { t.agent.params with noticeInterval := every } } }
    let ring (ms : Nat) : PhonePort := { portIn .ringing with
      ring := some { entry := 0, repeats := 0, segment := 1, onPhase := true, ms := ms, passes := 0 } }
    let broken (n k : Nat) : PhonePort := { portIn .inBreak with pulses := k, breakMs := n }
    let dialled (n : Nat) : PhonePort := { portIn .offHook with pulses := 1, interdigitMs := n, accepted := true, rawOff := true }
    got (fun t => (t.due, t.evt.pacing)) (.msTick true false) (s (broken 100 1) (dialled 299) (.paced 499 true) 5)
        ([.breakPulses .p1, .interdigit .p2, .pacing], .paced 500 true) = true ∧
      got (fun t => t.due) (.msTick true false) (s (broken 99 1) (dialled 298) (.paced 498 true) 5) [] = true ∧
      got (fun t => (t.due, t.phone.ports.two.ring.map Ring.ms)) (.msTick true false)
        (s (broken 700 0) (ring 399) (.paced 99 true) 0) ([.hangUp .p1, .ringPhase .p2, .pacing], some 400) = true ∧
      got (fun t => t.due) (.msTick true false) (s (broken 699 0) (ring 398) (.paced 98 true) 0) [] = true ∧
      got (fun t => t.due) (.msTick true false) (s (portIn .onHook) (portIn .unfed) .ready 5) [] = true := by decide

/-- R94: 31000 and 8000 more stop at 32000. -/
theorem test_credit_stops_at_the_bucket :
    got (fun t => t.sch.credit) (.msTick true false) { inRun with sch := { inRun.sch with credit := 31000 } } 32000 = true := by
  decide

/-- RUN after nine severely errored seconds, the tenth at hand. -/
def tenth : State :=
  due [.secondTick] { inRun with mon := { inRun.mon with damage := 64, sesRun := 9 } }

/-- R139, R140, R141: the tenth makes the line UNAVAILABLE and orders a retrain; the tick finds RUN. -/
theorem test_wit_second_tick :
    .secondTick ∈ tenth.due ∧ tenth.mon.available = true ∧
      got (fun t => (t.mon.seconds, t.mon.perf.ses, t.mon.available, t.line.state, t.mon.perf.inRun)) .secondTick tenth
        (1, 1, false, .training, 1) = true := by decide

/-- R139, R147: a severely errored second before the tenth raises SES alone; the tenth tells of UNAVAILABLE and of the line
going down and retraining for it; a clear second raises nothing. -/
theorem test_wit_second_raises :
    let s (damage run : Nat) : State :=
      due [.secondTick] { inRun with mon := { inRun.mon with damage := damage, sesRun := run } }
    let seen (t : State) : Bool × List Event := (t.evt.pending.has .ses, told t)
    got seen .secondTick (s 64 5) (true, []) = true ∧ got seen .secondTick (s 63 9) (false, []) = true ∧
      got seen .secondTick tenth (true, [.plain .unavailable, .withA .lineDown 4, .withA .retrain 4]) = true := by decide

/-- R140: the tenth clear second in RUN makes the line available again. -/
theorem test_wit_second_tick_clear :
    got (fun t => (t.mon.available, t.mon.perf.uas, t.line.state)) .secondTick
      (due [.secondTick] { inRun with mon := { inRun.mon with available := false, clearRun := 9 } })
      (true, 0, .run) = true := by decide

/-- R141, R143: a tick bound by PROVIDER with a receive guard scheduled; the minima, and a tick outside RUN. -/
theorem test_wit_second_residency :
    got (fun t => (t.mon.perf.boundProvider, t.mon.perf.boundLine, t.mon.perf.impulseCost, t.mon.interval.minEffTx,
          t.mon.interval.noRun)) .secondTick
        (due [.secondTick] { provided inRun with track := { inRun.track with sched := ⟨some ⟨40, 5, 0⟩, none⟩ } })
        (1, 0, 1, some 4000, false) = true ∧
      got (fun t => (t.mon.perf.boundLine, t.mon.perf.impulseCost, t.mon.interval.minRx)) .secondTick
        (due [.secondTick] { inRun with mon := { inRun.mon with interval := { Interval.start 0 with minRx := some 31999 } } })
        (1, 0, some 31999) = true ∧
      got (fun t => (t.mon.interval.minRx, t.mon.interval.noRun)) .secondTick (due [.secondTick] (lineIn .off))
        (none, true) = true := by decide

/-- R156: reported at an age of 60 and not at 59, nor outside RUN; an empty set is not reported. -/
theorem test_wit_fault_report :
    let s (x : State) (age : Nat) (far : KindSet) : State :=
      due [.secondTick] { x with evt := { x.evt with reportAge := age, farPending := far } }
    let seen (t : State) : Nat × KindSet × List Bytes :=
      (t.evt.reportAge, t.evt.farPending, t.sch.mq.map fun m => m.bytes.drop 6)
    got seen .secondTick (s inRun 59 0x800) (0, 0, [[0, 0, 8, 0, 0, 0, 0, 1, 2, 0]]) = true ∧
      got seen .secondTick (s inRun 58 0x800) (59, 0x800, []) = true ∧
      got seen .secondTick (s (lineIn .off) 59 0x800) (60, 0x800, []) = true ∧
      got seen .secondTick (s inRun 255 0) (255, 0, []) = true := by decide

/-- R89, R146: at 2001 ms the head of Q1 in progress stays, that of Q2 is stale; a TIME watch on LINE-RUN at its threshold,
and outside RUN. -/
theorem test_wit_second_sweep :
    let w : Watch := { source := .time .lineRun, threshold := 1, count := 0 }
    let s (x : State) : State := due [.secondTick] { x with
      time := ⟨2001, 0⟩
      sch := { x.sch with queues := ⟨[], [⟨[1], 0, 0⟩], [⟨[1], 0, 0⟩], []⟩, inProgress := some .i1 }
      mon := { x.mon with watches := ⟨w, w, w, w⟩ } }
    got (fun t => ((t.sch.queues.i1.length, t.sch.queues.i2.length, t.mon.traffic.sch.stale.i2), t.mon.watches.i3.count,
          t.evt.pending.has .watch)) .secondTick (s inRun) ((1, 0, 1), 1, true) = true ∧
      got (fun t => (t.mon.watches.i3.count, t.evt.pending.has .watch)) .secondTick (s (lineIn .off)) (0, false) = true ∧
      got (fun t => (t.line.state, t.sch.queues.i1.length)) .secondTick
        (let u := s tenth; { u with mon := tenth.mon }) (.training, 0) = true := by decide

/-- R143, R144: the 900th second makes the close due, and the close puts the record in the ring. -/
theorem test_wit_interval :
    got (fun t => t.due) .secondTick (due [.secondTick]
      { inRun with mon := { inRun.mon with interval := { Interval.start 0 with elapsed := 899 } } }) [.intervalClose] = true ∧
    (let s := due [.intervalClose] { inRun with mon := { inRun.mon with
        seconds := 900, interval := { Interval.start 0 with elapsed := 900 }
        history := List.replicate 16 (Interval.start 7) } }
     .intervalClose ∈ s.due ∧ s.mon.interval.elapsed = 900 ∧
       got (fun t => (t.mon.history.length, t.mon.history.head?.map Interval.elapsed, t.mon.interval.stamp))
         .intervalClose s (16, some 900, 900) = true) := by decide

/-- R146: an EDGE watch counts the entry at the command that enters it, and raises WATCH at its threshold. -/
theorem test_wit_edge_entries :
    got counted (.trained ⟨List.replicate 64 8, List.replicate 32 4, 0, 0⟩) (watched (.edge .lineRun) (lineIn .training))
        (1, true) = true ∧
      counted (writeParams 9 1 [[0, 0, 0, 200]] (watched (.edge .bindingProvider) inRun)) = (1, true) ∧
      got counted (.hookAcceptance .p1)
        (watched (.edge .port1OffHook) (due [.hook .p1] (phones (portIn .onHook) (portIn .onHook) State.reset)))
        (1, true) = true ∧
      got counted (.pinAcceptance .mainsOk) (watched (.edge .onBattery) (due [.pin .mainsOk] { inRun with
        supply := { inRun.supply with mainsOk := ⟨some true, some false, 50⟩, battLow := ⟨some false, none, 0⟩ } }))
        (1, true) = true := by decide

/-- R146: it counts nothing while its condition merely holds. -/
theorem test_wit_edge_holds :
    got counted (.frameReport ⟨11, 0, []⟩) (watched (.edge .lineRun) inRun) (0, false) = true ∧
      counted (writeParams 9 1 [[0, 0, 0, 200]] (watched (.edge .bindingProvider) (provided inRun))) = (0, false) ∧
      got counted (.hookAcceptance .p1) (watched (.edge .port1OffHook)
        (due [.hook .p1] (phones { portIn .inBreak with breakMs := 101 } (portIn .onHook) State.reset))) (0, false) = true ∧
      got counted .secondTick (watched (.edge .lineRun) (due [.secondTick] inRun)) (0, false) = true := by decide

/-! ## The line -/

/-- A TRAINED record at P3 and P0, every load at b. -/
def record (b lr : Nat) : TrainedRecord := ⟨List.replicate 64 b, List.replicate 32 b, lr, 0⟩

/-- R9, R37: loads at 12 and level 3 pass; in LIFELINE the loading of 3072 is over its ceiling and a cutback goes out. -/
theorem test_wit_trained :
    (lineIn .training).line.state = .training ∧ (∀ b ∈ (record 12 3).rxLoads, b ≤ 12) ∧
      (∀ b ∈ (record 12 3).txLoads, b ≤ 12) ∧ (record 12 3).rxLevel = Level.p3.code ∧
      (onMode .lifeline (lineIn .training)).supply.mode ≠ .mains ∧
      got (fun t => (t.line.state, t.rate.raw, t.rate.capacity, t.out.commands)) (.trained (record 12 3)) (lineIn .training)
        (.run, ⟨6144, 3072⟩, ⟨36000, 24000⟩, []) = true ∧
      got (fun t => decide (t.load.tx = .none)) (.trained (record 12 3)) (onMode .lifeline (lineIn .training)) false = true := by
  decide

/-- R9, R10: the three ways, and the records outside TRAINING. -/
theorem test_wit_training_fails :
    (lineIn .training).line.state = .training ∧
      got (fun t => (t.line.state, t.line.holdoff, t.out.commands)) (.trainFailed 2) (lineIn .training)
        (.holdoff, some 0, []) = true ∧
      got (fun t => (t.line.state, t.out.commands)) .trainingTimeout (due [.trainingTimeout] (lineIn .training))
        (.holdoff, [.halt]) = true ∧
      (∃ b ∈ (record 13 0).rxLoads ++ (record 13 0).txLoads, 12 < b) ∧ 3 < (record 12 4).rxLevel ∧
      got (fun t => (t.line.state, t.out.commands)) (.trained (record 13 0)) (lineIn .training) (.holdoff, [.halt]) = true ∧
      got (fun t => (t.line.state, t.out.commands)) (.trained (record 12 4)) (lineIn .training) (.holdoff, [.halt]) = true ∧
      inRun.line.state ≠ .training ∧ got (fun t => t.line.state) (.trainFailed 2) inRun .run = true := by decide

/-- R13: the three ways out of RUN; R12: a SIGNAL-LOST elsewhere. -/
theorem test_wit_leaving_run :
    inRun.line.state = .run ∧
      got (fun t => (t.line.state, t.mon.lossMark, t.out.commands)) .signalLost inRun
        (.training, true, [.halt, .train 3072]) = true ∧
      got (fun t => (t.line.state, t.mon.line.retrains)) .silenceExpiry (due [.silenceExpiry] inRun) (.training, 1) = true ∧
      got (fun t => (t.line.state, status t)) .retrain (asking 10 [3] inRun) (.training, some 0) = true ∧
      (lineIn .holdoff).line.state ≠ .run ∧ got (fun t => t.line.state) .signalLost (lineIn .holdoff) .holdoff = true := by
  decide

/-- R11, R16. -/
theorem test_wit_holdoff :
    got (fun t => (t.line.state, t.mon.line.retrains)) .holdoffExpiry (due [.holdoffExpiry] (lineIn .holdoff))
        (.training, 1) = true ∧
      got (fun t => (t.line.state, status t)) .retrain (asking 10 [3] (lineIn .holdoff)) (.training, some 0) = true ∧
      got (fun t => (t.out.commands, status t)) .retrain (asking 10 [3] (lineIn .training)) ([], some 0) = true ∧
      got (fun t => (t.line.state, status t)) .retrain (asking 10 [3] (lineIn .off)) (.off, some 5) = true := by decide

theorem test_wit_asked_retrain :
    Asked .retrain (req 10 [3]) [] (asking 10 [3] inRun) ∧ (req 10 [3]).HasBody 1 ∧
      Asked .retrain (req 10 [3]) [] (asking 10 [3] (lineIn .holdoff)) :=
  ⟨asked 10 [3] inRun rfl rfl rfl, hasBody 10 [3], asked 10 [3] (lineIn .holdoff) rfl rfl rfl⟩

/-- R7, R8, R15. -/
theorem test_wit_start_stop :
    got (fun t => (t.line.state, t.line.training, t.out.commands, status t)) .start (asking 10 [1] State.reset)
        (.training, some 0, [.train 3072], some 0) = true ∧
      got (fun t => (t.line.state, t.out.commands, status t)) .start (asking 10 [1] inRun) (.run, [], some 0) = true ∧
      got (fun t => (t.line.state, t.out.commands, status t)) .stop (asking 10 [2] (lineIn .holdoff))
        (.off, [.halt], some 0) = true ∧
      got (fun t => (t.line.state, t.evt.pending.has .lineDown, t.mon.line.retrains)) .stop (asking 10 [2] inRun)
        (.off, true, 0) = true := by decide

theorem test_wit_asked_start_stop :
    Asked .start (req 10 [1]) [] (asking 10 [1] State.reset) ∧ Asked .start (req 10 [1]) [] (asking 10 [1] inRun) ∧
      Asked .stop (req 10 [2]) [] (asking 10 [2] inRun) ∧ Asked .stop (req 10 [2]) [] (asking 10 [2] (lineIn .holdoff)) ∧
      (req 10 [1]).HasBody 1 ∧ byteAt (req 10 [1]).body 0 = 1 ∧ (req 10 [2]).HasBody 1 :=
  ⟨asked 10 [1] State.reset rfl rfl rfl, asked 10 [1] inRun rfl rfl rfl, asked 10 [2] inRun rfl rfl rfl,
   asked 10 [2] (lineIn .holdoff) rfl rfl rfl, hasBody 10 [1], rfl, hasBody 10 [2]⟩

/-- R6 to R13, R147: the cause or the reason in each record. -/
theorem test_wit_causes :
    got told .signalLost inRun [.withA .lineDown 1, .withA .retrain 1] = true ∧
      got told .silenceExpiry (due [.silenceExpiry] inRun) [.withA .lineDown 2, .withA .retrain 2] = true ∧
      got told .retrain (asking 10 [3] inRun) [.withA .lineDown 5, .withA .retrain 5] = true ∧
      got told .stop (asking 10 [2] inRun) [.withA .lineDown 6] = true ∧
      got told .holdoffExpiry (due [.holdoffExpiry] (lineIn .holdoff)) [.withA .retrain 7] = true ∧
      got told .retrain (asking 10 [3] (lineIn .holdoff)) [.withA .retrain 5] = true := by decide

/-- R9, R10: a timeout, the record's reason, 0 and 4 read as OTHER, and a record that fails its check. -/
theorem test_wit_train_fail_reasons :
    got told .trainingTimeout (due [.trainingTimeout] (lineIn .training)) [.withA .trainFail 0] = true ∧
      got told (.trainFailed 3) (lineIn .training) [.withA .trainFail 3] = true ∧
      got told (.trainFailed 0) (lineIn .training) [.withA .trainFail 5] = true ∧
      got told (.trainFailed 4) (lineIn .training) [.withA .trainFail 5] = true ∧
      got told (.trained (record 13 0)) (lineIn .training) [.withA .trainFail 4] = true := by decide

/-- RUN with an own offer that switches at superframe 2. -/
def offering (x : OwnOffer → OwnRecord) : State :=
  { inRun with load := { inRun.load with
      own := x { number := 0, switch := 2, table := List.replicate 64 7, newProt := none }
      lastOffer := some 0, failures := 2 } }

/-- A report for a superframe, with no burst. -/
def report (superframe : Superframe) (damaged : Byte) : FrameReport := ⟨superframe, damaged, []⟩

/-- R4, R33, R34 and section 2.9: distance 3 is in time, 2 is the deadline; a CONFIRMED offer switches at distance 0. -/
theorem test_wit_frame_report :
    inRun.line.state = .run ∧
      got (fun t => (t.line.symbolCount, t.mon.damage, t.due)) (.frameReport (report 255 3)) (offering .outstanding)
        (100, 3, []) = true ∧
      got (fun t => t.due) (.frameReport (report 0 0)) (offering .outstanding) [.offerDeadline] = true ∧
      got (fun t => t.due) (.frameReport (report 1 0)) (offering .confirmed) [] = true ∧
      got (fun t => t.due) (.frameReport (report 2 0)) (offering .confirmed) [.offerSwitch] = true ∧
      got (fun t => (t.line.symbolCount, t.mon.damage)) (.frameReport (report 2 9)) (lineIn .training) (100, 0) = true ∧
      got (fun t => t.line.symbolCount) (.frameReport (report 2 9)) (lineIn .holdoff) 0 = true := by decide

/-- R56: at the report of symbol count 100 a guard at 199 has started, one at 200 has not. -/
theorem test_guard_comes_due :
    let s (n : Word32) : State := { inRun with track := { inRun.track with sched := ⟨none, some ⟨40, 5, n⟩⟩ } }
    got (fun t => t.due) (.frameReport (report 11 0)) (s 199) [.guard .transmit] = true ∧
      got (fun t => t.due) (.frameReport (report 11 0)) (s 200) [] = true := by decide

/-- A transmit change is reached at its own superframe. -/
theorem test_change_switches_come_due :
    got (fun t => t.due) (.frameReport (report 40 0)) busy [.offerDeadline, .farChangeSwitch] = true ∧
      got (fun t => t.due) (.frameReport (report 18 0))
        { inRun with load := { inRun.load with tx := .cutbackOut ⟨18, List.replicate 32 0, 1, false⟩ } }
        [.cutbackSwitch] = true := by decide

/-- A receive guard of period 40 whose next start is at n, at symbol count 0. -/
def scheduled (n : Word32) : State :=
  due [.guard .receive] { inRun with track := { inRun.track with sched := ⟨some ⟨40, 5, n⟩, none⟩ } }

/-- R56: starts before symbol 100 are passed; one at 100 stays. -/
theorem test_wit_guard_countdown :
    (scheduled 0).track.sched.get .receive = some ⟨40, 5, 0⟩ ∧ before 0 (0 + 100) = true ∧
      got (fun t => t.track.sched.rx) (.guardCountdown .receive) (scheduled 0) (some ⟨40, 5, 120⟩) = true ∧
      before 100 (0 + 100) = false ∧
      got (fun t => t.track.sched.rx) (.guardCountdown .receive) (scheduled 100) (some ⟨40, 5, 100⟩) = true := by decide

/-- R56: with the odd period 41 the first start at or after symbol 100 of those from 0 is at 123, 3 periods on. -/
theorem test_wit_guard_odd :
    let s : State := due [.guard .receive] { inRun with track := { inRun.track with sched := ⟨some ⟨41, 5, 0⟩, none⟩ } }
    got (fun t => t.track.sched.rx) (.guardCountdown .receive) s (some ⟨41, 5, 123⟩) = true ∧
      ((123 - 100 : Word32).toNat < 41 ∧ (41 : Int) ∣ (0 - 100 : Word32).toInt - (123 - 100 : Word32).toNat) := by decide

/-! ## The reload exchange -/

/-- Section 2.9: groups 5, 17, 40 and 41 at 6, 4, 3 and 2 bits, every other of the 64 at 8, superframe 250, symbol
5,000,000, protection P2. -/
def example29 : State :=
  rated { inRun with
    line := { inRun.line with superframe := 250, symbolCount := 5000000 }
    load := { inRun.load with
      rxLoads := ((((List.replicate 64 8).set 5 6).set 17 4).set 40 3).set 41 2
      prot := ⟨{ level := .p2, guard := none }, inRun.load.prot.tx⟩, offerNumber := 255 }
    track := { inRun.track with history := [⟨4999000, 2⟩] } }

/-- The ratios of section 2.9. -/
def ratios29 : List Byte := ((((List.replicate 64 140).set 5 104).set 17 79).set 40 110).set 41 95

/-- Section 2.9: offer 0 switches at superframe 2, and the groups become 5, 3, 4 and 3. -/
theorem test_ex_margin_report :
    got (fun t => t.load.own) (.marginReport ratios29) example29
      (.outstanding { number := 0, switch := 2,
                      table := ((((List.replicate 64 8).set 5 5).set 17 3).set 40 4).set 41 3, newProt := none }) = true := by
  decide

/-- R25 and section 2.9: margins 4 and 46, headrooms -8 and 34; a group at 12 bits has no headroom. -/
theorem test_wit_margins :
    example29.line.state = .run ∧ example29.load.rxLoads[5]? = some 6 ∧ ratios29[5]? = some 104 ∧
      got (fun t => (t.load.report.map (·[5]?), t.load.report.map (·[40]?))) (.marginReport ratios29) example29
        (some (some ⟨4, some (-8), ⟨true, false, false⟩⟩), some (some ⟨46, some 34, ⟨false, true, false⟩⟩)) = true ∧
      (groupReport Params.reset Loading.reset 12 255).headroom = none ∧
      got (fun t => t.load.report) (.marginReport ratios29) (lineIn .off) none = true := by decide

/-- Symbol 5,000,000 in RUN, a level in force, the records of the history by age and length, a lock and a lower-hold
count. -/
def noisy (lv : Level) (h : List (Nat × Nat)) (lock : Option Lock) (hold : Nat) : State :=
  rated { inRun with
    line := { inRun.line with symbolCount := 5000000 }
    load := { inRun.load with prot := ⟨{ level := lv, guard := none }, inRun.load.prot.tx⟩ }
    track := { inRun.track with
      history := h.map fun x => { start := 5000000 - BitVec.ofNat 32 x.1, length := x.2 }, lock := lock, lowerHold := hold } }

/-- What a report leaves of the tracker. -/
def decided (t : State) : Option Setting × Option Setting × Nat × Nat :=
  (t.track.recommendation, t.track.decision, t.track.lowerHold, t.track.history.length)

/-- R45, R50 to R54: the same setting; a raise; the ninth and the tenth lowering; a record aged 120000 and one of 120001;
bursts of 4 and 5; a guard, and one as wide as its period. -/
theorem test_wit_decision :
    let p (lv : Level) : Option Setting := some ⟨lv, none⟩
    let quiet : Instr := .marginReport (List.replicate 64 140)
    got decided quiet (noisy .p2 [(1000, 2)] none 5) (p .p2, p .p2, 0, 1) = true ∧
      got decided quiet (noisy .p0 [(1000, 1)] none 5) (p .p1, p .p1, 0, 1) = true ∧
      got decided quiet (noisy .p2 [] none 8) (p .p0, p .p2, 9, 0) = true ∧
      got decided quiet (noisy .p2 [] none 9) (p .p0, p .p0, 10, 0) = true ∧
      got decided quiet (noisy .p3 [(120001, 16), (120000, 3)] none 0) (p .p3, p .p3, 0, 1) = true ∧
      got decided quiet (noisy .p0 [(1000, 2)] (some ⟨4400, 0, 0⟩) 0)
        (some ⟨.p0, some (4400, 4)⟩, some ⟨.p0, some (4400, 4)⟩, 0, 1) = true ∧
      got decided quiet (noisy .p2 [(1000, 2)] (some ⟨4, 0, 0⟩) 0) (p .p2, p .p2, 0, 1) = true := by decide

/-- R26 to R28: the holdoff, RELOAD-ENABLE 0 and an offer in flight pass the report over; nothing to offer; eight raises at
the thirtieth healthy report and none at the twenty-ninth. -/
theorem test_wit_no_offer :
    let s (f : Loading → Loading) : State := { inRun with load := f inRun.load }
    let healthy : Instr := .marginReport (List.replicate 64 172)
    let seen (t : State) : Nat × Nat × Bool := (t.load.raiseCount, t.load.holdoff, t.load.own == .none)
    got seen healthy (s fun l => { l with holdoff := 1, raiseCount := 29 }) (30, 0, true) = true ∧
      got seen healthy { s (fun l => { l with raiseCount := 255 }) with
        agent := { Agent.reset with params := { Params.reset with reloadEnable := 0 } } } (255, 0, true) = true ∧
      got seen healthy (offering .outstanding) (1, 0, false) = true ∧
      got seen (.marginReport (List.replicate 64 140)) (s fun l => { l with raiseCount := 7 }) (0, 0, true) = true ∧
      got seen healthy (s fun l => { l with raiseCount := 28 }) (29, 0, true) = true ∧
      got (fun t => t.load.own) healthy (s fun l => { l with raiseCount := 29 })
        (.outstanding { number := 1, switch := 18, table := List.replicate 8 9 ++ List.replicate 56 8, newProt := none }) =
          true := by decide

/-- R27 to R30, R54: a new guard alone, anchored at the predicted start less 1; its message, and the TABLE-SET. -/
theorem test_wit_offer_sent :
    let s := noisy .p0 [(1000, 2)] (some ⟨4400, 5000900, 0⟩) 0
    let p : Protection := { level := .p0, guard := some { period := 4400, width := 4, anchor := 5000899 } }
    s.load.holdoff = 0 ∧ s.params.reloadEnable = 1 ∧ s.load.own = .none ∧ s.sch.mq.length < 8 ∧
      got (fun t => (t.load.own, t.out.commands.length, t.sch.mq.map fun m => m.bytes.drop 6))
        (.marginReport (List.replicate 64 140)) s
        (.outstanding { number := 1, switch := 18, table := List.replicate 64 8, newProt := some p }, 1,
         [[1, 18, 0, 1, 0, 1, 17, 48, 4, 18, 99]]) = true := by decide

/-- R44 to R48: the history and the lock before a burst. -/
def tracking (starts : List Nat) (lock : Option Lock) : State :=
  { inRun with track := { inRun.track with
    history := starts.map fun n => { start := BitVec.ofNat 32 n, length := 4 }, lock := lock } }

/-- R44, R45, R46: a burst at the end of the newest record and one past it; a ninth record; a beat, one interval off by 4
and by 6, and one of 399. -/
theorem test_wit_bursts :
    let after (h : List Nat) (lock : Option Lock) (n : Nat) : Tracker :=
      (takeBurst (tracking h lock) { start := BitVec.ofNat 32 n, length := 3 }).track
    (after [100] none 104).history = [⟨100, 7⟩] ∧ (after [100] none 105).history = [⟨100, 4⟩, ⟨105, 3⟩] ∧
      (after [] none 9).history = [⟨9, 3⟩] ∧ (after [0, 10, 20, 30, 40, 50, 60, 70] none 80).history.length = 8 ∧
      (after [0, 1000, 2000, 3000] none 4000).lock = some ⟨1000, 5000, 0⟩ ∧
      (after [0, 1000, 2000, 3000] none 4005).lock = some ⟨1001, 5006, 0⟩ ∧
      (after [0, 1000, 2000, 3000] none 4008).lock = none ∧ (after [0, 399, 798, 1197] none 1596).lock = none := by decide

/-- R47, R48: the window's two ends and past them; a window not yet covered, one missed, and the third in a row. -/
theorem test_wit_hits :
    let k (misses : Nat) : Option Lock := some ⟨1000, 5000, misses⟩
    let after (n : Nat) : State := takeBurst (tracking [4000] (k 2)) { start := BitVec.ofNat 32 n, length := 3 }
    (after 4996).track.lock = some ⟨1000, 5996, 0⟩ ∧ (after 5004).track.lock = some ⟨1000, 6004, 0⟩ ∧
      ((after 5005).track.lock, (after 5005).mon.line.strays) = (k 2, 1) ∧ (after 4995).track.lock = k 2 ∧
      (missTest 4904 (tracking [4000] (k 0))).track.lock = k 0 ∧
      (missTest 4905 (tracking [4000] (k 1))).track.lock = some ⟨1000, 6000, 2⟩ ∧
      ((missTest 4905 (tracking [4000] (k 2))).track.lock, (missTest 4905 (tracking [4000] (k 2))).track.history,
        (missTest 4905 (tracking [4000] (k 2))).evt.pending.has .cadenceLost) = (none, [], true) := by decide

/-- R46, R48, R146, R147: the lock and its loss tell of the period, and a watch on CADENCE-LOCKED counts the lock. -/
theorem test_wit_cadence_told :
    let t := takeBurst (watched (.edge .cadenceLocked) (tracking [0, 1000, 2000, 3000] none)) { start := 4000, length := 3 }
    (t.evt.log.map LogRecord.event).head? = some ⟨.cadenceLock, none, some 1000⟩ ∧ counted t = (1, true) ∧
      told (missTest 4905 (tracking [4000] (some ⟨1000, 5000, 2⟩))) = [⟨.cadenceLost, none, some 1000⟩] := by decide

/-- R4, R44: a report's bursts in order of offset, the one at offset 100 and the one of length 17 left out. -/
theorem test_wit_report_bursts :
    let r : FrameReport := { superframe := 11, damaged := 0, bursts := [⟨99, 2⟩, ⟨3, 1⟩, ⟨100, 1⟩, ⟨50, 17⟩] }
    got (fun t => t.track.history) (.frameReport r) inRun [⟨103, 1⟩, ⟨199, 2⟩] = true ∧
      got (fun t => t.track.history) (.frameReport r) (lineIn .training) [⟨103, 1⟩, ⟨199, 2⟩] = true := by decide

/-- R32, R33, R40: a declined and a late offer; the third failure retrains the line when a group is failing. -/
theorem test_wit_offer_fails :
    let late := due [.offerDeadline] (offering .outstanding)
    let failing : State := { late with load := { late.load with report := some [⟨-9, none, ⟨true, false, true⟩⟩] } }
    .offerDeadline ∈ late.due ∧ late.line.state = .run ∧ late.load.report = none ∧
      got (fun t => (t.load.own, t.load.holdoff, t.load.failures, t.out.commands)) .offerDeadline late
        (.none, 4, 3, [.tableCancel .receive 2]) = true ∧
      2 ≤ failing.load.failures ∧ failing.load.report = some [⟨-9, none, ⟨true, false, true⟩⟩] ∧
      got (fun t => (t.line.state, t.evt.pending.has .offerFailed)) .offerDeadline failing (.training, true) = true ∧
      (due [arrived .loadDecline [0, 1]] (offering .confirmed)).due.find? (Due.isMessage .loadDecline) =
        some (arrived .loadDecline [0, 1]) ∧
      got (fun t => t.mon.line.offersFailed) .loadDecline (due [arrived .loadDecline [0, 1]] (offering .confirmed)) 1 = true := by
  decide

/-- R32, R33, R147: declined is 1 and past its deadline 2, with the number; the margin retrain's cause is 3. -/
theorem test_wit_offer_fails_told :
    let late := due [.offerDeadline] (offering .outstanding)
    let failing : State := { late with load := { late.load with report := some [⟨-9, none, ⟨true, false, true⟩⟩] } }
    got told .offerDeadline late [⟨.offerFailed, some 2, some 0⟩] = true ∧
      got told .loadDecline (due [arrived .loadDecline [0, 1]] (offering .confirmed)) [⟨.offerFailed, some 1, some 0⟩] = true ∧
      got told .offerDeadline failing
        [⟨.offerFailed, some 2, some 0⟩, .withA .lineDown 3, .withA .retrain 3] = true := by decide

/-- An own offer of number 0 that switches at 2, with a LOAD-TAKE of a number at a superframe. -/
def answered (k : MsgKind) (body : Bytes) (superframe : Superframe) (x : OwnOffer → OwnRecord) : State :=
  due [arrived k body] { offering x with line := { (offering x).line with superframe := superframe } }

/-- R31: distances 3 and 8 confirm, 2 and 9 are stray. -/
theorem test_wit_load_take :
    let s := answered .loadTake [0] 255 .outstanding
    s.due.find? (Due.isMessage .loadTake) = some (arrived .loadTake [0]) ∧ s.line.state = .run ∧
      got (fun t => (decide (t.load.own = .none), t.mon.line.strayAnswers)) .loadTake s (false, 0) = true ∧
      got (fun t => t.mon.line.strayAnswers) .loadTake (answered .loadTake [0] 250 .outstanding) 0 = true ∧
      got (fun t => t.mon.line.strayAnswers) .loadTake (answered .loadTake [0] 0 .outstanding) 1 = true ∧
      got (fun t => t.mon.line.strayAnswers) .loadTake (answered .loadTake [0] 249 .outstanding) 1 = true ∧
      got (fun t => t.mon.line.strayAnswers) .loadTake (answered .loadTake [1] 255 .outstanding) 1 = true ∧
      got (fun t => t.mon.line.strayAnswers) .loadTake (answered .loadTake [0] 1 .confirmed) 0 = true ∧
      got (fun t => (t.mon.line.strayAnswers, decide (t.load.own = .none))) .loadTake (answered .loadTake [1] 1 .confirmed)
        (1, false) = true ∧
      got (fun t => t.mon.line.lateAnswers) .loadTake (answered .loadTake [0] 1 fun _ => .none) 1 = true ∧
      got (fun t => t.mon.line.strayAnswers) .loadTake (answered .loadTake [1] 1 fun _ => .none) 1 = true ∧
      got (fun t => t.mon.traffic.malformed) .loadTake (answered .loadTake [0, 0] 255 .outstanding) 1 = true ∧
      got (fun t => t.due) .loadTake (due [arrived .loadTake [0]] (lineIn .off)) [] = true := by decide

/-- R32: declines of an offer that has ended, of another, and of a number that is not the offer's. -/
theorem test_wit_load_decline :
    (answered .loadDecline [0, 1] 1 fun _ => .none).due.find? (Due.isMessage .loadDecline) =
        some (arrived .loadDecline [0, 1]) ∧
      got (fun t => t.mon.line.lateAnswers) .loadDecline (answered .loadDecline [0, 1] 1 fun _ => .none) 1 = true ∧
      got (fun t => t.mon.line.strayAnswers) .loadDecline (answered .loadDecline [1, 1] 1 fun _ => .none) 1 = true ∧
      got (fun t => t.mon.line.strayAnswers) .loadDecline (answered .loadDecline [1, 1] 1 .outstanding) 1 = true ∧
      got (fun t => (t.mon.traffic.malformed, t.mon.line.offersFailed)) .loadDecline (answered .loadDecline [0] 1 .outstanding)
        (1, 0) = true ∧
      got (fun t => (t.mon.traffic.malformed, t.due)) .loadDecline (due [arrived .loadDecline [0, 1]] (lineIn .off))
        (0, []) = true := by decide

/-- A LOAD-OFFER of number 4 for a superframe, group g to b bits. -/
def offerBody (switch g b : Byte) : Bytes := [4, switch, 1, 0, g, b]

/-- A LOAD-OFFER has come in. -/
def farOffering (body : Bytes) (s : State) : State := due [arrived .loadOffer body] s

/-- The reason of the newest message in MQ. -/
def declined (t : State) : Option Bytes := (t.sch.mq.getLast?).map fun m => m.bytes.drop 6

/-- R35: each condition at its boundary, in order, and an offer that fails none. -/
theorem test_wit_far_offer :
    (farOffering (offerBody 14 31 12) inRun).due.find? (Due.isMessage .loadOffer) =
        some (arrived .loadOffer (offerBody 14 31 12)) ∧
      readOfferBody [4] = none ∧ got declined .loadOffer (farOffering [4] inRun) (some [4, 1]) = true ∧
      (readOfferBody (offerBody 14 32 0)).isSome = true ∧
      got declined .loadOffer (farOffering (offerBody 14 32 0) inRun) (some [4, 1]) = true ∧
      got declined .loadOffer (farOffering (offerBody 14 31 13) inRun) (some [4, 1]) = true ∧
      readOfferBody (offerBody 14 31 12) = some { number := 4, switch := 14, prot := none, changes := [(31, 12)] } ∧ inRun.load.tx = .none ∧
      got declined .loadOffer (farOffering (offerBody 60 31 12) busy) (some [4, 2]) = true ∧
      got declined .loadOffer (farOffering (offerBody 13 31 12) inRun) (some [4, 3]) = true ∧
      got declined .loadOffer (farOffering (offerBody 139 31 12) inRun) (some [4, 3]) = true ∧
      got declined .loadOffer (farOffering (offerBody 14 31 12) (onMode .reserve inRun)) (some [4, 4]) = true ∧
      got declined .loadOffer (farOffering (offerBody 14 31 12) inRun) (some [4]) = true ∧
      got declined .loadOffer (farOffering (offerBody 138 31 12) inRun) (some [4]) = true ∧
      got (fun t => t.load.tx) .loadOffer (farOffering (offerBody 14 31 12) inRun)
        (.farPending { switch := 14, table := List.replicate 31 4 ++ [12], newProt := none }) = true ∧
      got declined .loadOffer (farOffering (offerBody 14 31 12) (lineIn .training)) none = true := by decide

/-- R55: a new guard whose anchor is given 5 symbols after the switch at symbol 400, and one given a superframe before it, 255
superframes on; R36: a guard carried over, at 400 and at 399. -/
theorem test_wit_far_guards :
    let anchor (t : State) : Option Nat := match t.load.tx with
      | .farPending f => f.newProt.bind fun p => p.guard.map fun g => g.anchor.toNat
      | .cutbackOut _ => none
      | .none => none
    let body (superframe offset : Byte) : Bytes := [4, 14, 0, 1, 0, 1, 17, 48, 4, superframe, offset]
    (readOfferBody (body 14 5)).map OfferBody.prot = some (some { level := 0, guard := some ⟨4400, 4, 14, 5⟩ }) ∧
      got (fun t => (anchor t, anchors t)) .loadOffer (farOffering (body 14 5) inRun) (some 405, [some (14, 5)]) = true ∧
      got anchor .loadOffer (farOffering (body 13 5) inRun) (some 3905) = true ∧
      got anchors .loadOffer (farOffering (offerBody 14 31 12) (txGuarded 400 inRun)) [some (14, 0)] = true ∧
      got anchors .loadOffer (farOffering (offerBody 14 31 12) (txGuarded 399 inRun)) [some (57, 99)] = true := by decide

/-- R35, R55: the FORMAT check at its boundaries: level 3 and 4, width 0, width 4 of periods 4 and 5, offsets 99 and 100, a
group named twice, eight changes and nine. -/
theorem test_wit_far_format :
    let answer (rest : Bytes) (x : Bytes) : Bool := got declined .loadOffer (farOffering ([4, 14] ++ rest) inRun) (some x)
    let changes (n : Nat) : Bytes := (List.range n).flatMap fun i => [BitVec.ofNat 8 i, 5]
    answer [0, 1, 3, 0] [4] = true ∧ answer [0, 1, 4, 0] [4, 1] = true ∧
      answer [0, 1, 0, 1, 0, 5, 0, 14, 0] [4, 1] = true ∧ answer [0, 1, 0, 1, 0, 4, 4, 14, 0] [4, 1] = true ∧
      answer [0, 1, 0, 1, 0, 5, 4, 14, 99] [4] = true ∧ answer [0, 1, 0, 1, 0, 5, 4, 14, 100] [4, 1] = true ∧
      answer [2, 0, 1, 3, 1, 4] [4, 1] = true ∧ answer ([8, 0] ++ changes 8) [4] = true ∧
      answer ([9, 0] ++ changes 9) [4, 1] = true := by decide

/-- R34, R36, R39: a CONFIRMED offer, a far-end change and a cutback switch. -/
theorem test_wit_switches :
    got (fun t => (t.load.rxLoads.head?, t.load.own, t.load.holdoff, t.load.failures, t.rate.raw.rx)) .offerSwitch
        (due [.offerSwitch] (offering .confirmed)) (some 7, .none, 1, 0, 3584) = true ∧
      got (fun t => (t.load.txLoads.head?, t.load.tx, t.rate.effTx, t.evt.pending.has .farChange)) .farChangeSwitch
        (due [.farChangeSwitch] busy) (some 0, .none, 0, true) = true ∧
      got (fun t => (t.load.tx, t.mon.line.cutbacksAnswered, t.evt.pending.has .cutbackDone)) .cutbackSwitch
        (due [.cutbackSwitch] { inRun with load := { inRun.load with
          tx := .cutbackOut ⟨18, List.replicate 32 3, 1, true⟩ } }) (.none, 1, true) = true := by decide

/-- R39, R146, R147: CUTBACK-DONE tells whether it was answered and the capacity after it; a new guard is an entry into
GUARD-ARMED. -/
theorem test_wit_switches_told :
    let cut (answered : Bool) : State := due [.cutbackSwitch] { inRun with load := { inRun.load with
      tx := .cutbackOut ⟨18, List.replicate 32 3, 1, answered⟩ } }
    let p : Protection := { level := .p0, guard := some { period := 4400, width := 4, anchor := 900 } }
    let o : OwnOffer := { number := 0, switch := 2, table := List.replicate 64 7, newProt := some p }
    got told .cutbackSwitch (cut true) [⟨.cutbackDone, some 1, some 6000⟩] = true ∧
      got told .cutbackSwitch (cut false) [⟨.cutbackDone, some 0, some 6000⟩] = true ∧
      got counted .offerSwitch (watched (.edge .guardArmed) (due [.offerSwitch] { inRun with load := { inRun.load with
        own := .confirmed o } })) (1, true) = true := by decide

/-- RUN with cutback 1 outstanding. -/
def cutOut : State :=
  { inRun with load := { inRun.load with
    tx := .cutbackOut ⟨18, List.replicate 32 3, 1, false⟩, lastCutback := some ⟨1, false⟩ } }

/-- R39, R42. -/
theorem test_wit_cutback_messages :
    got (fun t => t.load.tx) .cutbackTaken (due [arrived .cutbackTaken [1]] cutOut)
        (.cutbackOut ⟨18, List.replicate 32 3, 1, true⟩) = true ∧
      got (fun t => t.mon.line.strayAnswers) .cutbackTaken (due [arrived .cutbackTaken [2]] cutOut) 1 = true ∧
      got (fun t => t.mon.line.lateAnswers) .cutbackTaken (due [arrived .cutbackTaken [1]]
        { inRun with load := { inRun.load with lastCutback := some ⟨1, true⟩ } }) 1 = true ∧
      got (fun t => t.mon.line.lateAnswers) .cutbackTaken (due [arrived .cutbackTaken [1]] (lineIn .off)) 0 = true ∧
      got (fun t => t.mon.line.strayAnswers) .inboundCutback (due [arrived .cutback []] inRun) 1 = true ∧
      got (fun t => t.mon.line.strayAnswers) .inboundCutback (due [arrived .cutback []] (lineIn .off)) 0 = true ∧
      got (fun t => (t.mon.traffic.malformed, t.mon.line.strayAnswers)) .cutbackTaken
        (due [arrived .cutbackTaken [1, 1]] cutOut) (1, 0) = true := by decide

/-- The status in the newest message of MQ. -/
def answer (t : State) : Option Byte := (t.sch.mq.getLast?).bind fun m => m.bytes[6]?

/-- R157: each query at its boundaries. -/
theorem test_wit_far_query :
    (due [arrived .farQuery [1]] inRun).due.find? (Due.isMessage .farQuery) = some (arrived .farQuery [1]) ∧
      got answer .farQuery (due [arrived .farQuery [1]] inRun) (some 0) = true ∧
      (counterGroup inRun.mon 3).isSome = true ∧ got answer .farQuery (due [arrived .farQuery [2, 3]] inRun) (some 0) = true ∧
      got answer .farQuery (due [arrived .farQuery [2, 4]] inRun) (some 6) = true ∧
      got answer .farQuery (due [arrived .farQuery [3, 16]] inRun) (some 0) = true ∧
      got answer .farQuery (due [arrived .farQuery [3, 17]] inRun) (some 6) = true ∧
      got answer .farQuery (due [arrived .farQuery [4, 0, 1]] inRun) (some 0) = true ∧
      got answer .farQuery (due [arrived .farQuery [4, 0, 8]] inRun) (some 0) = true ∧
      got answer .farQuery (due [arrived .farQuery [0]] inRun) (some 1) = true ∧
      got answer .farQuery (due [arrived .farQuery [5]] inRun) (some 1) = true := by decide

/-- R157, R174: a count of 0 and of 9 is BAD-VALUE; an empty body, an argument missing and one too many are BAD-LENGTH. -/
theorem test_wit_far_query_refused :
    (∀ b ∈ [([4, 0, 0] : Bytes), [4, 0, 9]], got answer .farQuery (due [arrived .farQuery b] inRun) (some 6) = true) ∧
      (∀ b ∈ [([] : Bytes), [1, 0], [2], [2, 1, 1], [3], [3, 1, 1], [4, 0], [4, 0, 1, 1]],
        got answer .farQuery (due [arrived .farQuery b] inRun) (some 8) = true) := by decide

/-! ## Units and frames -/

/-- A unit: channel code, START and END marks, stream, count and payload bytes all of one value. -/
def unit (code : Nat) (start last : Bool) (stream count : Nat) (x : Byte) : Bytes :=
  u8 (code * 32 + (if start then 16 else 0) + (if last then 8 else 0)) ++ u8 stream ++ u8 count ++ [0] ++
    List.replicate 60 x

/-- RUN with 5000 of credit. -/
def pulling (f : Scheduler → Scheduler) : State := { inRun with sch := f { inRun.sch with credit := 5000 } }

/-- What a pull answers: the first byte of the unit and its count, and the credit left. -/
def pulled (t : State) : Option Byte × Option Byte × Nat :=
  ((t.out.unit.bind fun u => u[0]?), (t.out.unit.bind fun u => u[2]?), t.sch.credit)

/-- A started voice frame of stream 15, or one that has not started. -/
def voice (started : Bool) : VqFrame :=
  { port := .p1, stream := 15, bytes := List.replicate 84 7, started := started }

/-- R95, R96: outside RUN and below 1000 a FILL unit; then the slot, MQ, VQ started and not, the frame in progress, Q0,
and nothing at all. -/
theorem test_wit_pull :
    got pulled .unitPull (lineIn .off) (some 0, some 0, 0) = true ∧
      got (fun t => (pulled t, t.mon.traffic.sch.fillUnits)) .unitPull
        { inRun with sch := { inRun.sch with credit := 999 } } ((some 0, some 0, 999), 1) = true ∧
      got (fun t => (pulled t, t.sch.slot)) .unitPull (pulling fun x => { x with slot := some ⟨msg .farAnswer 60, 1⟩ })
        ((some 72, some 6, 4000), none) = true ∧
      got (fun t => (pulled t, t.sch.mq)) .unitPull (pulling fun x => { x with mq := [msg .loadTake 1] })
        ((some 88, some 7, 4000), []) = true ∧
      got (fun t => (pulled t, t.sch.vq)) .unitPull (pulling fun x => { x with vq := [voice true] })
        ((some 104, some 24, 4000), []) = true ∧
      got (fun t => (pulled t, t.sch.vq)) .unitPull (pulling fun x => { x with vq := [voice false] })
        ((some 112, some 60, 4000), [voice true]) = true ∧
      got (fun t => (pulled t, t.sch.queues.i1, t.sch.inProgress)) .unitPull
        (pulling fun x => { x with queues := ⟨[], [⟨List.replicate 100 1, 0, 1⟩], [], []⟩, inProgress := some .i1 })
        ((some 40, some 40, 4000), [], none) = true ∧
      got (fun t => (pulled t, t.sch.inProgress)) .unitPull
        (pulling fun x => { x with queues := ⟨[⟨List.replicate 61 1, 0, 0⟩], [], [], []⟩ })
        ((some 48, some 60, 4000), some .i0) = true ∧
      got (fun t => (pulled t, t.sch.inProgress)) .unitPull
        (pulling fun x => { x with queues := ⟨[], [], [⟨List.replicate 61 1, 0, 0⟩], []⟩ })
        ((some 48, some 60, 4000), some .i2) = true ∧
      got (fun t => (pulled t, t.sch.turn, t.mon.traffic.sch.fillUnits)) .unitPull (pulling id)
        ((some 0, some 0, 5000), .q1, 1) = true := by decide

/-- R100, R145: a message of 66 bytes takes two units; each counts, and the second alone is the message sent that a watch on
outbound messages sees. So for a frame of 61 bytes and for a voice frame. -/
theorem test_wit_pull_counts :
    let out : WatchSource := .message ⟨.outbound, none, none⟩ ⟨.none, none, none⟩
    let seen (t : State) : Nat × Nat × Nat × Bool :=
      (t.mon.traffic.sch.manageUnits, t.mon.traffic.sch.messagesSent, counted t)
    let m := msg .farAnswer 60
    got (fun t => (seen t, t.sch.slot)) .unitPull (watched out (pulling fun x => { x with mq := [m] }))
        ((1, 0, 0, false), some ⟨m, 1⟩) = true ∧
      got (fun t => (seen t, t.sch.slot)) .unitPull (watched out (pulling fun x => { x with slot := some ⟨m, 1⟩ }))
        ((1, 1, 1, true), none) = true ∧
      got (fun t => (t.mon.traffic.sch.dataUnits, t.mon.traffic.sch.framesSent, t.sch.queues.i1.map FrameRec.sent)) .unitPull
        (pulling fun x => { x with queues := ⟨[], [⟨List.replicate 61 1, 0, 0⟩], [], []⟩ }) (1, ⟨0, 0, 0, 0⟩, [1]) = true ∧
      got (fun t => (t.mon.traffic.sch.dataUnits, t.mon.traffic.sch.framesSent)) .unitPull
        (pulling fun x => { x with queues := ⟨[], [⟨List.replicate 61 1, 0, 1⟩], [], []⟩, inProgress := some .i1 })
        (1, ⟨0, 1, 0, 0⟩) = true ∧
      got (fun t => (t.mon.traffic.sch.voiceUnits, t.mon.voice.framesSent)) .unitPull
        (pulling fun x => { x with vq := [voice true] }) (1, 1) = true := by decide

/-- R79, R96: a Q0 frame as old as AGE-LIMIT, 2000 ms, is still given; one that is older is stale. -/
theorem test_age_limit :
    got (fun t => (pulled t).2.1) .unitPull { pulling (fun x => { x with queues := ⟨[⟨[1], 0, 0⟩], [], [], []⟩ }) with
        time := ⟨2000, 0⟩ } (some 1) = true ∧
      got (fun t => t.mon.traffic.sch.stale.i0) .unitPull
        { pulling (fun x => { x with queues := ⟨[⟨[1], 0, 0⟩], [], [], []⟩ }) with time := ⟨2001, 0⟩ } 1 = true := by decide

/-- R97: with every head stale, or every frame in a shed queue, a selection puts no frame in progress: a FILL unit goes, the
stale heads are gone and counted, and the credit stays. -/
theorem test_wit_nothing_to_send :
    let seen (t : State) : (Option Byte × Option Byte × Nat) × Quad Nat × Nat × Quad Nat :=
      (pulled t, t.mon.traffic.sch.stale, t.mon.traffic.sch.fillUnits,
        ⟨t.sch.queues.i0.length, t.sch.queues.i1.length, t.sch.queues.i2.length, t.sch.queues.i3.length⟩)
    let f : FrameRec := ⟨[1], 0, 0⟩
    let stale : State := { pulling (fun x => { x with queues := ⟨[f], [f, f], [], []⟩ }) with time := ⟨2001, 0⟩ }
    let shed : State := pulling fun x => { x with queues := ⟨[], [], [], [f]⟩, shedLevel := 1 }
    (selectData stale).sch.inProgress = none ∧ (selectData shed).sch.inProgress = none ∧
      got seen .unitPull stale ((some 0, some 0, 5000), ⟨1, 2, 0, 0⟩, 1, ⟨0, 0, 0, 0⟩) = true ∧
      got seen .unitPull shed ((some 0, some 0, 5000), ⟨0, 0, 0, 0⟩, 1, ⟨0, 0, 0, 1⟩) = true := by decide

/-- The DATA context collecting n bytes. -/
def collecting (c : Context) : State := { inRun with line := { inRun.line with data := c } }

/-- Section 1.6: the five units, each from the context that the one before it left. -/
theorem test_ex_reassembly :
    got (fun t => (t.line.data, t.due)) (.receivedUnit (unit 1 true false 0 60 1) false) inRun
        (.collecting (List.replicate 60 1), []) = true ∧
      got (fun t => (t.line.data, t.mon.traffic.data.damaged)) (.receivedUnit (unit 1 false false 0 60 1) true)
        (collecting (.collecting (List.replicate 60 1))) (.skipping, 1) = true ∧
      got (fun t => (t.line.data, t.due)) (.receivedUnit (unit 1 false true 0 10 1) false) (collecting .skipping)
        (.idle, []) = true ∧
      got (fun t => (t.line.data, t.due)) (.receivedUnit (unit 1 true true 0 42 1) false) inRun
        (.idle, [.arrival (.data (List.replicate 42 1))]) = true ∧
      got (fun t => (t.line.data, t.mon.traffic.data.orphan)) (.receivedUnit (unit 1 false true 0 60 1) false) inRun
        (.idle, 1) = true ∧
      got (fun t => (t.mon.traffic.data.broken, t.due)) (.receivedUnit (unit 1 true false 0 60 2) false)
        (collecting (.collecting (List.replicate 60 1))) (1, []) = true := by decide

/-- R19: the boundaries of length, and R17, R20: the other channels. -/
theorem test_wit_reassembly :
    (60 : Nat) ≤ 60 ∧ takeUnit 100 (.collecting (List.replicate 60 1)) false false true (List.replicate 40 2) =
        { context := .idle, frame := some (List.replicate 60 1 ++ List.replicate 40 2) } ∧
      takeUnit 100 (.collecting (List.replicate 60 1)) false false true (List.replicate 41 2) =
        { context := .idle, oversize := true } ∧
      (unitHeader (unit 7 true true 0 1 0)).channel = none ∧
      got (fun t => t.mon.traffic.unknownChannel) (.receivedUnit (unit 7 true true 0 1 0) false) inRun 1 = true ∧
      (unitHeader (unit 0 true true 0 1 0)).channel = some .fill ∧
      got (fun t => t.due) (.receivedUnit (unit 0 true true 0 1 0) false) inRun [] = true ∧
      inRun.line.voice[15]? = some .idle ∧ (unitHeader (unit 3 true true 15 60 15)).stream = 15 ∧
      got (fun t => t.due) (.receivedUnit (unit 3 true true 15 60 15) false) inRun
        [.arrival (.voice 15 (List.replicate 60 15))] = true ∧
      got (fun t => t.due) (.receivedUnit (unit 3 true true 15 60 14) false) inRun [] = true ∧
      got (fun t => t.mon.traffic.malformed) (.receivedUnit (unit 2 true true 0 60 1) false) inRun 1 = true ∧
      got (fun t => t.due) (.receivedUnit (unit 1 true true 0 60 1) false) (lineIn .training) [] = true := by decide

/-- R19, R20: the voice group counts an orphan, and a frame whose stream is not its context's as broken; a frame of its own
stream counts nothing. -/
theorem test_wit_voice_units :
    let counts (t : State) : ReassemblyCounts := t.mon.voice.reassembly
    got counts (.receivedUnit (unit 3 false true 15 60 15) false) inRun { ReassemblyCounts.zero with orphan := 1 } = true ∧
      got counts (.receivedUnit (unit 3 true true 15 60 14) false) inRun { ReassemblyCounts.zero with broken := 1 } = true ∧
      got counts (.receivedUnit (unit 3 true true 15 60 15) false) inRun ReassemblyCounts.zero = true := by decide

/-- A unit of the MANAGE channel with a whole message in it. -/
def managing (m : Message) : Bytes := u8 88 ++ [0] ++ u8 m.bytes.length ++ [0] ++ m.bytes

/-- R20, R174: the other kinds that are handed on, and the two that are counted; a watch on every inbound message. -/
theorem test_wit_manage_kinds :
    let w : Watch := { source := .message ⟨.inbound, .none, .none⟩ ⟨.none, .none, .none⟩, threshold := 0, count := 0 }
    let s : State := { inRun with mon := { inRun.mon with watches := ⟨w, w, w, w⟩ } }
    let seen (t : State) : List Due × Nat × Nat :=
      (t.due, t.mon.watches.i3.count, t.mon.traffic.malformed + t.mon.traffic.inboundReports)
    (∀ k ∈ [MsgKind.loadOffer, .loadDecline, .cutback, .cutbackTaken, .farQuery],
      got seen (.receivedUnit (managing (msg k 1)) false) s ([.arrival (.message k 0 [9])], 1, 0) = true) ∧
      (∀ k ∈ [MsgKind.farAnswer, .faultReport], got seen (.receivedUnit (managing (msg k 1)) false) s ([], 1, 1) = true) ∧
      got seen (.receivedUnit (unit 2 true true 0 60 1) false) s ([], 0, 1) = true := by decide

/-- R42, R174: a LOAD-TAKE is handed on, and an inbound FAULT-REPORT is counted. -/
theorem test_wit_manage_units :
    readMessage (msg .loadTake 1).bytes = some (.loadTake, 0, [9]) ∧
      got (fun t => t.due) (.receivedUnit (managing (msg .loadTake 1)) false) inRun
        [.arrival (.message .loadTake 0 [9])] = true ∧
      got (fun t => (t.due, t.mon.traffic.inboundReports)) (.receivedUnit (managing (msg .faultReport 1)) false) inRun
        ([], 1) = true := by decide

/-- R81, R82: 13 bytes, a management type, a full queue, and 14 bytes at a free port. -/
theorem test_wit_downstream :
    let data (n : Nat) : Due := .arrival (.data (List.replicate n 1))
    (due [data 14] State.reset).due.find? Due.isData = some (data 14) ∧
      got (fun t => t.mon.traffic.cls.downRunt) .downstreamFrame (due [data 13] State.reset) 1 = true ∧
      got (fun t => t.mon.traffic.cls.downMgmt) .downstreamFrame
        (due [.arrival (.data (List.replicate 12 0 ++ [0xA8, 0xF2]))] State.reset) 1 = true ∧
      got (fun t => t.mon.traffic.cls.homeOverflow) .downstreamFrame
        (due [data 14] { State.reset with cls := { Classifier.reset with homeQueue := List.replicate 32 [] } }) 1 = true ∧
      got (fun t => (t.cls.homeQueue.length, t.cls.sending)) .downstreamFrame (due [data 14] State.reset)
        (1, some (.home (List.replicate 14 1))) = true := by decide

/-- R84, R166: a frame is padded to 60 bytes; the reply of a PART reset makes the reset due. -/
theorem test_wit_home_sent :
    busy.cls.sending = some (.home (List.replicate 14 3)) ∧
      got (fun t => (t.out.homeFrame.map SentFrame.bytes, t.cls.homeQueue, t.cls.sending, t.mon.traffic.cls.homeSent))
        .homeFrameSent busy
        (some (List.replicate 14 3 ++ List.replicate 46 0), [], none, 1) = true ∧
      (sendingMgmt 1 false).agent.waiting = none ∧
      got (fun t => (t.cls.mgmtQueue.length, t.mon.traffic.cls.mgmtSent)) .homeFrameSent (sendingMgmt 2 false) (1, 1) = true ∧
      got (fun t => (t.due, t.cls.sending)) .homeFrameSent (sendingMgmt 1 true) ([.partReset], none) = true ∧
      State.reset.cls.sending = none := by decide

/-- R82, R83, R84: after a management frame the next one goes, or else the oldest of the home egress queue, or none; a frame
whose queue a TRAFFIC reset has emptied leaves the queue as it has filled since; a waiting reply joins as the newest. -/
theorem test_wit_next_frame :
    let f (n : Byte) : MgmtFrame := { bytes := [n], partReply := false }
    let s (x : Sending) (m : List MgmtFrame) (h : List Bytes) (w : Option MgmtFrame) : State := { State.reset with
      cls := { Classifier.reset with mgmtQueue := m, homeQueue := h, sending := some x }
      agent := { State.reset.agent with waiting := w } }
    let seen (t : State) : Option Sending × List MgmtFrame × List Bytes × Nat :=
      (t.cls.sending, t.cls.mgmtQueue, t.cls.homeQueue, t.mon.traffic.cls.homeSent)
    got seen .homeFrameSent (s (.mgmt (f 1)) [f 1, f 2] [[9]] none) (some (.mgmt (f 2)), [f 2], [[9]], 0) = true ∧
      got seen .homeFrameSent (s (.mgmt (f 1)) [f 1] [[9]] none) (some (.home [9]), [], [[9]], 0) = true ∧
      got seen .homeFrameSent (s (.mgmt (f 1)) [f 1] [] none) (none, [], [], 0) = true ∧
      got seen .homeFrameSent (s (.mgmt (f 1)) (f 1 :: List.replicate 7 (f 2)) [] (some (f 3)))
        (some (.mgmt (f 2)), List.replicate 7 (f 2) ++ [f 3], [], 0) = true ∧
      got seen .homeFrameSent (s (.homeEmptied [8]) [] [[9]] none) (some (.home [9]), [], [[9]], 1) = true ∧
      got seen .homeFrameSent (s (.homeEmptied [8]) [f 2] [[9]] none) (some (.mgmt (f 2)), [f 2], [[9]], 1) = true ∧
      got seen .homeFrameSent (s (.homeEmptied [8]) [] [] none) (none, [], [], 1) = true := by decide

/-- A management frame from an address, of kind READ-STATUS. -/
def managed (from' : Address) : Bytes :=
  managementFrame 0 from' 4 7 0 [] ++ List.replicate 39 0

/-- R72, R73: 59 bytes, another manager, the manager's own at a full and a free queue. -/
theorem test_wit_home_frames :
    let s (n : Nat) : State := { State.reset with agent := { Agent.reset with
      params := { Params.reset with manager := 9 }, queue := List.replicate n (req 4 []) } }
    got (fun t => t.mon.traffic.cls.badCheck) (.homeFrameArrival (managed 9) false) (s 0) 1 = true ∧
      got (fun t => t.mon.traffic.cls.runt) (.homeFrameArrival (List.replicate 59 0) true) (s 0) 1 = true ∧
      60 ≤ (managed 9).length ∧ frameType (managed 9) = 0xA8F2 ∧ frameSource (managed 9) = 9 ∧
      got (fun t => t.mon.traffic.cls.mgmtRefused) (.homeFrameArrival (managed 8) true) (s 0) 1 = true ∧
      got (fun t => t.mon.traffic.cls.mgmtOverflow) (.homeFrameArrival (managed 9) true) (s 4) 1 = true ∧
      got (fun t => (t.agent.queue.length, t.agent.lastSource)) (.homeFrameArrival (managed 9) true) (s 3)
        (4, some 9) = true := by decide

/-- R72: 1536 bytes are taken and 1537 are not. -/
theorem test_wit_giant (n : Nat) : (1536 < (List.replicate (1537 + n) (0 : Byte)).length) := by
  rw [List.length_replicate]; omega

/-- R78, R79: a data frame that the table steers, drops, and leaves to DEFAULT-QUEUE, which is 2. -/
theorem test_wit_data_frames :
    let s : State := { State.reset with cls := { Classifier.reset with table := morning } }
    let tagged (prio : Byte) : Bytes := List.replicate 12 0 ++ [0x81, 0, prio, 10, 8, 6] ++ List.replicate 42 0
    (classWalk (tagged 0xA0) s.cls.table).2 = .queue .i1 ∧
      got (fun t => (t.sch.queues.i1.length, t.mon.traffic.cls.upstream)) (.homeFrameArrival (tagged 0xA0) true) s
        (1, 1) = true ∧
      got (fun t => t.mon.traffic.cls.classDrop) (.homeFrameArrival camera true) s 1 = true ∧
      s.params.defaultQueue = Ix4.i2.num ∧
      got (fun t => (t.sch.queues.i2.length, t.mon.traffic.cls.defaulted, t.mon.traffic.sch.admitted))
        (.homeFrameArrival (untagged [8, 6]) true) s (1, 1, ⟨0, 0, 1, 0⟩) = true := by decide

/-! ## Phone ports and calls -/

/-- Port 1 in a state with an acceptance due. -/
def accepting (q : PhonePort) : State := due [.hook .p1] (phones q (portIn .onHook) State.reset)

/-- R104, R105 and section 7.8: a lift, an answer, a break, a pulse of 100 ms and a flash of 101. -/
theorem test_wit_hook :
    let s := accepting (portIn .onHook)
    (.hook .p1 ∈ s.due ∧ .breakPulses .p1 ∉ s.due ∧ .hangUp .p1 ∉ s.due ∧ .interdigit .p1 ∉ s.due) ∧
      got (fun t => (t.phone.ports.one.state, t.mon.voice.ports.one.lifts, t.evt.pending.has .hook)) (.hookAcceptance .p1) s
        (.offHook, 1, true) = true ∧
      got (fun t => (t.phone.ports.one.state, t.mon.voice.ports.one.answers)) (.hookAcceptance .p1)
        (accepting (portIn .ringing)) (.offHook, 1) = true ∧
      got (fun t => (t.phone.ports.one.state, t.phone.ports.one.breakMs)) (.hookAcceptance .p1)
        (accepting { portIn .offHook with accepted := true }) (.inBreak, 0) = true ∧
      got (fun t => (t.phone.ports.one.state, t.phone.ports.one.pulses)) (.hookAcceptance .p1)
        (accepting { portIn .inBreak with breakMs := 100, pulses := 255 }) (.offHook, 255) = true ∧
      got (fun t => (t.phone.ports.one.state, t.mon.voice.ports.one.flashes)) (.hookAcceptance .p1)
        (accepting { portIn .inBreak with breakMs := 101 }) (.offHook, 1) = true ∧
      got (fun t => t.phone.ports.one.state) (.hookAcceptance .p1) (accepting (portIn .unfed)) .unfed = true := by decide

/-- R105, R106: at one tick the digit of the interdigit timer comes before the break that an on-hook opens, and the digit of
a break of 101 ms before the flash. -/
theorem test_wit_expiries_first :
    let s (ds : List Due) (q : PhonePort) : State := due ds (phones q (portIn .onHook) State.reset)
    let dialled := s [.interdigit .p1, .hook .p1] { portIn .offHook with accepted := true, pulses := 4, interdigitMs := 300 }
    let seen (t : State) : PortState × List Nat × Nat × List Due :=
      (t.phone.ports.one.state, t.phone.ports.one.digits, t.phone.ports.one.pulses, t.due)
    (.hook .p1 ∈ dialled.due ∧ .interdigit .p1 ∈ dialled.due ∧ dialled.due.Nodup ∧ (dialled.port .p1).state = .offHook) ∧
      got seen (.hookAcceptance .p1) dialled (.inBreak, [4], 0, []) = true ∧
      got seen (.hookAcceptance .p1)
        (s [.breakPulses .p1, .hook .p1] { portIn .inBreak with pulses := 10, breakMs := 101 }) (.offHook, [0], 0, []) = true ∧
      got seen (.hookAcceptance .p1)
        (s [.hangUp .p1, .hook .p1] { portIn .inBreak with breakMs := 701 }) (.offHook, [], 0, []) = true := by decide

/-- R106: 1 and 10 pulses are digits 1 and 0, 11 none; a seventeenth digit is lost. -/
theorem test_wit_digits :
    let s (n held : Nat) := due [.interdigit .p2]
      (phones (portIn .onHook) { portIn .offHook with pulses := n, digits := List.replicate held 9 } State.reset)
    ((s 1 0).port .p2).state = .offHook ∧ .interdigit .p2 ∈ (s 1 0).due ∧
      got (fun t => (t.phone.ports.two.digits, t.phone.ports.two.pulses)) (.interdigitExpiry .p2) (s 1 0) ([1], 0) = true ∧
      got (fun t => t.phone.ports.two.digits) (.interdigitExpiry .p2) (s 10 15) (List.replicate 15 9 ++ [0]) = true ∧
      got (fun t => t.mon.voice.ports.two.digitOverflow) (.interdigitExpiry .p2) (s 1 16) 1 = true ∧
      got (fun t => t.mon.voice.ports.two.pulseOverflow) (.interdigitExpiry .p2) (s 11 0) 1 = true ∧
      got (fun t => t.phone.ports.two.digits) (.interdigitExpiry .p2) (s 0 0) [] = true := by decide

/-- R105: a break of 101 ms completes the pulses, and one beyond FLASH-MAX hangs up. -/
theorem test_wit_breaks :
    let q : PhonePort := { portIn .inBreak with pulses := 3, breakMs := 101 }
    got (fun t => (t.phone.ports.one.digits, t.phone.ports.one.state)) (.breakPulsesComplete .p1)
        (due [.breakPulses .p1] (phones q (portIn .onHook) State.reset)) ([3], .inBreak) = true ∧
      got (fun t => (t.phone.ports.one.state, t.mon.voice.ports.one.hangUps)) (.hangUp .p1)
        (due [.hangUp .p1] (phones q (portIn .onHook) State.reset)) (.onHook, 1) = true := by decide

/-- Port 1 ringing at a position of entry 0, which has two segments. -/
def ringing (r : Ring) : State :=
  due [.ringPhase .p1] (phones { portIn .ringing with ring := some r } (portIn .onHook) State.reset)

/-- R108, R110: on to off, off to the second segment, the last pass and one before it. -/
theorem test_wit_ring_phases :
    segments (State.reset.phone.cadence.getD 0 []) = [⟨40, 20⟩, ⟨40, 200⟩] ∧
      got (fun t => t.phone.ports.one.ring) (.ringPhaseEnd .p1) (ringing ⟨0, 1, 1, true, 400, 0⟩)
        (some ⟨0, 1, 1, false, 0, 0⟩) = true ∧
      got (fun t => t.phone.ports.one.ring) (.ringPhaseEnd .p1) (ringing ⟨0, 1, 1, false, 200, 0⟩)
        (some ⟨0, 1, 2, true, 0, 0⟩) = true ∧
      satInc 0 = 1 ∧
      got (fun t => (t.phone.ports.one.state, t.phone.ports.one.ring, t.mon.voice.ports.one.ringsCompleted))
        (.ringPhaseEnd .p1) (ringing ⟨0, 1, 2, false, 2000, 0⟩) (.onHook, none, 1) = true ∧
      got (fun t => t.phone.ports.one.ring) (.ringPhaseEnd .p1) (ringing ⟨0, 2, 2, false, 2000, 0⟩)
        (some ⟨0, 2, 1, true, 0, 1⟩) = true := by decide

/-- Entry 0 of the CADENCE table is this one. -/
def cadenced (e : List Segment) (s : State) : State :=
  { s with phone := { s.phone with cadence := s.phone.cadence.set 0 e } }

/-- R109, R110: phases of value 0 are passed over: two inside a pass, one at its end, with the ring complete and starting
again, and the on phase in which a ring would start. -/
theorem test_wit_zero_phases :
    let inside : List Segment := [⟨40, 0⟩, ⟨0, 20⟩, ⟨0, 0⟩, ⟨0, 0⟩]
    let ends : List Segment := [⟨0, 30⟩, ⟨40, 0⟩, ⟨0, 0⟩, ⟨0, 0⟩]
    let ring (t : State) : Option Ring := t.phone.ports.one.ring
    ringPhases inside = [40, 0, 0, 20] ∧ FirstPhase [0, 0, 20] 2 ∧ ringPhases ends = [0, 30, 40, 0] ∧
      FirstPhase [0, 30, 40, 0] 1 ∧ segments ends = [⟨0, 30⟩, ⟨40, 0⟩] ∧
      got ring (.ringPhaseEnd .p1) (cadenced inside (ringing ⟨0, 1, 1, true, 400, 0⟩)) (some ⟨0, 1, 2, false, 0, 0⟩) = true ∧
      got (fun t => (ring t, told t)) (.ringPhaseEnd .p1) (cadenced ends (ringing ⟨0, 1, 2, true, 400, 0⟩))
        (none, [.withA .ringDone 0]) = true ∧
      got ring (.ringPhaseEnd .p1) (cadenced ends (ringing ⟨0, 2, 2, true, 400, 0⟩)) (some ⟨0, 2, 1, false, 0, 1⟩) = true ∧
      got (fun t => (ring t, status t)) .ring (asking 13 [1, 0, 3] (cadenced ends State.reset))
        (some ⟨0, 3, 1, false, 0, 0⟩, some 0) = true :=
  ⟨by decide, ⟨by decide, by decide⟩, by decide, ⟨by decide, by decide⟩, by decide, by decide, by decide, by decide, by decide⟩

/-- R111, R147: a ring that is stopped tells of it with 1. -/
theorem test_wit_ring_stop_told : got told .ringStop (asking 14 [2] busy) [.withA .ringDone 1] = true := by decide

/-- R109, R111, R112: entry 8, a port that is not ON-HOOK, an empty entry, and a ring; a stop; mutes. -/
theorem test_wit_ring :
    byteAt (req 13 [1, 0, 3]).body 0 = portNum .p1 ∧
      got status .ring (asking 13 [1, 8, 3] State.reset) (some 6) = true ∧
      got status .ring (asking 13 [1, 0, 3] (phones (portIn .offHook) (portIn .onHook) State.reset)) (some 5) = true ∧
      segments (State.reset.phone.cadence.getD 7 []) = [] ∧
      got status .ring (asking 13 [1, 7, 3] State.reset) (some 6) = true ∧
      got (fun t => (t.phone.ports.one.ring, status t)) .ring (asking 13 [1, 0, 3] State.reset)
        (some ⟨0, 3, 1, true, 0, 0⟩, some 0) = true ∧
      got (fun t => (t.phone.ports.two.state, t.mon.voice.ports.two.ringsStopped)) .ringStop (asking 14 [2] busy)
        (.onHook, 1) = true ∧
      got (fun t => (t.phone.ports.one.state, status t)) .ringStop (asking 14 [1] busy) (.offHook, some 0) = true ∧
      got (fun t => (t.phone.ports.two.muteToLine, t.phone.ports.two.muteToPhone)) .portControl
        (asking 15 [2, 1, 0] State.reset) (true, false) = true := by decide

theorem test_wit_asked_ring :
    Asked .ring (req 13 [1, 0, 3]) [] (asking 13 [1, 0, 3] State.reset) ∧ (req 13 [1, 0, 3]).HasBody 3 ∧
      Asked .ringStop (req 14 [2]) [] (asking 14 [2] busy) ∧ (req 14 [2]).HasBody 1 ∧
      Asked .portControl (req 15 [2, 1, 0]) [] (asking 15 [2, 1, 0] State.reset) ∧ (req 15 [2, 1, 0]).HasBody 3 :=
  ⟨asked 13 _ _ rfl rfl rfl, hasBody 13 _, asked 14 _ _ rfl rfl rfl, hasBody 14 _, asked 15 _ _ rfl rfl rfl, hasBody 15 _⟩

/-- CHANNEL-OPEN LINE of port 1 on a stream with a target. -/
def openBody (stream target : Byte) : Bytes := [1, 1, stream, 1, 42, 1, target]

/-- A state whose allowances are n. -/
def allowing (n : Nat) : State := { inRun with rate := { inRun.rate with txAllowance := n, rxAllowance := n } }

/-- R118: streams 15 and 16, targets 6 and 7, a taken record, the other record's stream, allowances of 200 and 199. -/
theorem test_wit_open_line :
    got status .channelOpenLine (asking 11 (openBody 16 6) (allowing 200)) (some 6) = true ∧
      got status .channelOpenLine (asking 11 (openBody 15 7) (allowing 200)) (some 6) = true ∧
      targetAllowed (openBody 15 6) = true ∧
      got status .channelOpenLine (asking 11 (openBody 15 6) (calling (call 3) (allowing 200))) (some 5) = true ∧
      got status .channelOpenLine (asking 11 [1, 2, 3, 0, 0, 0, 0] (calling (call 3) (allowing 400))) (some 6) = true ∧
      got status .channelOpenLine (asking 11 (openBody 15 6) (allowing 199)) (some 7) = true ∧
      got status .channelOpenLine (asking 11 (openBody 15 6) (lineIn .off)) (some 7) = true ∧
      got (fun t => (status t, t.voice.one.idle, t.voice.one.call)) .channelOpenLine
        (asking 11 (openBody 15 6) (allowing 200)) (some 0, 42, .line { call 15 with target := 6 }) = true ∧
      got (fun t => (status t, t.voice.two.idle, t.voice.two.call)) .channelOpenLine
        (asking 11 [1, 2, 4, 0, 0, 0, 0] (calling (call 3) (allowing 400))) (some 0, 255, .line (call 4)) = true := by decide

/-- R119, R120: an intercom needs both records; a close frees the record and its frames. -/
theorem test_wit_intercom_close :
    (∀ p : PortId, (State.reset.record p).call = .free ∧ (State.reset.port p).state ≠ .unfed) ∧
      got (fun t => (t.voice.one.call, t.voice.two.call)) .channelOpenIntercom
        (asking 11 [2, 0, 0, 0, 0, 0, 0] State.reset) (.intercom 0, .intercom 0) = true ∧
      got status .channelOpenIntercom (asking 11 [2, 0, 0, 0, 0, 0, 0] (calling (call 3) State.reset)) (some 5) = true ∧
      got (fun t => (t.voice.one.call, t.sch.vq)) .channelClose (asking 12 [1] busy) (.free, []) = true ∧
      got (fun t => (t.sch.vq.length, status t)) .channelClose (asking 12 [2] busy) (1, some 0) = true ∧
      got (fun t => (t.voice.one.call, t.voice.two.call)) .channelClose
        (asking 12 [2] { State.reset with voice :=
          ⟨{ ChannelRecord.reset with call := .intercom 5 }, { ChannelRecord.reset with call := .intercom 5 }⟩ })
        (.free, .free) = true := by
  refine ⟨fun p => (by cases p <;> decide), ?_⟩
  decide

theorem test_wit_asked_channels :
    Asked .channelOpenLine (req 11 (openBody 15 6)) [] (asking 11 (openBody 15 6) (allowing 200)) ∧
      (req 11 (openBody 15 6)).HasBody 7 ∧
      Asked .channelOpenIntercom (req 11 [2, 0, 0, 0, 0, 0, 0]) [] (asking 11 [2, 0, 0, 0, 0, 0, 0] State.reset) ∧
      Asked .channelClose (req 12 [2]) [] (asking 12 [2] busy) ∧ (req 12 [2]).HasBody 1 :=
  ⟨asked 11 _ _ rfl rfl rfl, hasBody 11 _, asked 11 _ _ rfl rfl rfl, asked 12 _ _ rfl rfl rfl, hasBody 12 _⟩

/-- R101, R123: both sides of an intercom hear the other's previous sample; the 80th frame is a block passed. -/
theorem test_sample_intercom :
    got (fun t => ((t.out.ports.one.sample, t.out.ports.two.sample, t.voice.one.counts.framesPassed, t.voice.one.call),
        t.mon.voice.totals.framesPassed, t.due))
      (.sampleFrame ⟨1, true⟩ ⟨2, true⟩)
      { phones { portIn .offHook with lastSample := 11 } { portIn .offHook with lastSample := 12 } State.reset with
        voice := ⟨{ ChannelRecord.reset with call := .intercom 79 }, { ChannelRecord.reset with call := .intercom 79 }⟩ }
      ((12, 11, 1, .intercom 0), 2, []) = true := by decide

/-- R122: the 80th sample of a LINE record makes its frame boundary due; a muted phone gives idle samples. -/
theorem test_sample_line :
    got (fun t => (t.due, t.phone.ports.one.lastSample, t.out.ports.one.sample)) (.sampleFrame ⟨1, true⟩ ⟨2, false⟩)
      (phones { portIn .offHook with muteToLine := true } (portIn .onHook)
        (calling { call 3 with position := 79, chosen := some (List.replicate 79 0 ++ [77]) } State.reset))
      ([.frameBoundary .p1], 255, 77) = true := by decide

/-- Record 1 with a jitter buffer. -/
def jitter (b : JitterBuffer) (s : State) : State := calling { call 3 with buffer := b, samples := List.replicate 80 1 } s

/-- A frame held. -/
def held (n : BitVec 16) : HeldFrame := ⟨n, List.replicate 80 9⟩

/-- R91, R126, R127: FILLING below its target and at it; the expected frame; four concealed and none held. -/
theorem test_wit_boundary :
    let at' (b : JitterBuffer) (s : State) := due [.frameBoundary .p1] (jitter b s)
    let buf (t : State) : Option JitterBuffer := match t.voice.one.call with
      | .line c => some c.buffer
      | .free => none
      | .intercom _ => none
    (.frameBoundary .p1 ∈ (at' ⟨false, none, [], none, 0⟩ inRun).due) ∧
      got (fun t => (t.sch.vq.length, t.voice.one.counts.unsent)) (.frameBoundary .p1) (at' ⟨false, none, [], none, 0⟩ inRun)
        (1, 0) = true ∧
      got (fun t => t.voice.one.counts.unsent) (.frameBoundary .p1) (at' ⟨false, none, [], none, 0⟩ (lineIn .off)) 1 = true ∧
      got (fun t => (buf t).map JitterBuffer.playing) (.frameBoundary .p1) (at' ⟨false, some 7, [held 7], none, 0⟩ inRun)
        (some false) = true ∧
      got (fun t => (buf t).map JitterBuffer.playing) (.frameBoundary .p1)
        (at' ⟨false, some 7, [held 7, held 8], none, 0⟩ inRun) (some true) = true ∧
      got (fun t => ((buf t).bind JitterBuffer.expected, t.voice.one.counts.played)) (.frameBoundary .p1)
        (at' ⟨true, some 7, [held 7], none, 0⟩ inRun) (some 8, 1) = true ∧
      got (fun t => ((buf t).map JitterBuffer.conceal, t.voice.one.counts.concealment)) (.frameBoundary .p1)
        (at' ⟨true, some 7, [], none, 3⟩ inRun) (some 4, 1) = true ∧
      got (fun t => (buf t, t.evt.pending.has .voiceLoss)) (.frameBoundary .p1) (at' ⟨true, some 7, [], none, 4⟩ inRun)
        (some ⟨false, none, [], none, 0⟩, true) = true ∧
      4 ≤ (vqOf (List.replicate 4 (voice false)) .p1).length ∧
      got (fun t => (t.sch.vq.length, t.voice.one.counts.vqDrops, t.mon.voice.vqDrops)) (.frameBoundary .p1)
        (at' ⟨false, none, [], none, 0⟩ (pulling fun x => { x with vq := List.replicate 4 (voice false) }))
        (4, 1, ⟨1, 0⟩) = true := by
  decide

/-- R125, R126: three frames within the window of a PLAYING buffer. -/
theorem test_wit_buffers : BuffersOk (jitter ⟨true, some 7, [held 9, held 7, held 14], none, 0⟩ inRun) := by
  refine ⟨fun p c h => ?_, fun p c h => ?_, fun p c e h x => ?_, fun p c h x => ?_, fun p c e h x => ?_, fun p c h => ?_⟩ <;>
    cases p <;> cases h <;> first
      | decide
      | (cases x <;> decide)

/-- R126, R127, R129, R143: the frames that a played one leaves; a VQ drop and a concealment at one boundary, counted in the
record, the totals and the interval; an underrun; outside RUN. -/
theorem test_wit_boundary_counts :
    let s (b : JitterBuffer) (x : State) : State := due [.frameBoundary .p1] (jitter b x)
    let full : State := pulling fun x => { x with vq := List.replicate 4 (voice false) }
    let left (t : State) : Option JitterBuffer := match t.voice.one.call with
      | .line c => some c.buffer
      | .free => none
      | .intercom _ => none
    let seen (t : State) : CallCounts × CallCounts × Pair Nat × Nat :=
      (t.voice.one.counts, t.mon.voice.totals, t.mon.voice.vqDrops, t.mon.interval.voiceLost)
    let z : CallCounts := CallCounts.zero
    got left (.frameBoundary .p1) (s ⟨true, some 7, [held 9, held 7], none, 2⟩ inRun)
        (some ⟨true, some 8, [held 9], some (List.replicate 80 9), 0⟩) = true ∧
      got seen (.frameBoundary .p1) (s ⟨true, some 7, [held 9], none, 4⟩ full)
        ({ z with assembled := 1, vqDrops := 1, concealment := 1 }, { z with assembled := 1, vqDrops := 1, concealment := 1 },
          ⟨1, 0⟩, 2) = true ∧
      got seen (.frameBoundary .p1) (s ⟨true, some 7, [], none, 4⟩ inRun)
        ({ z with assembled := 1, concealment := 1, underrun := 1 }, { z with assembled := 1, concealment := 1, underrun := 1 },
          ⟨0, 0⟩, 1) = true ∧
      got seen (.frameBoundary .p1) (s ⟨true, some 7, [held 7], none, 4⟩ (lineIn .off))
        ({ z with assembled := 1, unsent := 1, played := 1 }, { z with assembled := 1, unsent := 1, played := 1 },
          ⟨0, 0⟩, 0) = true := by decide

/-- R147: an underrun and a VQ drop tell of the port; a frame that is offered with room tells of nothing. -/
theorem test_wit_voice_loss_told :
    let s (b : JitterBuffer) (x : State) : State := due [.frameBoundary .p1] (jitter b x)
    let full : State := pulling fun x => { x with vq := List.replicate 4 (voice false) }
    got told (.frameBoundary .p1) (s ⟨true, some 7, [], none, 4⟩ inRun) [.withA .voiceLoss 1] = true ∧
      got told (.frameBoundary .p1) (s ⟨false, none, [], none, 0⟩ full) [.withA .voiceLoss 1] = true ∧
      got told (.frameBoundary .p1) (s ⟨true, some 7, [], none, 3⟩ inRun) [] = true := by decide

/-- A VOICE frame of stream 3 and a sequence number. -/
def voiceFrame (seq : Nat) : Bytes := [3, 0] ++ u16 seq ++ List.replicate 80 6

/-- R125, R128: distances 7, 8, 32767 and 32768 from the expected number; a duplicate, the first, and no record. -/
theorem test_wit_voice_arrival :
    let at' (seq : Nat) (b : JitterBuffer) := due [.arrival (.voice 3 (voiceFrame seq))] (jitter b inRun)
    let b : JitterBuffer := ⟨true, some 100, [held 101], none, 0⟩
    let n (t : State) := t.voice.one.counts
    (at' 107 b).due.find? Due.isVoice = some (.arrival (.voice 3 (voiceFrame 107))) ∧
      (calling (call 3) inRun).voice.two.call.lineStream ≠ some 3 ∧
      got (fun t => ((n t).received, (n t).resync)) .voiceArrival (at' 107 b) (1, 0) = true ∧
      got (fun t => ((n t).received, (n t).resync)) .voiceArrival (at' 108 b) (1, 1) = true ∧
      got (fun t => (n t).resync) .voiceArrival (at' 32867 b) 1 = true ∧
      got (fun t => (n t).late) .voiceArrival (at' 32868 b) 1 = true ∧
      got (fun t => (n t).duplicate) .voiceArrival (at' 101 b) 1 = true ∧
      got (fun t => (n t).received) .voiceArrival (at' 5 ⟨false, none, [], none, 0⟩) 1 = true ∧
      got (fun t => t.mon.voice.malformed) .voiceArrival (due [.arrival (.voice 3 [3])] (jitter b inRun)) 1 = true ∧
      got (fun t => t.mon.voice.unknownStream) .voiceArrival (due [.arrival (.voice 3 (voiceFrame 1))] inRun) 1 = true ∧
      got (fun t => (n t).received) .voiceArrival (due [.arrival (.voice 3 (voiceFrame 107))] (jitter b (lineIn .off)))
        0 = true := by decide

/-! ## Supply and pacing -/

/-- MAINS-OK has settled at a level, BATT-LOW accepted at another or not yet. -/
def pinned (seen : Bool) (batt : Option Bool) (s : State) : State :=
  due [.pin .mainsOk] { s with supply := { s.supply with mainsOk := ⟨some (!seen), some seen, 50⟩, battLow := ⟨batt, none, 0⟩ } }

set_option maxRecDepth 4000 in
/-- R131, R132, R133: the other pin not accepted; the mode in force; LIFELINE and RESERVE. -/
theorem test_wit_pins :
    (.pin .mainsOk ∈ (pinned false none inRun).due ∧ ((pinned false none inRun).supply.pin .mainsOk).seen = some false) ∧
      got (fun t => (t.supply.mode, t.supply.mainsOk.accepted)) (.pinAcceptance .mainsOk) (pinned false none inRun)
        (.mains, some false) = true ∧
      got (fun t => (t.supply.mode, t.evt.pending.has .supplyChange)) (.pinAcceptance .mainsOk)
        (pinned true (some true) inRun) (.mains, false) = true ∧
      got (fun t => (t.supply.mode, t.sch.shedLevel, t.phone.ports.two.state, t.rate.effTx)) (.pinAcceptance .mainsOk)
        (pinned false (some false) inRun) (.lifeline, 2, .onHook, 4000) = true ∧
      got (fun t => (t.supply.mode, t.sch.shedLevel, t.phone.ports.two.state, t.rate.effTx, decide (t.load.tx = .none)))
        (.pinAcceptance .mainsOk) (pinned false (some true) inRun) (.reserve, 3, .unfed, 1000, false) = true := by decide

set_option maxRecDepth 4000 in
/-- R133: the premises of the second part, at LIFELINE with 1280 loaded and a frame in Q3. -/
theorem test_wit_mode_entry :
    shedAt (Params.reset.shed.get .lifeline) .i3 = true ∧ shedAt inRun.sch.shedLevel .i3 = false ∧
      shedAt (Params.reset.shed.get .lifeline) .i1 = false ∧ Mode.lifeline ≠ .mains ∧
      (enterMode .lifeline (pulling fun x => { x with queues := ⟨[], [], [], [⟨[1], 0, 0⟩]⟩ })).sch.queues.i3 = [] ∧
      inRun.params.loadCeiling.get .reserve < 8 * inRun.load.txLoads.sum := by
  decide

set_option maxRecDepth 4000 in
/-- R113, R121, R133, R147: what the loss of port 2's feed tells of: of a ringing port in an intercom, of a LINE record, of a
free one; and of nothing when the port was unfed. -/
theorem test_wit_feed_loss_told :
    let rings : PhonePort := { portIn .ringing with ring := some ⟨0, 1, 1, true, 0, 0⟩ }
    let s (q : PhonePort) (one two : Call) : State :=
      { phones (portIn .onHook) q State.reset with
        voice := ⟨{ ChannelRecord.reset with call := one }, { ChannelRecord.reset with call := two }⟩ }
    told (enterMode .reserve (s rings (.intercom 3) (.intercom 3))) =
        [.withA .ringDone 1, .withA .channelClosed 1, .withA .channelClosed 2, .withA .supplyChange 2] ∧
      told (writeParams 20 1 [[0, 0, 0, 0]] (s (portIn .offHook) .free (.line (call 4)))) = [.withA .channelClosed 2] ∧
      told (enterMode .lifeline (s rings (.intercom 3) (.intercom 3))) = [.withA .supplyChange 1] ∧
      told (enterMode .reserve (s (portIn .unfed) .free .free)) = [.withA .supplyChange 2] := by decide

/-- Pacing at its expiry, a HOOK notice owed. -/
def paced (owed : KindSet) (s : State) : State :=
  due [.pacing] { s with evt := { s.evt with noticeDue := owed, pending := owed, pacing := .paced 500 false } }

/-- R151: nothing owed; owed and taken; owed and refused at 8 frames. -/
theorem test_wit_pacing :
    .pacing ∈ (paced 0 State.reset).due ∧ Kind.hook.bit ≠ 0 ∧
      got (fun t => (t.evt.pacing, t.cls.mgmtQueue.length)) .pacingExpiry (paced 0 State.reset) (.ready, 0) = true ∧
      got (fun t => (t.evt.pacing, t.evt.noticeDue, reply t)) .pacingExpiry (paced Kind.hook.bit State.reset)
        (.paced 0 false, 0, some [0, 0, 0x20, 0, 0, 0, 0, 0]) = true ∧
      got (fun t => (t.evt.pacing, t.evt.noticeDue)) .pacingExpiry (paced Kind.hook.bit (sendingMgmt 8 false))
        (.paced 0 true, Kind.hook.bit) = true := by decide

/-! ## Requests -/

/-- The agent holds one request and the state two log records, a digit of port 1 and the flags of kinds 1 and 14. -/
def kept : State :=
  let r : LogRecord := { stamp := 1, kind := .trainFail, line := .training, mode := .mains, detailA := some 0, detailB := none }
  { phones { portIn .offHook with digits := [3] } (portIn .onHook) State.reset with
    evt := { EventUnit.reset with
      pending := 0x02001, noticeDue := 0x02001, log := List.replicate 9 { r with stamp := 0 } ++ [r], overwritten := 6 } }

/-- R162: no entry, tables 0 and 9, the last of the 44 parameters and one past it. -/
theorem test_wit_read_table :
    byteAt (req 1 [6, 0, 43, 0, 1]).body 0 = 6 ∧ field16 (req 1 [6, 0, 43, 0, 1]).body 1 = 43 ∧
      got status .readTable (asking 1 [6, 0, 43, 0, 0] State.reset) (some 8) = true ∧
      got status .readTable (asking 1 [0, 0, 0, 0, 1] State.reset) (some 2) = true ∧
      got status .readTable (asking 1 [9, 0, 0, 0, 1] State.reset) (some 2) = true ∧
      got status .readTable (asking 1 [6, 0, 43, 0, 2] State.reset) (some 4) = true ∧
      got (fun t => (status t, reply t)) .readTable (asking 1 [2, 0, 11, 0, 2] State.reset)
        (some 0, some [2, 0, 11, 0, 2, 0, 160, 0, 172]) = true ∧
      got status .readTable (asking 1 [6, 0, 43, 0, 1] State.reset) (some 0) = true ∧
      got status .readTable (asking 1 [1, 0, 0, 0, 47] State.reset) (some 0) = true ∧ 1510 < 48 * entrySize 1 ∧
      got status .readTable (asking 1 [1, 0, 0, 0, 48] State.reset) (some 8) = true := by decide

/-- R142, R144, R155, R149: the other reads at their boundaries. -/
theorem test_wit_reads :
    got status .readStatus (asking 4 [] busy) (some 0) = true ∧
      (counterGroup kept.mon 3).isSome = true ∧ got status .readCounters (asking 5 [3] kept) (some 0) = true ∧
      got status .readCounters (asking 5 [4] kept) (some 6) = true ∧
      got status .readHistory (asking 6 [0] kept) (some 0) = true ∧
      got status .readHistory (asking 6 [16] kept) (some 0) = true ∧
      got status .readHistory (asking 6 [17] kept) (some 6) = true ∧
      got (fun t => (t.evt.log.map LogRecord.stamp, t.evt.overwritten, (reply t).map fun b => b.take 5)) .readLog
        (asking 7 [] kept) ([0, 1], 0, some [0, 0, 0, 6, 8]) = true ∧
      got (fun t => (t.phone.ports.one.digits, (reply t).map fun b => b.drop 16)) .readEvents (asking 8 [] kept)
        ([], some [1, 3, 0]) = true := by decide

/-- R149, R160: a set of the twenty kinds clears those it names; one with bit 20 is refused whole, though it names kind 1 too. -/
theorem test_wit_clear_events :
    let seen (t : State) : Option Byte × KindSet × KindSet := (status t, t.evt.pending, t.evt.noticeDue)
    kept.evt.pending = 0x02001 ∧ field (req 9 [0, 0x10, 0, 0]).body 0 4 = 0x100000 ∧
      got seen .clearEvents (asking 9 [0, 0, 0x20, 0] kept) (some 0, 1, 1) = true ∧
      got seen .clearEvents (asking 9 [0, 0x0F, 0xFF, 0xFF] kept) (some 0, 0, 0) = true ∧
      got seen .clearEvents (asking 9 [0, 0x10, 0, 1] kept) (some 6, 0x02001, 0x02001) = true := by decide

theorem test_wit_asked_reads :
    Asked .readTable (req 1 [6, 0, 43, 0, 1]) [] (asking 1 [6, 0, 43, 0, 1] State.reset) ∧
      Asked .readStatus (req 4 []) [] (asking 4 [] busy) ∧ Asked .readCounters (req 5 [3]) [] (asking 5 [3] kept) ∧
      Asked .readHistory (req 6 [16]) [] (asking 6 [16] kept) ∧ Asked .readLog (req 7 []) [] (asking 7 [] kept) ∧
      Asked .readEvents (req 8 []) [] (asking 8 [] kept) ∧
      Asked .clearEvents (req 9 [0, 0, 0x20, 0]) [] (asking 9 [0, 0, 0x20, 0] kept) ∧ (req 1 [6, 0, 43, 0, 1]).HasBody 5 ∧
      (req 8 []).HasBody 0 ∧ (req 5 [3]).HasBody 1 ∧ (req 9 [0, 0, 0x20, 0]).HasBody 4 :=
  ⟨asked 1 _ _ rfl rfl rfl, asked 4 _ _ rfl rfl rfl, asked 5 _ _ rfl rfl rfl, asked 6 _ _ rfl rfl rfl,
   asked 7 _ _ rfl rfl rfl, asked 8 _ _ rfl rfl rfl, asked 9 _ _ rfl rfl rfl, hasBody 1 _, hasBody 8 _, hasBody 5 _,
   hasBody 9 _⟩

/-- A run of entries for WRITE-TABLE, and one for WRITE-ON. -/
def writing (id start count : Nat) (data : Bytes) (s : State) : State :=
  asking 2 (u8 id ++ u16 start ++ u16 count ++ data) s
def writingOn (id start count : Nat) (data : Bytes) (s : State) : State :=
  asking 3 (u16 count ++ data) { s with agent := { s.agent with cursor := some { table := id, index := start } } }

/-- What a write leaves: the status and the cursor. -/
def wrote (t : State) : Option Byte × Option Cursor := (status t, t.agent.cursor)

/-- R163: tables 3, 4 and 7, and each table one entry past its end and at its end. -/
theorem test_wit_write_bounds :
    got wrote .writeTable (writing 3 0 1 (zeros 1) State.reset) (some 3, none) = true ∧
      got wrote .writeTable (writing 4 0 1 (zeros 1) State.reset) (some 3, none) = true ∧
      got wrote .writeTable (writing 7 0 1 (zeros 64) State.reset) (some 3, none) = true ∧
      got wrote .writeTable (writing 1 64 1 (zeros 32) State.reset) (some 4, none) = true ∧
      got wrote .writeTable (writing 2 13 1 (zeros 2) State.reset) (some 4, none) = true ∧
      got wrote .writeTable (writing 5 8 1 (zeros 16) State.reset) (some 4, none) = true ∧
      got wrote .writeTable (writing 6 44 1 (zeros 8) State.reset) (some 4, none) = true ∧
      got wrote .writeTable (writing 8 4 1 (zeros 24) State.reset) (some 4, none) = true ∧
      got wrote .writeOn (writingOn 1 63 1 (zeros 32) State.reset) (some 0, some ⟨1, 64⟩) = true ∧
      got wrote .writeOn (writingOn 1 64 1 (zeros 32) State.reset) (some 4, none) = true := by decide

/-- R159, R163: ids 0 and 9, bodies one byte short and long, a run of 48 CLASS entries, and no cursor: the cursor is lost in
the first two cases, and otherwise stays. -/
theorem test_wit_write_lengths :
    let at_ : State := { State.reset with agent := { Agent.reset with cursor := some ⟨2, 5⟩ } }
    got wrote .writeTable (writing 0 0 1 (zeros 1) at_) (some 2, none) = true ∧
      got wrote .writeTable (writing 9 0 1 (zeros 1) at_) (some 2, none) = true ∧
      got wrote .writeTable (asking 2 [2, 0, 5, 0] at_) (some 8, some ⟨2, 5⟩) = true ∧
      got wrote .writeTable (writing 2 5 1 (zeros 1) at_) (some 8, some ⟨2, 5⟩) = true ∧
      got wrote .writeTable (writing 2 5 1 (zeros 3) at_) (some 8, some ⟨2, 5⟩) = true ∧
      got wrote .writeOn (writingOn 2 5 1 (zeros 3) State.reset) (some 8, some ⟨2, 5⟩) = true ∧
      got wrote .writeOn (asking 3 [0] at_) (some 8, some ⟨2, 5⟩) = true ∧ 1510 < 48 * entrySize 1 ∧
      got wrote .writeOn (asking 3 [0, 1, 0, 41] State.reset) (some 4, none) = true := by decide

set_option maxRecDepth 20000 in
/-- R66, R68, R88, R90: PROVIDER-CAP, the SUPPLY-CAP of another mode, SHED and a limit of the queue of 26 units. -/
theorem test_wit_write_rates :
    (writeParams 9 1 [[0, 0, 0, 200]] inRun).rate.effTx = 200 ∧
      (writeParams 12 1 [[0, 0, 0, 200]] inRun).rate = inRun.rate ∧
      ((writeParams 17 1 [[0, 0, 0, 1]] choosing).sch.queues.i3, (writeParams 17 1 [[0, 0, 0, 1]] choosing).sch.shedLevel) =
        ([], 1) ∧
      (writeParams 18 1 [[0, 0, 0, 1]] choosing).sch.shedLevel = 0 ∧
      ((writeParams 27 1 [[0, 0, 0, 25]] choosing).sch.queues.i3.length,
        (writeParams 27 1 [[0, 0, 0, 25]] choosing).mon.traffic.sch.tailDropped.i3) = (0, 1) ∧
      (writeParams 27 1 [[0, 0, 0, 26]] choosing).sch.queues.i3.length = 1 := by decide

/-- R37, R113, R150, R152: LOAD-CEILING, PORT2-FEED off, with an intercom, and on, and the two masks. -/
theorem test_wit_write_others :
    let linked : State := phones (portIn .onHook) (portIn .ringing)
      { State.reset with voice := ⟨{ ChannelRecord.reset with call := .intercom 3 }, { ChannelRecord.reset with call := .intercom 3 }⟩ }
    let sleeping : State := { kept with evt := { kept.evt with asleep := true } }
    ((writeParams 15 1 [[0, 0, 3, 255]] (onMode .lifeline inRun)).load.tx.table.map List.sum) = some 127 ∧
      (writeParams 15 1 [[0, 0, 4, 0]] (onMode .lifeline inRun)).load.tx = .none ∧
      (let v := writeParams 20 1 [[0, 0, 0, 0]] linked
       (v.phone.ports.two.state, v.voice.one.call, v.voice.two.call, v.evt.pending.has .ringDone,
         v.evt.pending.has .channelClosed) = (.unfed, .free, .free, true, true)) ∧
      (writeParams 20 1 [[0, 0, 0, 1]] (phones (portIn .onHook) (portIn .unfed) State.reset)).phone.ports.two.state = .onHook ∧
      (writeParams 21 1 [[0, 0, 0, 0]] linked).phone = linked.phone ∧
      (writeParams 37 1 [[0, 0, 0x20, 0]] kept).evt.noticeDue = 0x02000 ∧
      ((writeParams 38 1 [[0, 0, 0, 1]] sleeping).evt.asleep, (writeParams 38 1 [[0, 0, 0, 1]] sleeping).evt.wakePin) =
        (false, true) ∧
      (writeParams 38 1 [[0, 0, 0, 2]] sleeping).evt.asleep = true := by decide

/-- R24: in RUN with RELOAD-ENABLE 1 it is BUSY; 171 is stored, 160 is not above the entry before it. -/
theorem test_wit_write_thresh :
    got wrote .writeTable (writing 2 12 1 [0, 171] inRun) (some 5, none) = true ∧
      inRun.line.state = .run ∧ inRun.params.reloadEnable = 1 ∧ State.reset.line.state ≠ .run ∧
      got (fun t => (wrote t, t.load.thresh.getLast?)) .writeTable (writing 2 12 1 [0, 171] State.reset)
        ((some 0, some ⟨2, 13⟩), some 171) = true ∧
      got (fun t => (wrote t, t.load.thresh.getLast?)) .writeOn (writingOn 2 12 1 [0, 160] State.reset)
        ((some 6, none), some 172) = true := by decide

/-- A class entry that drops, and one of no action. -/
def classData (action : Byte) : Bytes := [1, action] ++ zeros 30

/-- R76, R108, R145, R163: the other tables, a value that is stored and one that is not. -/
theorem test_wit_write_tables :
    (readAll readClassEntry [classData 1]).isSome = true ∧
      got (fun t => (wrote t, (t.cls.table.getLast?).map ClassEntry.valid)) .writeTable (writing 1 63 1 (classData 1) State.reset)
        ((some 0, some ⟨1, 64⟩), some true) = true ∧
      readAll readClassEntry [classData 3] = none ∧
      got wrote .writeTable (writing 1 63 1 (classData 3) State.reset) (some 6, none) = true ∧
      cadenceBusy busy 1 1 = true ∧ got wrote .writeTable (writing 5 1 1 (zeros 16) busy) (some 5, none) = true ∧
      cadenceBusy busy 2 1 = false ∧
      got wrote .writeTable (writing 5 2 1 ([1, 144, 1, 144] ++ zeros 12) busy) (some 0, some ⟨5, 3⟩) = true ∧
      got wrote .writeTable (writing 5 2 1 ([1, 145, 1, 144] ++ zeros 12) busy) (some 6, none) = true ∧
      got (fun t => (wrote t, t.params.voiceShare, (reply t).map fun b => b.take 4)) .writeTable
        (writing 6 10 1 (numEntry 20) State.reset) ((some 0, some ⟨6, 11⟩), 16, some [0, 0, 0, 16]) = true ∧
      (readAll readWatch [[1, 20] ++ zeros 22]).isSome = true ∧
      got (fun t => (wrote t, t.mon.watches.i3.source)) .writeTable (writing 8 3 1 ([1, 20] ++ zeros 22) State.reset)
        ((some 0, some ⟨8, 4⟩), .event .watch) = true ∧
      readAll readWatch [[1, 21] ++ zeros 22] = none ∧
      got wrote .writeTable (writing 8 3 1 ([1, 21] ++ zeros 22) State.reset) (some 6, none) = true := by decide

/-- The premises of the statement at a write of the last threshold, for each of the two requests. -/
theorem test_wit_asked_writes :
    (Asked .writeTable (req 2 [2, 0, 12, 0, 1, 0, 171]) [] (writing 2 12 1 [0, 171] State.reset) ∧
      (req 2 [2, 0, 12, 0, 1, 0, 171]).bodyLen = 5 + 1 * entrySize 2 ∧ byteAt (req 2 [2, 0, 12, 0, 1, 0, 171]).body 0 = 2 ∧
      field16 (req 2 [2, 0, 12, 0, 1, 0, 171]).body 1 = 12 ∧ field16 (req 2 [2, 0, 12, 0, 1, 0, 171]).body 3 = 1) ∧
    (Asked .writeOn (req 3 [0, 1, 0, 160]) [] (writingOn 2 12 1 [0, 160] State.reset) ∧
      (req 3 [0, 1, 0, 160]).bodyLen = 2 + 1 * entrySize 2 ∧ field16 (req 3 [0, 1, 0, 160]).body 0 = 1 ∧
      (executing [] (writingOn 2 12 1 [0, 160] State.reset)).agent.cursor = some ⟨2, 12⟩) :=
  ⟨⟨asked 2 _ _ rfl rfl rfl, by decide, by decide, by decide, by decide⟩,
   ⟨asked 3 _ { State.reset with agent := { Agent.reset with cursor := some ⟨2, 12⟩ } } rfl rfl rfl, by decide, by decide,
    by decide⟩⟩

/-- R152, R164: a wake flag, none, N above 8, at 4, and to 8 and 0 with a cursor on CLASS. -/
theorem test_wit_sleep_partition :
    kept.evt.pending &&& kept.params.wakeMask ≠ 0 ∧ State.reset.evt.pending &&& State.reset.params.wakeMask = 0 ∧
      got (fun t => (status t, t.evt.asleep)) .hostSleep (asking 16 [] kept) (some 5, false) = true ∧
      got (fun t => (status t, t.evt.asleep)) .hostSleep (asking 16 [] State.reset) (some 0, true) = true ∧
      got status .setPartition (asking 17 [9] State.reset) (some 6) = true ∧
      got (fun t => (status t, t.cls.table.length)) .setPartition (asking 17 [4] State.reset) (some 0, 64) = true ∧
      got (fun t => (t.agent.partition, t.cls.table.length, t.evt.log.length)) .setPartition (asking 17 [8] kept)
        (8, 96, 10) = true ∧
      got (fun t => (t.cls.table.length, t.agent.cursor)) .setPartition
        (asking 17 [0] { State.reset with agent := { Agent.reset with cursor := some ⟨1, 5⟩ } }) (32, none) = true := by decide

theorem test_wit_asked_sleep :
    Asked .hostSleep (req 16 []) [] (asking 16 [] kept) ∧ (req 16 []).HasBody 0 ∧
      Asked .setPartition (req 17 [8]) [] (asking 17 [8] kept) ∧ (req 17 [8]).HasBody 1 :=
  ⟨asked 16 _ _ rfl rfl rfl, hasBody 16 _, asked 17 _ _ rfl rfl rfl, hasBody 17 _⟩

/-- R169: kinds 0 and 19, version 2, a body of the wrong length, ports 0 and 3, and codes that name nothing. -/
theorem test_wit_refusals :
    (req 0 []).row = .badKind ∧ (req 19 []).row = .badKind ∧ { req 4 [] with version := 2 }.row = .badKind ∧
      got status .badKindRequest (asking 19 [] State.reset) (some 1) = true ∧
      (req 13 [1, 0]).row = .ring ∧ ¬ ((req 13 [1, 0]).bodyLen = 3) ∧
      got status .ring (asking 13 [1, 0] State.reset) (some 8) = true ∧
      byteAt (req 14 [3]).body 0 = 3 ∧ got status .ringStop (asking 14 [3] State.reset) (some 6) = true ∧
      got status .channelClose (asking 12 [0] State.reset) (some 6) = true ∧
      byteAt (req 11 [3, 1, 0, 0, 0, 0, 0]).body 0 = 3 ∧
      got status .channelOpenLine (asking 11 [3, 1, 0, 0, 0, 0, 0] inRun) (some 6) = true ∧
      byteAt (req 10 [4]).body 0 = 4 ∧ got (fun t => (status t, t.line.state)) .start (asking 10 [4] State.reset)
        (some 6, .off) = true := by decide

theorem test_wit_asked_refusals :
    Asked .badKind (req 19 []) [] (asking 19 [] State.reset) ∧ Asked .ring (req 13 [1, 0]) [] (asking 13 [1, 0] State.reset) ∧
      Asked .ringStop (req 14 [3]) [] (asking 14 [3] State.reset) ∧ (req 14 [3]).HasBody 1 ∧
      Asked .channelOpenLine (req 11 [3, 1, 0, 0, 0, 0, 0]) [] (asking 11 [3, 1, 0, 0, 0, 0, 0] inRun) ∧
      Asked .start (req 10 [4]) [] (asking 10 [4] State.reset) ∧ (req 10 [4]).HasBody 1 :=
  ⟨asked 19 _ _ rfl rfl rfl, asked 13 _ _ rfl rfl rfl, asked 14 _ _ rfl rfl rfl, hasBody 14 _, asked 11 _ _ rfl rfl rfl,
   asked 10 _ _ rfl rfl rfl, hasBody 10 _⟩

/-! ## Resets -/

/-- R21, R99, R130, R166: the four block scopes on the state with everything at work. -/
theorem test_wit_block_scopes :
    got (fun t => (t.line.state, t.load.rxLoads.sum, t.out.commands, status t)) .resetLine (asking 18 [2] busy)
        (.off, 0, [.halt], some 0) = true ∧
      got (fun t => (t.sch.credit, t.sch.queues.i1, t.cls.sending)) .resetTraffic (asking 18 [3] busy)
        (0, [], some (.homeEmptied (List.replicate 14 3))) = true ∧
      got (fun t => (t.voice.one.call, t.phone.ports.two.ring, t.sch.vq)) .resetVoice (asking 18 [4] busy)
        (.free, none, []) = true ∧
      got (fun t => (t.mon.seconds, t.evt.pending, t.evt.asleep)) .resetMonitor (asking 18 [5] busy) (0, 0, true) = true := by
  decide

theorem test_wit_asked_resets :
    Asked .resetLine (req 18 [2]) [] (asking 18 [2] busy) ∧ Asked .resetTraffic (req 18 [3]) [] (asking 18 [3] busy) ∧
      Asked .resetVoice (req 18 [4]) [] (asking 18 [4] busy) ∧ Asked .resetMonitor (req 18 [5]) [] (asking 18 [5] busy) ∧
      Asked .resetPart (req 18 [1]) [] (asking 18 [1] busy) ∧ (req 18 [1]).HasBody 1 ∧
      Asked .resetPart (req 18 [6]) [] (asking 18 [6] busy) :=
  ⟨asked 18 _ _ rfl rfl rfl, asked 18 _ _ rfl rfl rfl, asked 18 _ _ rfl rfl rfl, asked 18 _ _ rfl rfl rfl,
   asked 18 _ _ rfl rfl rfl, hasBody 18 _, asked 18 _ _ rfl rfl rfl⟩

/-- R98, R99, R116: a LINE reset takes back the units sent of the frame in progress and keeps its arrival, the turn and the
mark; a VOICE reset keeps the hook latch and the previous sample (log entry 16). -/
theorem test_wit_reset_keeps :
    let f : FrameRec := ⟨List.replicate 100 1, 7, 1⟩
    let s : State := { inRun with
      sch := { inRun.sch with
        queues := ⟨[], [f, f], [f], []⟩, inProgress := some .i1, turn := .q2, mark := true, deficit := ⟨1, 2, 3⟩ }
      phone := { inRun.phone with ports := ⟨{ inRun.phone.ports.one with rawOff := true, lastSample := 9, stable := 4 },
                                            inRun.phone.ports.two⟩ } }
    got (fun t => (t.sch.queues, t.sch.inProgress, t.sch.turn, t.sch.mark, t.sch.deficit)) .resetLine (asking 18 [2] s)
        (⟨[], [{ f with sent := 0 }, f], [f], []⟩, none, .q2, true, ⟨1, 2, 3⟩) = true ∧
      got (fun t => (t.phone.ports.one.rawOff, t.phone.ports.one.lastSample, t.phone.ports.one.stable)) .resetVoice
        (asking 18 [4] s) (true, 9, 0) = true := by decide

/-- R166: the request waits for its reply; another code is refused; the reset keeps the time base and the mode. -/
theorem test_wit_part :
    got (fun t => (t.agent.partWait, t.line.state, status t)) .resetPart (asking 18 [1] busy) (true, .run, some 0) = true ∧
      got (fun t => (t.agent.partWait, status t)) .resetPart (asking 18 [6] busy) (false, some 6) = true ∧
      got (fun t => (t.line.state, t.supply.mode, t.sch.shedLevel)) .partReset
        (due [.partReset] { onMode .reserve busy with time := ⟨9, 3⟩ }) (.off, .reserve, 3) = true ∧
      got (fun t => (t.phone.ports.two.state, t.time.ms, t.out.commands)) .partReset
        (due [.partReset] { onMode .reserve busy with time := ⟨9, 3⟩ }) (.unfed, 9, [.halt]) = true := by decide

end Sys2Proof.Tests
end

section
/-! PROOFS. The rate unit (chapter 4): the record that a recomputation gives, stage by stage (R61 to R65), the record
outside RUN (R67), and the write of VOICE-SHARE. -/

namespace Sys2Proof.Machine

theorem State.inRun_iff {s : State} : s.inRun = true ↔ s.line.state = .run := by simp [State.inRun]

/-! ## Raw and net loads (R61, R62) -/

/-- R61 with R22: 12 bits in each group, over 8. -/
theorem TableOk.rawOf_le {n : Nat} {t : List Nat} (h : TableOk n t) : rawOf t ≤ 96 * n := by
  obtain ⟨hlen, hload⟩ := h
  have hsum : t.sum ≤ t.length * 12 := by simpa using List.sum_le_card_nsmul t 12 hload
  unfold rawOf
  omega

@[simp] theorem netOf_p0 (raw : Nat) : netOf raw .p0 = raw := by simp [netOf, Level.share]

theorem netOf_le (raw : Nat) (l : Level) : netOf raw l ≤ raw :=
  calc raw * (32 - l.share) / 32
    _ ≤ raw * 32 / 32 := by gcongr; omega
    _ = raw := Nat.mul_div_cancel raw (by decide)

theorem rateRecord_raw (s : State) : (rateRecord s).raw = ⟨rawOf s.load.rxLoads, rawOf s.load.txLoads⟩ := by
  unfold rateRecord
  split <;> rfl

theorem rateRecord_net_get (s : State) (d : Direction) :
    (rateRecord s).net.get d = netOf ((rateRecord s).raw.get d) (s.load.prot.get d).level := by
  unfold rateRecord
  cases d <;> split <;> rfl

theorem rateRecord_net_le_raw (s : State) (d : Direction) : (rateRecord s).net.get d ≤ (rateRecord s).raw.get d := by
  rw [rateRecord_net_get]
  exact netOf_le _ _

theorem LoadsOk.raw_rx_le {s : State} (h : LoadsOk s) : (rateRecord s).raw.rx ≤ 6144 := by
  rw [rateRecord_raw]
  exact h.rx.rawOf_le

theorem LoadsOk.raw_tx_le {s : State} (h : LoadsOk s) : (rateRecord s).raw.tx ≤ 3072 := by
  rw [rateRecord_raw]
  exact h.tx.rawOf_le

/-- Settles O17: the record's raw loads are the table sums of R61, each net load is the share of R62 taken from them, and
R22's limit of 12 bits a group bounds the sums. -/
theorem rawAndNetLoads : Obligations.RawAndNetLoads := by
  intro s hs
  simp only [recompute_rate]
  refine ⟨?rx, ?tx, hs.raw_rx_le, hs.raw_tx_le, fun d => ?net, fun d hp0 => ?netP0⟩
  case rx => rw [rateRecord_raw]; rfl
  case tx => rw [rateRecord_raw]; rfl
  case net =>
    rw [rateRecord_net_get]
    cases (s.load.prot.get d).level <;> rfl
  case netP0 => rw [rateRecord_net_get, hp0, netOf_p0]

/-! ## Line capacity (R63) -/

/-- R63: a guard takes capacity and never gives any. A period of 0 gives 0. -/
theorem capacityOf_le (net : Nat) (g : Option (Nat × Nat)) : capacityOf net g ≤ 125 * net / 16 := by
  match g with
  | none => exact le_rfl
  | some (p, w) =>
    have hshare : 125 * net * (p - w) / p ≤ 125 * net := Nat.div_le_of_le_mul <|
      calc 125 * net * (p - w)
        _ ≤ 125 * net * p := by gcongr; omega
        _ = p * (125 * net) := Nat.mul_comm _ _
    calc 125 * net * (p - w) / (16 * p)
      _ = 125 * net * (p - w) / p / 16 := by rw [Nat.div_div_eq_div_mul, Nat.mul_comm 16 p]
      _ ≤ 125 * net / 16 := Nat.div_le_div_right hshare

/-- The widest product of R63, from the largest net load and the largest span of symbols that a guard leaves. -/
theorem capacity_product_le {net span maxNet maxSpan : Nat} (hn : net ≤ maxNet) (hs : span ≤ maxSpan) :
    125 * net * span ≤ 125 * maxNet * maxSpan := by gcongr

theorem rateRecord_capacity_get {s : State} (h : s.line.state = .run) (d : Direction) :
    (rateRecord s).capacity.get d =
      capacityOf ((rateRecord s).net.get d) ((s.load.prot.get d).guard.map Guard.shape) := by
  rw [rateRecord, if_pos (State.inRun_iff.mpr h)]
  cases d <;> rfl

theorem rateRecord_capacity_get_le {s : State} (h : s.line.state = .run) {d : Direction} {n : Nat}
    (hraw : (rateRecord s).raw.get d ≤ n) : (rateRecord s).capacity.get d ≤ 125 * n / 16 := by
  rw [rateRecord_capacity_get h]
  have hnet := rateRecord_net_le_raw s d
  exact (capacityOf_le _ _).trans (by gcongr; omega)

/-- R50, R63: the tracker gives the setting in force the capacity that the rate unit works out. -/
theorem setting_capacity_eq {s : State} (h : s.line.state = .run) :
    s.load.prot.rx.setting.capacity (rawOf s.load.rxLoads) = (rateRecord s).capacity.rx := by
  have hcap := rateRecord_capacity_get h .receive
  rw [rateRecord_net_get, rateRecord_raw] at hcap
  exact hcap.symm

/-- Settles O18: the capacity of each direction is `capacityOf` of its net load and guard (R63), which a guard only
lowers. -/
theorem lineCapacity : Obligations.LineCapacity := by
  refine ⟨fun s d hrun => ?formula, fun s hs hrun => ?bound, by decide, fun s hrun => ?tracker,
    fun net p w hn hp => ?product, fun net p w hn hp hw => ⟨?productTx, by decide⟩⟩
  case formula =>
    rw [recompute_rate, rateRecord_capacity_get hrun]
    cases (s.load.prot.get d).guard <;> rfl
  case bound =>
    rw [recompute_rate]
    exact ⟨rateRecord_capacity_get_le (d := .receive) hrun hs.raw_rx_le,
      rateRecord_capacity_get_le (d := .transmit) hrun hs.raw_tx_le⟩
  case tracker =>
    rw [recompute_rate]
    exact setting_capacity_eq hrun
  case product =>
    have hspan : p - w ≤ 16000 := by omega
    exact (capacity_product_le hn hspan).trans_lt (by decide)
  case productTx =>
    have hspan : p - w ≤ 65534 := by omega
    exact capacity_product_le hn hspan

/-! ## Effective transmit capacity and the binding limit (R64), and outside RUN (R67) -/

/-- R64: of the terms that give the minimum, the first in the order SUPPLY, PROVIDER, LINE is the binding limit. -/
theorem bindingOf_iff (line provider supply : Nat) :
    let b := bindingOf line provider supply
    let m := effectiveTx line provider supply
    (b = .supply ↔ supply = m) ∧ (b = .provider ↔ supply ≠ m ∧ provider = m) ∧
      (b = .line ↔ supply ≠ m ∧ provider ≠ m) := by
  unfold bindingOf
  generalize effectiveTx line provider supply = m
  by_cases hsupply : supply = m
  · simp [hsupply]
  · by_cases hprovider : provider = m <;> simp [hsupply, hprovider]

theorem rateRecord_effTx {s : State} (h : s.line.state = .run) :
    (rateRecord s).effTx =
      effectiveTx (rateRecord s).capacity.tx s.params.providerCap (s.params.supplyCap.get s.supply.mode) := by
  rw [rateRecord, if_pos (State.inRun_iff.mpr h)]

theorem rateRecord_binding {s : State} (h : s.line.state = .run) :
    (rateRecord s).binding =
      bindingOf (rateRecord s).capacity.tx s.params.providerCap (s.params.supplyCap.get s.supply.mode) := by
  rw [rateRecord, if_pos (State.inRun_iff.mpr h)]

/-- R67: the rate record outside RUN: the loads of the tables and levels, and every capacity 0. -/
def RateRecord.outsideRun (l : Loading) : RateRecord :=
  { raw := ⟨rawOf l.rxLoads, rawOf l.txLoads⟩
    net := ⟨netOf (rawOf l.rxLoads) l.prot.rx.level, netOf (rawOf l.txLoads) l.prot.tx.level⟩
    capacity := ⟨0, 0⟩, effTx := 0, binding := .none, txAllowance := 0, rxAllowance := 0 }

theorem rateRecord_outside_run {s : State} (h : s.line.state ≠ .run) :
    rateRecord s = RateRecord.outsideRun s.load := by
  rw [rateRecord, if_neg (mt State.inRun_iff.mp h)]
  rfl

theorem leaveRun_load (dest : LineState) (s : State) : (leaveRun dest s).load = loadingLineDown s.load := by
  simp [leaveRun]

/-- R14, R67: the line-down event leaves the record that the tables and levels give outside RUN; the guards it clears do
not enter. -/
theorem leaveRun_rate {dest : LineState} (h : dest ≠ .run) (s : State) :
    (leaveRun dest s).rate = RateRecord.outsideRun s.load := by
  rw [leaveRun, recompute_rate, rateRecord_outside_run (by simpa [idleContexts] using h)]
  simp [RateRecord.outsideRun, loadingLineDown]

/-- Settles O19: in RUN by the two functions of R64, and outside RUN by the one record that R67 leaves, at the line-down
event too. -/
theorem capacitiesAndBindingLimit : Obligations.CapacitiesAndBindingLimit := by
  refine ⟨⟨fun s hrun => ?inRun, fun s hout => ?zero⟩, fun s hout => ?record, fun s dest hdest => ?lineDown⟩
  case inRun =>
    dsimp only
    rw [recompute_rate, rateRecord_binding hrun]
    exact ⟨rateRecord_effTx hrun, bindingOf_iff ..⟩
  case zero =>
    rw [recompute_rate, rateRecord_outside_run hout]
    exact ⟨rfl, rfl, rfl⟩
  case record =>
    rw [recompute_rate, rateRecord_outside_run hout]
    rfl
  case lineDown =>
    rw [leaveRun_rate hdest, leaveRun_load]
    exact ⟨rfl, rfl, rfl⟩

/-! ## Voice allowances and the write of VOICE-SHARE (R65, R163) -/

theorem rateRecord_txAllowance {s : State} (h : s.line.state = .run) :
    (rateRecord s).txAllowance = allowanceOf (rateRecord s).effTx s.params.voiceShare := by
  rw [rateRecord, if_pos (State.inRun_iff.mpr h)]

theorem rateRecord_rxAllowance {s : State} (h : s.line.state = .run) :
    (rateRecord s).rxAllowance = allowanceOf (rateRecord s).capacity.rx s.params.voiceShare := by
  rw [rateRecord, if_pos (State.inRun_iff.mpr h)]

theorem recomputeAllowances_rate {s : State} (h : s.line.state = .run) :
    (recomputeAllowances s).rate =
      { s.rate with
        txAllowance := allowanceOf s.rate.effTx s.params.voiceShare
        rxAllowance := allowanceOf s.rate.capacity.rx s.params.voiceShare } := by
  rw [recomputeAllowances, if_pos (State.inRun_iff.mpr h), State.setRate_rate]

/-- R163: the parameters that a run of entries writes, as `writeParams` tells the blocks of them. -/
def wroteParam (start count i : Nat) : Bool := decide (start ≤ i) && decide (i < start + count)

theorem wroteParam_one_of_lt {n i : Nat} (h : n < i) : wroteParam n 1 i = false := by
  simp only [wroteParam, Bool.and_eq_false_iff, decide_eq_false_iff_not]
  omega

theorem le_modeIndex (base : Nat) (m : Mode) : base ≤ modeIndex base m := Nat.le_add_right _ _

/-- R163: the run is stored whole, and each block is told once what it wrote. -/
theorem writeParams_eq (start count : Nat) (entries : List Bytes) (s : State) :
    writeParams start count entries s =
      tellEvents (wroteParam start count) (tellPhone (wroteParam start count) (tellLoading (wroteParam start count)
        (tellScheduler (wroteParam start count) (tellRate (wroteParam start count)
          (s.modAgent fun a => { a with params := storeParams a.params start entries }))))) := rfl

theorem writeParams_agent (start count : Nat) (entries : List Bytes) (s : State) :
    (writeParams start count entries s).agent =
      { s.agent with params := storeParams s.agent.params start entries } := by
  simp [writeParams_eq]

/-- R66, R163: of the blocks told of a write only the rate unit touches the rate record. -/
theorem writeParams_rate (start count : Nat) (entries : List Bytes) (s : State) :
    (writeParams start count entries s).rate =
      (tellRate (wroteParam start count)
        (s.modAgent fun a => { a with params := storeParams a.params start entries })).rate := by
  simp [writeParams_eq]

/-- R113, R163: only a PORT2-FEED of the mode in force can reach a channel record. -/
theorem writeParams_voice {start count : Nat} {s : State} (entries : List Bytes)
    (h : wroteParam start count (modeIndex 20 s.supply.mode) = false) :
    (writeParams start count entries s).voice = s.voice := by
  simp [writeParams_eq, tellPhone, h]

/-- R65: told of VOICE-SHARE alone, the rate unit works out stage 5 alone. -/
theorem tellRate_voiceShare (s : State) : tellRate (wroteParam 10 1) s = recomputeAllowances s := by
  have hcap : wroteParam 10 1 9 = false := by decide
  have hmode : wroteParam 10 1 (modeIndex 11 s.supply.mode) = false := wroteParam_one_of_lt (le_modeIndex 11 _)
  have hshare : wroteParam 10 1 10 = true := by decide
  simp [tellRate, hcap, hmode, hshare]

theorem writeParams_voiceShare (b : Bytes) (s : State) :
    (writeParams 10 1 [b] s).params.voiceShare = clampNat 1 16 b := by
  rw [State.params_eq, writeParams_agent]
  rfl

theorem writeParams_voiceShare_rate {s : State} (h : s.line.state = .run) (b : Bytes) :
    (writeParams 10 1 [b] s).rate =
      { s.rate with
        txAllowance := allowanceOf s.rate.effTx (clampNat 1 16 b)
        rxAllowance := allowanceOf s.rate.capacity.rx (clampNat 1 16 b) } := by
  rw [writeParams_rate, tellRate_voiceShare, recomputeAllowances_rate (by simpa using h)]
  rfl

theorem clampNat_bounds {lo hi : Nat} (h : lo ≤ hi) (b : Bytes) : lo ≤ clampNat lo hi b ∧ clampNat lo hi b ≤ hi := by
  unfold clampNat clampTo
  omega

/-- Settles O20: a recomputation gives the allowances of R65, and the write of VOICE-SHARE tells the rate unit of stage 5
and no other block of anything that holds a call. -/
theorem voiceAllowances : Obligations.VoiceAllowances := by
  refine ⟨fun s hrun => ?inRun, fun s hout => ?outside, fun s b hrun => ?write, clampNat_bounds (by decide), rfl⟩
  case inRun =>
    rw [recompute_rate]
    exact ⟨rateRecord_txAllowance hrun, rateRecord_rxAllowance hrun⟩
  case outside =>
    rw [recompute_rate, rateRecord_outside_run hout]
    exact ⟨rfl, rfl⟩
  case write =>
    have hfeed : 10 < modeIndex 20 s.supply.mode := (by decide : 10 < 20).trans_le (le_modeIndex 20 _)
    exact ⟨writeParams_voiceShare_rate hrun b, writeParams_voiceShare b s,
      writeParams_voice [b] (wroteParam_one_of_lt hfeed)⟩

end Sys2Proof.Machine
end

section
/-! PROOFS. The shapes of a command: power-on, a step from outside on the settled state, the agent's turn, or due steps taken;
what taking due steps leaves due; and what a command keeps, from what its own parts keep. -/

namespace Sys2Proof.Machine

/-! ## The shapes of a command -/

/-- What a command from outside does to the settled state. -/
def outsideOf : Instr → Option (State → State)
  | .msTick a b => some (tickStep a b)
  | .trained r => some (trainedStep r)
  | .trainFailed reason => some (trainFailedStep reason)
  | .signalLost => some signalLostStep
  | .frameReport r => some (frameReportStep r)
  | .marginReport ratios => some (marginReportStep ratios)
  | .unitPull => some pullUnit
  | .receivedUnit u damaged => some (receiveUnit u damaged)
  | .homeFrameArrival f right => some (homeArrival f right)
  | .homeFrameSent => some finishSending
  | .sampleFrame one two => some (sampleStep one two)
  | _ => none

/-- The row and the handler of the request that a command has the agent execute. -/
def handlerOf : Instr → Option (RequestRow × (Request → State → Answer))
  | .readTable => some (.readTable, answerReadTable)
  | .writeTable => some (.writeTable, answerWriteTable)
  | .writeOn => some (.writeOn, answerWriteOn)
  | .readStatus => some (.readStatus, answerReadStatus)
  | .readCounters => some (.readCounters, answerReadCounters)
  | .readHistory => some (.readHistory, answerReadHistory)
  | .readLog => some (.readLog, answerReadLog)
  | .readEvents => some (.readEvents, answerReadEvents)
  | .clearEvents => some (.clearEvents, answerClearEvents)
  | .start => some (.start, answerStart)
  | .stop => some (.stop, answerStop)
  | .retrain => some (.retrain, answerRetrain)
  | .channelOpenLine => some (.channelOpenLine, answerOpenLine)
  | .channelOpenIntercom => some (.channelOpenIntercom, answerOpenIntercom)
  | .channelClose => some (.channelClose, answerClose)
  | .ring => some (.ring, answerRing)
  | .ringStop => some (.ringStop, answerRingStop)
  | .portControl => some (.portControl, answerPortControl)
  | .hostSleep => some (.hostSleep, answerHostSleep)
  | .setPartition => some (.setPartition, answerSetPartition)
  | .resetPart => some (.resetPart, answerResetPart)
  | .resetLine => some (.resetLine, answerResetLine)
  | .resetTraffic => some (.resetTraffic, answerResetTraffic)
  | .resetVoice => some (.resetVoice, answerResetVoice)
  | .resetMonitor => some (.resetMonitor, answerResetMonitor)
  | .badKindRequest => some (.badKind, answerBadKind)
  | _ => none

/-- The due steps that a command names, in the order in which it takes them. -/
def stepsOf : Instr → Option (List Due)
  | .secondTick => some [.secondTick]
  | .intervalClose => some [.intervalClose]
  | .guardCountdown d => some [.guard d]
  | .offerDeadline => some [.offerDeadline]
  | .offerSwitch => some [.offerSwitch]
  | .farChangeSwitch => some [.farChangeSwitch]
  | .cutbackSwitch => some [.cutbackSwitch]
  | .trainingTimeout => some [.trainingTimeout]
  | .holdoffExpiry => some [.holdoffExpiry]
  | .silenceExpiry => some [.silenceExpiry]
  | .hookAcceptance p => some [.breakPulses p, .hangUp p, .interdigit p, .hook p]
  | .breakPulsesComplete p => some [.breakPulses p]
  | .hangUp p => some [.hangUp p]
  | .interdigitExpiry p => some [.interdigit p]
  | .ringPhaseEnd p => some [.ringPhase p]
  | .pinAcceptance pin => some [.pin pin]
  | .frameBoundary p => some [.frameBoundary p]
  | .pacingExpiry => some [.pacing]
  | .partReset => some [.partReset]
  | _ => none

/-- The arrivals of which a command takes the first that is due. -/
def pickOf : Instr → Option (Due → Bool)
  | .downstreamFrame => some Due.isData
  | .voiceArrival => some Due.isVoice
  | .loadOffer => some (Due.isMessage .loadOffer)
  | .loadTake => some (Due.isMessage .loadTake)
  | .loadDecline => some (Due.isMessage .loadDecline)
  | .cutbackTaken => some (Due.isMessage .cutbackTaken)
  | .inboundCutback => some (Due.isMessage .cutback)
  | .farQuery => some (Due.isMessage .farQuery)
  | _ => none

/-- Due steps taken one after another. -/
def takeAll (ds : List Due) (s : State) : State := ds.foldl (fun t d => takeDue d t) s

theorem drain_eq_takeAll (s : State) : drain s = takeAll s.due s := rfl

/-- Every command has one of five shapes. -/
theorem exec_cases (c : Instr) (s : State) :
    (c = .powerOn ∧ exec c s = .next { State.reset with pending := s.pending }) ∨
    (∃ f, outsideOf c = some f ∧ exec c s = .next (f (settle s))) ∨
    (∃ row h, handlerOf c = some (row, h) ∧ exec c s = .next (runRequest row h (settle s))) ∨
    (∃ ds, stepsOf c = some ds ∧ exec c s = .next (takeAll ds s)) ∨
    (∃ p, pickOf c = some p ∧ exec c s = .next (takeFirst p s)) := by
  cases c
  case powerOn => exact .inl ⟨rfl, rfl⟩
  case msTick | trained | trainFailed | signalLost | frameReport | marginReport | unitPull | receivedUnit | homeFrameArrival
      | homeFrameSent | sampleFrame =>
    exact .inr (.inl ⟨_, rfl, rfl⟩)
  case secondTick | intervalClose | guardCountdown | offerDeadline | offerSwitch | farChangeSwitch | cutbackSwitch
      | trainingTimeout | holdoffExpiry | silenceExpiry | hookAcceptance | breakPulsesComplete | hangUp | interdigitExpiry
      | ringPhaseEnd | pinAcceptance | frameBoundary | pacingExpiry | partReset =>
    exact .inr (.inr (.inr (.inl ⟨_, rfl, rfl⟩)))
  case downstreamFrame | voiceArrival | loadOffer | loadTake | loadDecline | cutbackTaken | inboundCutback | farQuery =>
    exact .inr (.inr (.inr (.inr ⟨_, rfl, rfl⟩)))
  all_goals exact .inr (.inr (.inl ⟨_, _, rfl, rfl⟩))

/-! ## What taking due steps leaves due -/

theorem enterMode_due_sublist (m : Mode) (s : State) : (enterMode m s).due.Sublist s.due := by
  have hfeed : ∀ on t, (setPort2Feed on t).due.Sublist t.due := by
    intro on t
    unfold setPort2Feed
    repeat' split
    all_goals simp [loseFeed]
    split <;> simp
  unfold enterMode
  dsimp only
  split <;> simpa using (hfeed _ _).trans (by simp)

theorem workOutMode_cases (s : State) :
    workOutMode s = s ∨ ∃ m, m ≠ s.supply.mode ∧ workOutMode s = enterMode m s := by
  unfold workOutMode
  split
  · split
    · exact .inl rfl
    · exact .inr ⟨_, ‹_›, rfl⟩
  · exact .inl rfl

theorem workOutMode_due_sublist (s : State) : (workOutMode s).due.Sublist s.due := by
  rcases workOutMode_cases s with h | ⟨m, -, h⟩ <;> rw [h]
  exact enterMode_due_sublist m s

theorem acceptPin_due_sublist (p : PinId) (s : State) : (acceptPin p s).due.Sublist s.due := by
  unfold acceptPin
  dsimp only
  split
  · exact List.Sublist.refl _
  · exact workOutMode_due_sublist _

/-- A due step adds nothing to what is due but the close of a full interval record, which a 1 s tick adds. -/
theorem runDue_due (d : Due) (s : State) :
    (runDue d s).due.Sublist s.due ∨
      (d = .secondTick ∧ (runDue d s).due = s.due ++ [.intervalClose]) := by
  cases d
  case pin p => exact .inl (acceptPin_due_sublist p s)
  case secondTick =>
    have hdue : (runDue .secondTick s).due = s.due ∨ (runDue .secondTick s).due = s.due ++ [.intervalClose] := by
      simp only [runDue, secondStep, dueInterval]
      split <;> simp
    exact hdue.imp (fun h => by rw [h]) (fun h => ⟨rfl, h⟩)
  case partReset => exact .inl (List.nil_sublist _)
  all_goals exact .inl (by simp [runDue])

/-- Taking a step leaves one less of it due, and no more of any other but the close of the interval. -/
theorem takeDue_count {d e : Due} (s : State) (h : d ≠ .secondTick ∨ e ≠ .intervalClose) :
    (takeDue d s).due.count e ≤ s.due.count e - (if d = e then 1 else 0) := by
  by_cases hd : d ∈ s.due
  · have herase : (s.due.erase d).count e = s.due.count e - (if d = e then 1 else 0) := by
      simp [List.count_erase]
    rw [takeDue_of_mem hd, ← herase]
    rcases runDue_due d (s.setDue (s.due.erase d)) with hsub | ⟨hsec, happ⟩
    · exact hsub.count_le e
    · have he : e ≠ .intervalClose := h.resolve_left (not_not_intro hsec)
      rw [happ]
      simp [List.count_append, he.symm]
  · rw [takeDue_of_not_mem hd]
    split
    · subst_vars
      simp [List.count_eq_zero_of_not_mem hd]
    · rfl

/-- Taking all that `ds` lists of a kind leaves none of it due, when `ds` lists as many as are due. -/
theorem takeAll_count {ds : List Due} {e : Due} (s : State) (h : ∀ d ∈ ds, d ≠ .secondTick ∨ e ≠ .intervalClose) :
    (takeAll ds s).due.count e ≤ s.due.count e - ds.count e := by
  induction ds generalizing s with
  | nil => simp [takeAll]
  | cons d ds ih =>
    have hhead := takeDue_count (e := e) s (h d (by simp))
    have htail := ih (takeDue d s) fun x hx => h x (by simp [hx])
    rw [List.count_cons]
    simp only [takeAll, List.foldl_cons, beq_iff_eq] at htail ⊢
    omega

theorem drain_due {s : State} {e : Due} (h : e ∈ (drain s).due) : e = .intervalClose := by
  by_contra he
  have hcount := takeAll_count (ds := s.due) (e := e) s fun _ _ => .inr he
  have hpos := List.count_pos_iff.mpr h
  rw [drain_eq_takeAll] at hpos
  omega

/-- Settling leaves nothing due: one round leaves closes of the interval alone, and these add nothing. -/
theorem settle_due (s : State) : (settle s).due = [] := by
  refine List.eq_nil_iff_forall_not_mem.mpr fun e he => ?_
  have hclose : ∀ d ∈ (drain s).due, d ≠ .secondTick ∨ e ≠ .intervalClose := fun d hd => .inl (by simp [drain_due hd])
  have hcount := takeAll_count (drain s) hclose
  have hpos := List.count_pos_iff.mpr he
  rw [settle, drain_eq_takeAll (drain s)] at hpos
  omega

/-! ## What a command keeps -/

/-- What the parts of a command keep, from a state in which every step due is `allowed`. -/
structure KeptBy (allowed : Due → Prop) (c : Instr) (P : State → Prop) : Prop where
  close : allowed .intervalClose
  take : ∀ d s, allowed d → d ∈ s.due → P s → P (runDue d (s.setDue (s.due.erase d)))
  outside : ∀ f, outsideOf c = some f → ∀ s, P s → P (f s)
  handler : ∀ row h, handlerOf c = some (row, h) → ∀ r s, P s → P (h r s).state
  pop : ∀ s r q, s.agent.queue = r :: q → P s → P (s.modAgent fun a => { a with queue := q })
  reply : ∀ f s, P s → P (offerReply f s)

section
variable {allowed : Due → Prop} {c : Instr} {P : State → Prop}

theorem KeptBy.takeDue (k : KeptBy allowed c P) (d : Due) {s : State} (hs : P s ∧ ∀ e ∈ s.due, allowed e) :
    P (takeDue d s) ∧ ∀ e ∈ (takeDue d s).due, allowed e := by
  obtain ⟨hP, hdue⟩ := hs
  by_cases hd : d ∈ s.due
  · rw [takeDue_of_mem hd]
    refine ⟨k.take _ _ (hdue d hd) hd hP, fun e he => ?_⟩
    have hrest : ∀ e ∈ s.due.erase d, allowed e := fun e he => hdue e (List.mem_of_mem_erase he)
    rcases runDue_due d (s.setDue (s.due.erase d)) with hsub | ⟨-, happ⟩
    · exact hrest e (hsub.subset he)
    · rw [happ] at he
      rcases List.mem_append.mp he with he | he
      · exact hrest e he
      · exact List.mem_singleton.mp he ▸ k.close
  · rw [takeDue_of_not_mem hd]
    exact ⟨hP, hdue⟩

theorem KeptBy.takeAll (k : KeptBy allowed c P) (ds : List Due) {s : State} (hs : P s ∧ ∀ e ∈ s.due, allowed e) :
    P (takeAll ds s) ∧ ∀ e ∈ (takeAll ds s).due, allowed e := by
  induction ds generalizing s with
  | nil => exact hs
  | cons d ds ih => exact ih (k.takeDue d hs)

theorem KeptBy.settle (k : KeptBy allowed c P) {s : State} (hs : P s ∧ ∀ e ∈ s.due, allowed e) : P (settle s) :=
  (k.takeAll _ (k.takeAll _ hs)).1

theorem KeptBy.runRequest (k : KeptBy allowed c P) {row : RequestRow} {h : Request → State → Answer}
    (hc : handlerOf c = some (row, h)) {s : State} (hs : P s) : P (runRequest row h s) := by
  unfold Machine.runRequest
  split
  · exact hs
  · split
    · exact k.reply _ _ (k.handler row h hc _ _ (k.pop _ _ _ ‹_› hs))
    · exact hs

/-- What its parts keep, a command other than power-on keeps. -/
theorem KeptBy.exec (k : KeptBy allowed c P) {s t : State} (hon : c ≠ .powerOn) (hdue : ∀ d ∈ s.due, allowed d)
    (hs : P s) (h : Machine.exec c s = .next t) : P t := by
  rcases exec_cases c s with ⟨rfl, -⟩ | ⟨f, hf, he⟩ | ⟨row, f, hf, he⟩ | ⟨ds, -, he⟩ | ⟨p, -, he⟩
  · exact absurd rfl hon
  all_goals
    rw [he] at h
    cases h
  · exact k.outside f hf _ (k.settle ⟨hs, hdue⟩)
  · exact k.runRequest hf (k.settle ⟨hs, hdue⟩)
  · exact (k.takeAll ds ⟨hs, hdue⟩).1
  · unfold takeFirst
    split
    · exact (k.takeDue _ ⟨hs, hdue⟩).1
    · exact hs

end

end Sys2Proof.Machine
end

section
/-! PROOFS. What the execution of a request can do (chapter 12): one effect per row, and what it asks of the state. -/

namespace Sys2Proof.Machine

/-! ## Writes -/

@[simp] theorem length_cutEntries (size count : Nat) (b : Bytes) : (cutEntries size count b).length = count := by
  induction count generalizing b with
  | zero => rfl
  | succ n ih => simp [cutEntries, ih]

theorem length_readAll {α : Type} {f : Bytes → Option α} {l : List Bytes} {es : List α} (h : readAll f l = some es) :
    es.length = l.length := by
  induction l generalizing es with
  | nil => simp_all [readAll]
  | cons b rest ih =>
    unfold readAll at h
    split at h
    · cases h
      simp [ih ‹_›]
    · cases h

theorem readAll_mem {α : Type} {f : Bytes → Option α} {l : List Bytes} {es : List α} (h : readAll f l = some es) :
    ∀ x ∈ es, ∃ b ∈ l, f b = some x := by
  induction l generalizing es with
  | nil => simp_all [readAll]
  | cons b rest ih =>
    unfold readAll at h
    split at h
    · cases h
      rintro x hx
      rcases List.mem_cons.mp hx with rfl | hx
      · exact ⟨b, by simp, ‹_›⟩
      · obtain ⟨c, hc, hfc⟩ := ih ‹_› x hx
        exact ⟨c, by simp [hc], hfc⟩
    · cases h

theorem length_replaceRun {α : Type} {l new : List α} {start : Nat} (h : start + new.length ≤ l.length) :
    (replaceRun l start new).length = l.length := by
  simp only [replaceRun, List.length_append, List.length_take, List.length_drop]
  omega

theorem mem_replaceRun {α : Type} {l new : List α} {start : Nat} {x : α} (h : x ∈ replaceRun l start new) :
    x ∈ l ∨ x ∈ new := by
  simp only [replaceRun, List.mem_append] at h
  rcases h with (h | h) | h
  · exact .inl (List.mem_of_mem_take h)
  · exact .inr h
  · exact .inl (List.mem_of_mem_drop h)

/-- R163: what a run written to a table makes of the state. -/
inductive Written (s : State) : State → Prop
  | classes (start : Nat) (es : List ClassEntry) (fits : start + es.length ≤ s.cls.table.length) :
    Written s (s.modCls fun c => { c with table := replaceRun c.table start es })
  | thresh (start : Nat) (es : List Nat) : Written s (s.modLoad fun l => { l with thresh := replaceRun l.thresh start es })
  | cadence (start : Nat) (es : List (List Segment)) (fits : start + es.length ≤ s.phone.cadence.length)
      (four : ∀ e ∈ es, e.length = 4) (free : cadenceBusy s start es.length = false) :
    Written s (s.setPhone { s.phone with cadence := replaceRun s.phone.cadence start es })
  | params (start count : Nat) (entries : List Bytes) (all : entries.length = count) (fits : start + count ≤ 44) :
    Written s (writeParams start count entries s)
  | watches (start : Nat) (ws : List Watch) :
    Written s (s.modMon fun m => { m with watches := writeWatches m.watches start ws })

theorem writeEntries_written {id start count : Nat} {entries : List Bytes} {s t : State} (hlen : entries.length = count)
    (hfits : start + count ≤ tableSize s id) (hfree : writeBusy s id start count = false)
    (h : writeEntries id start count entries s = some t) : Written s t := by
  unfold writeEntries at h
  split at h
  · obtain ⟨es, hes, rfl⟩ := Option.map_eq_some_iff.mp h
    exact .classes start es (by rw [length_readAll hes, hlen]; exact hfits)
  · dsimp only at h
    split at h <;> cases h
    exact .thresh start _
  · dsimp only at h
    split at h <;> cases h
    refine .cadence start _ (by simpa [hlen, tableSize] using hfits) ?_ (by simpa [writeBusy, hlen] using hfree)
    simp only [List.mem_map]
    rintro _ ⟨b, -, rfl⟩
    simp [readCadence]
  · cases h
    exact .params start count entries hlen hfits
  · obtain ⟨ws, -, rfl⟩ := Option.map_eq_some_iff.mp h
    exact .watches start ws
  · cases h

theorem writeRun_cases (id start count : Nat) (bytes : Bytes) (s : State) :
    (writeRun id start count bytes s).state = setCursor none s ∨
      ∃ t c, Written s t ∧ (writeRun id start count bytes s).state = setCursor (some c) t := by
  unfold writeRun
  split
  · exact .inl rfl
  split
  · exact .inl rfl
  split
  · exact .inl rfl
  rename_i hfits hfree
  split
  · exact .inl rfl
  · exact .inr ⟨_, _, writeEntries_written (length_cutEntries ..) (Nat.le_of_not_lt hfits) (Bool.not_eq_true _ ▸ hfree) ‹_›,
      rfl⟩

/-! ## One effect per row -/

/-- What the execution of a request by a command can make of the state. -/
inductive Effect (s : State) : Instr → State → Prop
  | none (c : Instr) : Effect s c s
  | cursorLost (c : Instr) : Effect s c (setCursor .none s)
  | writeTable (t : State) (x : Cursor) (w : Written s t) : Effect s .writeTable (setCursor (some x) t)
  | writeOn (t : State) (x : Cursor) (w : Written s t) : Effect s .writeOn (setCursor (some x) t)
  | readLog : Effect s .readLog (s.modEvt fun e => { e with log := e.log.drop 8, overwritten := 0 })
  | readEvents : Effect s .readEvents (emptyDigits s)
  | clearEvents (k : KindSet) :
    Effect s .clearEvents (s.modEvt fun e => { e with pending := e.pending.without k, noticeDue := e.noticeDue.without k })
  | start (off : s.line.state = .off) : Effect s .start (enterTraining s)
  | stop : Effect s .stop (stopLine s)
  | retrainRun (run : s.line.state = .run) : Effect s .retrain (retrainFromRun .ordered s)
  | retrainHoldoff (holdoff : s.line.state = .holdoff) : Effect s .retrain (raiseRetrain .ordered (enterTraining s))
  | openLine (p : PortId) (stream target : Nat) (idle : Byte) (stream_le : stream ≤ 15)
      (range : target = s.params.jitterTarget ∨ (1 ≤ target ∧ target ≤ 6)) (free : (s.record p).call = .free)
      (fed : (s.port p).state ≠ .unfed) (other : (s.record (otherPort p)).call.lineStream ≠ some stream) :
    Effect s .channelOpenLine (openLine p stream target idle s)
  | openIntercom (idle : Byte) (free : ∀ p, (s.record p).call = .free) (fed : ∀ p, (s.port p).state ≠ .unfed) :
    Effect s .channelOpenIntercom (openIntercom idle s)
  | close (p : PortId) : Effect s .channelClose (closeRecord p s)
  | ring (p : PortId) (entry repeats : Nat) (onHook : (s.port p).state = .onHook)
      (valid : cadenceValid (s.phone.cadence.getD entry []) = true) : Effect s .ring (beginRing p entry repeats s)
  | ringStop (p : PortId) : Effect s .ringStop (stopRing p s)
  | portControl (p : PortId) (line phone : Bool) :
    Effect s .portControl (s.modPort p fun q => { q with muteToLine := line, muteToPhone := phone })
  | hostSleep (awake : s.evt.pending &&& s.params.wakeMask = 0) :
    Effect s .hostSleep (s.modEvt fun e => { e with asleep := true })
  | setPartition (n : Nat) (n_le : n ≤ 8) : Effect s .setPartition (setPartitionTo n s)
  | resetPart : Effect s .resetPart (s.modAgent fun a => { a with partWait := true, cursor := .none })
  | resetLine : Effect s .resetLine (setCursor .none (resetLineScope s))
  | resetTraffic : Effect s .resetTraffic (setCursor .none (resetTrafficScope s))
  | resetVoice : Effect s .resetVoice (setCursor .none (resetVoiceScope s))
  | resetMonitor : Effect s .resetMonitor (setCursor .none (resetMonitorScope s))

theorem portTaken_eq_false {p : PortId} {s : State} (h : portTaken p s = false) :
    (s.record p).call = .free ∧ (s.port p).state ≠ .unfed := by
  simp only [portTaken, Bool.or_eq_false_iff, Bool.not_eq_false', PhonePort.fed, bne_iff_ne] at h
  obtain ⟨hcall, hfed⟩ := h
  refine ⟨?_, hfed⟩
  cases hc : (s.record p).call <;> simp_all [Call.isOpen]

theorem answerWriteTable_effect (r : Request) (s : State) : Effect s .writeTable (answerWriteTable r s).state := by
  unfold answerWriteTable
  dsimp only
  split
  · exact .none _
  split
  · exact .cursorLost _
  split
  · exact .none _
  · rcases writeRun_cases (byteAt r.body 0) (field16 r.body 1) (field16 r.body 3) (r.body.drop 5) s with h | ⟨t, x, w, h⟩ <;>
      rw [h]
    · exact .cursorLost _
    · exact .writeTable t x w

theorem answerWriteOn_effect (r : Request) (s : State) : Effect s .writeOn (answerWriteOn r s).state := by
  unfold answerWriteOn
  dsimp only
  split
  · exact .none _
  rename_i c _
  split
  · exact .none _
  split
  · exact .none _
  · rcases writeRun_cases c.table c.index (field16 r.body 0) (r.body.drop 2) s with h | ⟨t, x, w, h⟩ <;> rw [h]
    · exact .cursorLost _
    · exact .writeOn t x w

theorem answerReadLog_effect (r : Request) (s : State) : Effect s .readLog (answerReadLog r s).state := by
  unfold answerReadLog
  split
  · exact .readLog
  · exact .none _

theorem answerReadEvents_effect (r : Request) (s : State) : Effect s .readEvents (answerReadEvents r s).state := by
  unfold answerReadEvents
  split
  · exact .readEvents
  · exact .none _

theorem answerClearEvents_effect (r : Request) (s : State) : Effect s .clearEvents (answerClearEvents r s).state := by
  unfold answerClearEvents
  split
  · exact .none _
  split
  · exact .none _
  · exact .clearEvents _

theorem answerStart_effect (r : Request) (s : State) : Effect s .start (answerStart r s).state := by
  unfold answerStart
  split
  · exact .none _
  split
  · exact .none _
  · change Effect s .start (startLine s)
    unfold startLine
    split
    · exact .start ‹_›
    · exact .none _

theorem answerStop_effect (r : Request) (s : State) : Effect s .stop (answerStop r s).state := by
  unfold answerStop
  split
  · exact .none _
  · exact .stop

theorem answerRetrain_effect (r : Request) (s : State) : Effect s .retrain (answerRetrain r s).state := by
  unfold answerRetrain
  split
  · exact .none _
  split
  · exact .retrainRun ‹_›
  · exact .retrainHoldoff ‹_›
  · exact .none _
  · exact .none _

theorem givenTarget_range {b : Bytes} {s : State} (h : targetAllowed b = true) :
    givenTarget b s = s.params.jitterTarget ∨ (1 ≤ givenTarget b s ∧ givenTarget b s ≤ 6) := by
  simp only [targetAllowed, Bool.or_eq_true, beq_iff_eq, Bool.and_eq_true, decide_eq_true_eq] at h
  unfold givenTarget
  split
  · exact .inl rfl
  · exact .inr (h.resolve_left ‹_›)

theorem answerOpenLine_effect (r : Request) (s : State) : Effect s .channelOpenLine (answerOpenLine r s).state := by
  unfold answerOpenLine
  dsimp only
  split
  · exact .none _
  split
  · exact .none _
  split
  · exact .none _
  rename_i p _
  split
  · exact .none _
  rename_i hvalue
  split
  · exact .none _
  rename_i htaken
  split
  · exact .none _
  split
  · simp only [Bool.or_eq_true, decide_eq_true_eq, Bool.not_eq_true', not_or, Bool.not_eq_false] at hvalue
    obtain ⟨hstream, htarget⟩ := hvalue
    obtain ⟨hfree, hfed⟩ := portTaken_eq_false (by simpa using htaken)
    exact .openLine p _ _ _ (by omega) (givenTarget_range htarget) hfree hfed ‹_›
  · exact .none _

theorem answerOpenIntercom_effect (r : Request) (s : State) :
    Effect s .channelOpenIntercom (answerOpenIntercom r s).state := by
  unfold answerOpenIntercom
  split
  · exact .none _
  split
  · exact .none _
  · rename_i h
    simp only [Bool.or_eq_true, not_or, Bool.not_eq_true] at h
    obtain ⟨h1, h2⟩ := h
    have hready : ∀ p, (s.record p).call = .free ∧ (s.port p).state ≠ .unfed := by
      rintro (_ | _)
      · exact portTaken_eq_false h1
      · exact portTaken_eq_false h2
    exact .openIntercom _ (fun p => (hready p).1) fun p => (hready p).2

theorem answerClose_effect (r : Request) (s : State) : Effect s .channelClose (answerClose r s).state := by
  unfold answerClose
  split
  · exact .none _
  split
  · exact .none _
  · exact .close _

theorem answerRing_effect (r : Request) (s : State) : Effect s .ring (answerRing r s).state := by
  unfold answerRing
  dsimp only
  split
  · exact .none _
  split
  · exact .none _
  split
  · exact .none _
  split
  · exact .none _
  split
  · exact .ring _ _ _ (not_not.mp ‹_›) ‹_›
  · exact .none _

theorem answerRingStop_effect (r : Request) (s : State) : Effect s .ringStop (answerRingStop r s).state := by
  unfold answerRingStop
  split
  · exact .none _
  split
  · exact .none _
  · exact .ringStop _

theorem answerPortControl_effect (r : Request) (s : State) : Effect s .portControl (answerPortControl r s).state := by
  unfold answerPortControl
  dsimp only
  split
  · exact .none _
  split
  · exact .none _
  · exact .portControl ..

theorem answerHostSleep_effect (r : Request) (s : State) : Effect s .hostSleep (answerHostSleep r s).state := by
  unfold answerHostSleep
  split
  · exact .none _
  split
  · exact .none _
  · exact .hostSleep (not_not.mp ‹_›)

theorem answerSetPartition_effect (r : Request) (s : State) : Effect s .setPartition (answerSetPartition r s).state := by
  unfold answerSetPartition
  dsimp only
  split
  · exact .none _
  split
  · exact .none _
  split
  · exact .none _
  · exact .setPartition _ (by omega)

theorem answerResetPart_effect (r : Request) (s : State) : Effect s .resetPart (answerResetPart r s).state := by
  unfold answerResetPart
  split
  · exact .none _
  split
  · exact .none _
  · exact .resetPart

theorem scopeReset_state (f : State → State) (r : Request) (s : State) :
    (scopeReset f r s).state = setCursor none (f s) ∨ (scopeReset f r s).state = s := by
  unfold scopeReset
  split
  · exact .inl rfl
  · exact .inr rfl

/-- The execution of a request has the effect of its row, or none but on the cursor. -/
theorem handler_effect {c : Instr} {row : RequestRow} {h : Request → State → Answer} (hc : handlerOf c = some (row, h))
    (r : Request) (s : State) : Effect s c (h r s).state := by
  have scope : ∀ {f : State → State}, Effect s c (setCursor none (f s)) → Effect s c (scopeReset f r s).state := by
    intro f hf
    rcases scopeReset_state f r s with h | h <;> rw [h]
    · exact hf
    · exact .none _
  cases c <;> cases hc
  case readTable => rw [answerReadTable_state]; exact .none _
  case readStatus => rw [answerReadStatus_state]; exact .none _
  case readCounters => rw [answerReadCounters_state]; exact .none _
  case readHistory => rw [answerReadHistory_state]; exact .none _
  case badKindRequest => exact .none _
  case writeTable => exact answerWriteTable_effect r s
  case writeOn => exact answerWriteOn_effect r s
  case readLog => exact answerReadLog_effect r s
  case readEvents => exact answerReadEvents_effect r s
  case clearEvents => exact answerClearEvents_effect r s
  case start => exact answerStart_effect r s
  case stop => exact answerStop_effect r s
  case retrain => exact answerRetrain_effect r s
  case channelOpenLine => exact answerOpenLine_effect r s
  case channelOpenIntercom => exact answerOpenIntercom_effect r s
  case channelClose => exact answerClose_effect r s
  case ring => exact answerRing_effect r s
  case ringStop => exact answerRingStop_effect r s
  case portControl => exact answerPortControl_effect r s
  case hostSleep => exact answerHostSleep_effect r s
  case setPartition => exact answerSetPartition_effect r s
  case resetPart => exact answerResetPart_effect r s
  case resetLine => exact scope .resetLine
  case resetTraffic => exact scope .resetTraffic
  case resetVoice => exact scope .resetVoice
  case resetMonitor => exact scope .resetMonitor

/-! ## Invariants of every step -/

/-- What an invariant asks of the parts of a step. -/
structure Preserved (P : State → Prop) : Prop where
  queue : ∀ s q, P s → P { s with pending := q }
  powerOn : ∀ q, P { State.reset with pending := q }
  take : ∀ d s, d ∈ s.due → P s → P (runDue d (s.setDue (s.due.erase d)))
  outside : ∀ c f s, outsideOf c = some f → P s → P (f s)
  effect : ∀ c s t, Effect s c t → P s → P t
  pop : ∀ s r q, s.agent.queue = r :: q → P s → P (s.modAgent fun a => { a with queue := q })
  reply : ∀ f s, P s → P (offerReply f s)

theorem Preserved.kept {P : State → Prop} (k : Preserved P) (c : Instr) : KeptBy (fun _ => True) c P where
  close := trivial
  take d s _ hd h := k.take d s hd h
  outside f hf s h := k.outside c f s hf h
  handler _ _ hf r s h := k.effect c s _ (handler_effect hf r s) h
  pop := k.pop
  reply := k.reply

theorem Preserved.exec {P : State → Prop} (k : Preserved P) {c : Instr} {s t : State} (hs : P s)
    (h : Machine.exec c s = .next t) : P t := by
  by_cases hon : c = .powerOn
  · subst hon
    cases h
    exact k.powerOn _
  · exact (k.kept c).exec hon (fun _ _ => trivial) hs h

/-- An invariant that every part of a step keeps, every step keeps. -/
theorem Preserved.step {P : State → Prop} (k : Preserved P) {s t : State} (hs : P s) (h : Machine.step s = .next t) :
    P t := by
  unfold Machine.step at h
  split at h
  · cases h
    exact hs
  · exact k.exec (k.queue s _ hs) h

end Sys2Proof.Machine
end

section
/-! PROOFS. The queue of commands, power-on, and what the state after reset meets (log entries 1, 2, 6). -/

namespace Sys2Proof.Machine

/-- Settles O1: by the definition of a step. -/
theorem stepRunsTheFrontCommand : Obligations.StepRunsTheFrontCommand :=
  ⟨fun c rest s h => by rw [step, h], fun s h => by rw [step, h]⟩

/-! ## Every command completes -/

@[simp] theorem runDue_pending (d : Due) (s : State) : (runDue d s).pending = s.pending := by
  cases d
  case partReset => rfl
  all_goals simp [runDue]

theorem Written.pending {s t : State} (w : Written s t) : t.pending = s.pending := by cases w <;> simp

theorem Effect.pending {c : Instr} {s t : State} (h : Effect s c t) : t.pending = s.pending := by
  cases h
  case writeTable w => simpa using w.pending
  case writeOn w => simpa using w.pending
  all_goals simp

theorem outsideOf_pending {c : Instr} {f : State → State} (h : outsideOf c = some f) (s : State) :
    (f s).pending = s.pending := by
  cases c <;> cases h <;> simp

/-- No part of a command touches the queue of commands. -/
theorem keepsPending (c : Instr) (q : List Instr) : KeptBy (fun _ => True) c (fun s => s.pending = q) where
  close := trivial
  take d _ _ _ h := (runDue_pending d _).trans h
  outside _ hf s h := (outsideOf_pending hf s).trans h
  handler _ _ hf r s h := (handler_effect hf r s).pending.trans h
  pop _ _ _ _ h := h
  reply f s h := by simpa using h

theorem exec_next (c : Instr) (s : State) : ∃ t, exec c s = .next t := by
  rcases exec_cases c s with ⟨-, h⟩ | ⟨_, -, h⟩ | ⟨_, _, -, h⟩ | ⟨_, -, h⟩ | ⟨_, -, h⟩ <;> exact ⟨_, h⟩

/-- Settles O2: every command has one of the five shapes of `exec_cases`, no part of which touches the queue, and settling
takes every step that is due (`settle_due`). -/
theorem everyCommandCompletes : Obligations.EveryCommandCompletes := by
  refine ⟨fun c s => ?completes, settle_due, fun s => settle_of_due_nil⟩
  obtain ⟨t, ht⟩ := exec_next c s
  refine ⟨t, ht, ?_⟩
  by_cases hon : c = .powerOn
  · subst hon
    cases ht
    rfl
  · exact (keepsPending c s.pending).exec hon (fun _ _ => trivial) rfl ht

/-! ## After power-on -/

/-- Settles O3: the fields of `State.reset`. -/
theorem powerOnState : Obligations.PowerOnState := by
  intro s
  refine ⟨{ State.reset with pending := s.pending }, rfl, ?_⟩
  refine ⟨rfl, rfl, rfl, rfl, rfl, rfl, rfl, rfl, rfl, rfl, rfl, rfl, rfl, rfl, rfl, rfl, rfl, rfl, rfl, rfl, rfl,
    rfl, rfl, rfl, rfl, rfl, rfl, rfl, rfl, ?ports, ?records, rfl, rfl, rfl, rfl, rfl, rfl, rfl, rfl, rfl, rfl, rfl,
    rfl, rfl, rfl, rfl, rfl, rfl, rfl, rfl, rfl, rfl⟩
  case ports => rintro (_ | _) <;> exact ⟨rfl, rfl, rfl, rfl, rfl, rfl⟩
  case records => rintro (_ | _) <;> exact ⟨rfl, rfl⟩

/-! ## The state after reset -/

theorem reset_depthsOk : DepthsOk State.reset := by
  constructor
  case digits => rintro (_ | _) <;> decide
  all_goals decide

theorem reset_storeOk : StoreOk State.reset := ⟨by decide, by decide, by decide, by decide, by decide⟩

theorem tableOk_replicate (n : Nat) : TableOk n (List.replicate n 0) :=
  ⟨List.length_replicate .., fun b hb => by simp [List.eq_of_mem_replicate hb]⟩

theorem reset_loadsOk : LoadsOk State.reset := ⟨tableOk_replicate 64, tableOk_replicate 32, nofun, nofun⟩

theorem reset_rateOk : RateOk State.reset := by unfold RateOk; decide

theorem reset_queuesOk : QueuesOk State.reset where
  limit := by rintro (_ | _ | _ | _) <;> decide
  pool := by decide
  shed := by rintro (_ | _ | _ | _) _ <;> rfl
  level := by decide

theorem reset_queue_empty (i : Ix4) : State.reset.sch.queues.get i = [] := by cases i <;> rfl

theorem reset_progressOk : ProgressOk State.reset where
  started i f hf := by simp [reset_queue_empty] at hf
  behind i f rest h := by simp [reset_queue_empty] at h
  head := nofun

theorem reset_voiceQueueOk : VoiceQueueOk State.reset := ⟨nofun, by rintro (_ | _) <;> decide, nofun⟩

theorem reset_record (p : PortId) : State.reset.record p = ChannelRecord.reset := by cases p <;> rfl

theorem reset_callsOk : CallsOk State.reset where
  linked p n h := by simp [reset_record, ChannelRecord.reset] at h
  distinct := nofun
  stream p m h := by simp [reset_record, ChannelRecord.reset, Call.lineStream] at h

theorem reset_not_line (p : PortId) (c : LineCall) : (State.reset.record p).call ≠ .line c := by
  simp [reset_record, ChannelRecord.reset]

theorem reset_buffersOk : BuffersOk State.reset where
  eight p c h := absurd h (reset_not_line p c)
  distinct p c h := absurd h (reset_not_line p c)
  window p c _ h := absurd h (reset_not_line p c)
  empty p c h := absurd h (reset_not_line p c)
  first p c _ h := absurd h (reset_not_line p c)
  target p c h := absurd h (reset_not_line p c)

theorem reset_portsOk : PortsOk State.reset :=
  ⟨by decide, by decide, by rintro (_ | _) <;> decide, by rintro (_ | _) <;> decide⟩

theorem reset_outsideRunOk : OutsideRunOk State.reset where
  own _ := rfl
  tx _ := rfl
  guards _ := by rintro (_ | _) <;> rfl
  contexts _ := ⟨rfl, rfl, fun _ hc => List.eq_of_mem_replicate hc⟩
  queues _ := ⟨rfl, rfl, rfl⟩

theorem reset_paramsOk : ParamsOk State.reset.params := by
  constructor
  case supplyCap | loadCeiling | shed | port2Feed => rintro (_ | _ | _) <;> decide
  case qLimit => rintro (_ | _ | _ | _) <;> decide
  case qWeight => rintro (_ | _ | _) <;> decide
  all_goals decide

/-- Settles O4: invariant by invariant. -/
theorem resetMeetsTheInvariants : Obligations.ResetMeetsTheInvariants :=
  ⟨reset_depthsOk, reset_storeOk, reset_loadsOk, reset_rateOk, nofun, reset_queuesOk, reset_progressOk,
    reset_voiceQueueOk, reset_callsOk, reset_buffersOk, reset_portsOk, by unfold ResidencyOk; decide, ⟨nofun, nofun, by decide⟩,
    ⟨by decide, by decide, by decide⟩, reset_outsideRunOk, by rintro (_ | _) <;> rfl, nofun, reset_paramsOk⟩

end Sys2Proof.Machine
end

section
/-! PROOFS. What can happen to the line: the operations that touch the line port, the tables and changes of the loading engine,
the guard schedules, the rate record, the supply mode or the parameters, and the one induction over them. -/

namespace Sys2Proof.Machine

/-! ## The schedules under the tracker's work -/

@[simp] theorem missTest_sched (c : Word32) (s : State) : (missTest c s).track.sched = s.track.sched := by
  simp only [missTest]
  repeat' split
  all_goals simp

@[simp] theorem trackBurst_sched (b : Burst) (s : State) : (trackBurst b s).track.sched = s.track.sched := by
  simp only [trackBurst]
  repeat' split
  all_goals simp

@[simp] theorem takeBurst_sched (s : State) (b : Burst) : (takeBurst s b).track.sched = s.track.sched := by
  simp only [takeBurst]
  repeat' split
  all_goals simp

@[simp] theorem trackReport_sched (bs : List ReportedBurst) (s : State) :
    (trackReport bs s).track.sched = s.track.sched := by
  simp only [trackReport, missTest_sched]
  exact foldl_keep (fun t : State => t.track.sched) _ (fun t b => takeBurst_sched t b) _ s

@[simp] theorem decideProtection_sched (s : State) : (decideProtection s).track.sched = s.track.sched := rfl

/-! ## The line's own queues under the work on the data queues -/

/-- VQ, MQ and the send slot are empty. -/
def Scheduler.lineQueuesEmpty (x : Scheduler) : Prop := x.vq = [] ∧ x.mq = [] ∧ x.slot = none

/-- The voice queue, MQ, the slot and the credit are in `t` as in `s`. -/
structure SameLineQueues (s t : State) : Prop where
  vq : t.sch.vq = s.sch.vq
  mq : t.sch.mq = s.sch.mq
  slot : t.sch.slot = s.sch.slot
  credit : t.sch.credit = s.sch.credit

theorem SameLineQueues.refl (s : State) : SameLineQueues s s := ⟨rfl, rfl, rfl, rfl⟩

theorem SameLineQueues.of_sch {s t : State} (h : t.sch = s.sch) : SameLineQueues s t := by constructor <;> rw [h]

theorem SameLineQueues.trans {s t u : State} (h : SameLineQueues s t) (k : SameLineQueues t u) : SameLineQueues s u :=
  ⟨k.vq.trans h.vq, k.mq.trans h.mq, k.slot.trans h.slot, k.credit.trans h.credit⟩

theorem SameLineQueues.empty {s t : State} (h : SameLineQueues s t) (hs : s.sch.lineQueuesEmpty) :
    t.sch.lineQueuesEmpty := by
  obtain ⟨hvq, hmq, hslot⟩ := hs
  exact ⟨h.vq.trans hvq, h.mq.trans hmq, h.slot.trans hslot⟩

theorem admitFrame_lineQueues (i : Ix4) (f : Bytes) (s : State) : SameLineQueues s (admitFrame i f s) := by
  unfold admitFrame
  dsimp only
  repeat' split
  all_goals constructor <;> simp

theorem applyLimit_lineQueues (i : Ix4) (s : State) : SameLineQueues s (applyLimit i s) := by
  constructor <;> simp [applyLimit]

theorem dropStale_lineQueues (i : Ix4) (s : State) : SameLineQueues s (dropStale i s) := by
  unfold dropStale
  split <;> constructor <;> simp

theorem flushShed_lineQueues (i : Ix4) (s : State) : SameLineQueues s (flushShed i s) := by
  constructor <;> simp [flushShed]

theorem foldl_lineQueues {α : Type} {f : State → α → State} (h : ∀ t a, SameLineQueues t (f t a)) (l : List α)
    (s : State) : SameLineQueues s (l.foldl f s) := by
  induction l generalizing s with
  | nil => exact .refl _
  | cons a l ih => exact (h s a).trans (ih _)

theorem staleSweep_lineQueues (s : State) : SameLineQueues s (staleSweep s) :=
  foldl_lineQueues (fun t i => dropStale_lineQueues i t) _ s

theorem setShedLevel_lineQueues (level : Nat) (s : State) : SameLineQueues s (setShedLevel level s) := by
  unfold setShedLevel
  dsimp only
  refine .trans (t := s.modSch fun x => { x with shedLevel := level }) (by constructor <;> rfl)
    (foldl_lineQueues (fun t i => ?_) _ _)
  split
  · exact flushShed_lineQueues i t
  · exact .refl _

theorem tellScheduler_lineQueues (wrote : Nat → Bool) (s : State) : SameLineQueues s (tellScheduler wrote s) := by
  unfold tellScheduler
  dsimp only
  refine .trans (t := if wrote (modeIndex 17 s.supply.mode) then setShedLevel (s.params.shed.get s.supply.mode) s else s)
    ?_ (foldl_lineQueues (fun t i => ?_) _ _)
  · split
    · exact setShedLevel_lineQueues _ s
    · exact .refl _
  · split
    · exact applyLimit_lineQueues i t
    · exact .refl _

theorem classifyFrame_lineQueues (f : Bytes) (s : State) : SameLineQueues s (classifyFrame f s) := by
  unfold classifyFrame handUpstream
  dsimp only
  have admitted : ∀ i t, t.sch = s.sch → SameLineQueues s (admitFrame i f t) := fun i t h =>
    (SameLineQueues.of_sch h).trans (admitFrame_lineQueues i f t)
  split
  · exact admitted _ _ rfl
  · exact .of_sch rfl
  · exact admitted _ _ rfl

theorem homeArrival_lineQueues (f : Bytes) (right : Bool) (s : State) : SameLineQueues s (homeArrival f right s) := by
  unfold homeArrival
  split
  · exact .of_sch rfl
  split
  · exact .of_sch rfl
  split
  · exact .of_sch rfl
  split
  · exact .of_sch (by simp)
  · exact classifyFrame_lineQueues f s

theorem mqOffer_outside (m : Message) {s : State} (h : s.line.state ≠ .run) : (mqOffer m s).sch = s.sch := by
  simp [mqOffer, State.inRun, h]

theorem farReport_outside {s : State} (h : s.line.state ≠ .run) : (farReport s).sch = s.sch := by
  unfold farReport
  dsimp only
  repeat' split
  all_goals simp [mqOffer, State.inRun, h]

theorem vqRemove_empty (p : PortId) {s : State} (h : s.sch.lineQueuesEmpty) : (vqRemove p s).sch.lineQueuesEmpty := by
  obtain ⟨hvq, hmq, hslot⟩ := h
  exact ⟨by simp [vqRemove, hvq], hmq, hslot⟩

theorem freeRecord_empty (p : PortId) {s : State} (h : s.sch.lineQueuesEmpty) : (freeRecord p s).sch.lineQueuesEmpty :=
  vqRemove_empty p h

theorem closeRecord_empty (p : PortId) {s : State} (h : s.sch.lineQueuesEmpty) :
    (closeRecord p s).sch.lineQueuesEmpty := by
  unfold closeRecord
  split
  · exact h
  · exact freeRecord_empty p h
  · exact freeRecord_empty _ (freeRecord_empty p h)

theorem setPort2Feed_empty (on : Bool) {s : State} (h : s.sch.lineQueuesEmpty) :
    (setPort2Feed on s).sch.lineQueuesEmpty := by
  have hloss : ∀ t : State, t.sch.lineQueuesEmpty → (feedLossClose t).sch.lineQueuesEmpty := by
    intro t ht
    unfold feedLossClose
    split
    · exact ht
    · simpa using freeRecord_empty .p2 ht
    · simpa using freeRecord_empty .p1 (freeRecord_empty .p2 ht)
  unfold setPort2Feed loseFeed
  dsimp only
  split
  · split
    · exact h
    · exact hloss _ (by split <;> simpa using h)
  · split
    · exact h
    · exact h

theorem resetVoiceScope_empty {s : State} (h : s.sch.lineQueuesEmpty) : (resetVoiceScope s).sch.lineQueuesEmpty :=
  vqRemove_empty .p2 (vqRemove_empty .p1 h)

theorem boundaryStep_outside (p : PortId) {s : State} (h : s.line.state ≠ .run) : (boundaryStep p s).sch = s.sch := by
  have hform : (formFrame p s).sch = s.sch := by
    unfold formFrame
    dsimp only
    split
    · simp [State.inRun, h]
    · rfl
    · rfl
  unfold boundaryStep takePlayout
  dsimp only
  split
  · split <;> split <;> simp [hform]
  · exact hform
  · exact hform

theorem pullUnit_outside {s : State} (h : s.line.state ≠ .run) : (pullUnit s).sch = s.sch := by
  simp [pullUnit, State.inRun, h]

/-! ## The operations that touch the line -/

/-- `t` has the line port, loading engine, guard schedules, rate record, supply mode and parameters of `s`, and the line's own
queues are empty in `t` when they are in `s` and the line is not in RUN. -/
structure SameLine (s t : State) : Prop where
  line : t.line = s.line
  load : t.load = s.load
  sched : t.track.sched = s.track.sched
  rate : t.rate = s.rate
  mode : t.supply.mode = s.supply.mode
  params : t.agent.params = s.agent.params
  empty : s.line.state ≠ .run → s.sch.lineQueuesEmpty → t.sch.lineQueuesEmpty

theorem SameLine.trans {s t u : State} (h : SameLine s t) (k : SameLine t u) : SameLine s u :=
  ⟨k.line.trans h.line, k.load.trans h.load, k.sched.trans h.sched, k.rate.trans h.rate, k.mode.trans h.mode,
    k.params.trans h.params, fun hs he => k.empty (by rwa [h.line]) (h.empty hs he)⟩

theorem SameLine.of_pending (s : State) (q : List Instr) : SameLine s { s with pending := q } :=
  ⟨rfl, rfl, rfl, rfl, rfl, rfl, fun _ he => he⟩

theorem declineOffer_sameLine (n : Byte) (r : DeclineReason) (s : State) : SameLine s (declineOffer n r s) := by
  constructor
  case empty => exact fun h he => by simpa [declineOffer, mqOffer_outside _ h] using he
  all_goals simp

theorem farQueryStep_sameLine (tag : Byte) (body : Bytes) (s : State) : SameLine s (farQueryStep tag body s) := by
  constructor
  case empty => exact fun h he => by simpa [farQueryStep, mqOffer_outside _ h] using he
  all_goals simp

/-- The end of a 1 s tick: the sweep, the far report, and the close of the interval made due. -/
theorem secondEnd_sameLine (s : State) : SameLine s (dueInterval (farReport (staleSweep s))) := by
  constructor
  case empty =>
    intro h he
    have hswept := (staleSweep_lineQueues s).empty he
    simpa [farReport_outside (s := staleSweep s) (by simpa using h)] using hswept
  all_goals simp

theorem boundaryStep_sameLine (p : PortId) (s : State) : SameLine s (boundaryStep p s) := by
  constructor
  case empty => exact fun h he => by rwa [boundaryStep_outside p h]
  all_goals simp

theorem pullUnit_sameLine (s : State) : SameLine s (pullUnit s) := by
  constructor
  case empty => exact fun h he => by rwa [pullUnit_outside h]
  all_goals simp

theorem homeArrival_sameLine (f : Bytes) (right : Bool) (s : State) : SameLine s (homeArrival f right s) := by
  constructor
  case empty => exact fun _ he => (homeArrival_lineQueues f right s).empty he
  all_goals simp

theorem closeRecord_sameLine (p : PortId) (s : State) : SameLine s (closeRecord p s) := by
  constructor
  case empty => exact fun _ he => closeRecord_empty p he
  all_goals simp

theorem resetVoiceScope_sameLine (s : State) : SameLine s (resetVoiceScope s) := by
  constructor
  case empty => exact fun _ he => resetVoiceScope_empty he
  all_goals simp

theorem resetTrafficScope_sameLine (s : State) : SameLine s (resetTrafficScope s) := by
  constructor
  case empty => exact fun _ _ => ⟨rfl, rfl, rfl⟩
  all_goals simp

theorem tickStep_sameLine (a b : Bool) (s : State) : SameLine (s.setLine (tickLine s.line)) (tickStep a b s) := by
  constructor
  case empty => exact fun _ he => he
  all_goals simp [tickStep, tickState, tickSupply]

/-- What an invariant of the line asks of each operation that touches the line; `ok` is what it asks of a TRAINED record. -/
structure LineKept (ok : TrainedRecord → Prop) (P : State → Prop) : Prop where
  quiet : ∀ {s t}, SameLine s t → P s → P t
  ticked : ∀ s, P s → P (s.setLine (tickLine s.line))
  advanced : ∀ x s, P s → P (s.modLine (advanceLine x))
  heard : ∀ s, s.inRun = true → P s → P (s.modLine restartSilence)
  context : ∀ lane c s, s.inRun = true → P s → P (s.modLine fun l => l.setContext lane c)
  retrained : ∀ c s, P s → P (retrainFromRun c s)
  stopped : ∀ s, P s → P (stopLine s)
  training : ∀ s, s.line.state = .off ∨ s.line.state = .holdoff → P s → P (enterTraining s)
  failed : ∀ n s, s.line.state = .training → P s → P (trainingFailed n s)
  trained : ∀ r lv s, ok r → s.line.state = .training → checkTrained r = some lv → P s → P (enterRun r lv s)
  margins : ∀ ratios s, s.inRun = true → P s → P (loadingMargins ratios s)
  confirmed : ∀ o s, s.load.own = .outstanding o → P s → P (s.modLoad fun l => { l with own := .confirmed o })
  ended : ∀ s n, P s → P (s.modLoad fun l => { l with own := .none, holdoff := 4, failures := n })
  offerSwitched : ∀ o s, s.load.own = .confirmed o → P s → P (switchOffer o s)
  accepted : ∀ o s, s.inRun = true → offerFormat o = true → s.load.tx = .none → P s → P (acceptOffer o s)
  farSwitched : ∀ f s, s.load.tx = .farPending f → P s → P (switchFarChange f s)
  cutbackSwitched : ∀ c s, s.load.tx = .cutbackOut c → P s → P (switchCutback c s)
  answered : ∀ c s, s.load.tx = .cutbackOut c → P s →
    P (s.modLoad fun l => { l with tx := .cutbackOut { c with answered := true } })
  countdown : ∀ d s, P s → P (guardCountdown d s)
  mode : ∀ m s, P s → P (enterMode m s)
  thresh : ∀ t s, P s → P (s.modLoad fun l => { l with thresh := t })
  params : ∀ start count entries s, entries.length = count → P s → P (writeParams start count entries s)
  lineReset : ∀ s, P s → P (resetLineScope s)
  partReset : ∀ s, P s → P (resetPartState s)
  powerOn : P State.reset

section
variable {ok : TrainedRecord → Prop} {P : State → Prop}

theorem LineKept.offerFailed (k : LineKept ok P) (n : Nat) (o : OwnOffer) {s : State} (h : P s) : P (offerFailed n o s) := by
  have hended := k.ended s (incUpTo 255 s.load.failures) h
  unfold Machine.offerFailed marginRetrain
  dsimp only
  split
  · exact k.retrained _ _ (k.quiet (by constructor <;> simp) hended)
  · exact k.quiet (by constructor <;> simp) hended

theorem LineKept.messageStep (k : LineKept ok P) (kind : MsgKind) (tag : Byte) (body : Bytes) {s : State} (h : P s) :
    P (messageStep kind tag body s) := by
  have counted : ∀ n, P (countAnswer n s) := fun n => k.quiet (by constructor <;> simp) h
  have malformed : P (countMalformed s) := k.quiet (by constructor <;> simp) h
  have taken : ∀ n, P (takeAnswer n s) := by
    intro n
    unfold takeAnswer
    split
    · split
      · exact k.confirmed _ _ ‹_› h
      · exact counted n
    · split
      · exact h
      · exact counted n
    · exact counted n
  have declined : ∀ n, P (declineAnswer n s) := by
    intro n
    unfold declineAnswer
    split
    · split
      · exact k.offerFailed _ _ h
      · exact counted n
    · split
      · exact k.offerFailed _ _ h
      · exact counted n
    · exact counted n
  have offered : s.inRun = true → P (farOffer body s) := by
    intro hrun
    have hdecline : ∀ n r, P (declineOffer n r s) := fun n r => k.quiet (declineOffer_sameLine n r s) h
    unfold farOffer
    split
    · exact hdecline _ _
    · split
      · exact hdecline _ _
      · rename_i o _ hnone
        simp only [offerRefusal] at hnone
        split at hnone
        · cases hnone
        · rename_i hformat
          split at hnone
          · cases hnone
          · rename_i htx
            exact k.accepted _ _ hrun (by simpa using hformat) (not_not.mp htx) h
  have cutback : ∀ n, P (cutbackAnswer n s) := by
    intro n
    have hcount : ∀ f, P (s.countLine f) := fun f => k.quiet (by constructor <;> simp) h
    unfold cutbackAnswer
    dsimp only
    split
    · split
      · exact k.answered _ _ ‹_› h
      · split <;> exact hcount _
    · split <;> exact hcount _
    · split <;> exact hcount _
  cases kind <;> simp only [Machine.messageStep]
  case loadOffer =>
    split
    · exact offered ‹_›
    · exact h
  case loadTake =>
    split
    · split
      · exact taken _
      · exact malformed
    · exact h
  case loadDecline =>
    split
    · split
      · exact declined _
      · exact malformed
    · exact h
  case cutback =>
    split
    · exact k.quiet (by constructor <;> simp) h
    · exact h
  case cutbackTaken =>
    split
    · split
      · exact cutback _
      · exact malformed
    · exact h
  case faultReport => exact h
  case farQuery => exact k.quiet (farQueryStep_sameLine tag body s) h
  case farAnswer => exact h

theorem LineKept.secondStep (k : LineKept ok P) {s : State} (h : P s) : P (secondStep s) := by
  have hcounted : P (countSecond (takeAvailability (isSes s) (beginSecond s))) :=
    k.quiet (by constructor <;> simp) h
  unfold Machine.secondStep orderRetrain
  dsimp only
  split
  · exact k.quiet (secondEnd_sameLine _) (k.retrained .unavailable _ hcounted)
  · exact k.quiet (secondEnd_sameLine _) hcounted

theorem LineKept.acceptPin (k : LineKept ok P) (p : PinId) {s : State} (h : P s) : P (acceptPin p s) := by
  unfold Machine.acceptPin
  dsimp only
  split
  · exact h
  · rename_i level _
    have hpin : P (s.setSupply (s.supply.setPin p { s.supply.pin p with accepted := some level, stable := 0 })) :=
      k.quiet (by constructor <;> cases p <;> simp [Supply.setPin]) h
    rcases workOutMode_cases (s.setSupply (s.supply.setPin p { s.supply.pin p with accepted := some level, stable := 0 }))
      with heq | ⟨m, -, heq⟩ <;> rw [heq]
    · exact hpin
    · exact k.mode m _ hpin

theorem LineKept.runDue (k : LineKept ok P) (d : Due) {s : State} (h : P s) : P (runDue d s) := by
  cases d <;> simp only [Machine.runDue]
  case trainingTimeout =>
    unfold trainingTimeoutStep
    split
    · exact k.failed _ _ ‹_› (k.quiet (by constructor <;> simp) h)
    · exact h
  case holdoffExpiry =>
    unfold holdoffExpiryStep
    split
    · exact k.quiet (by constructor <;> simp) (k.training s (.inr ‹_›) h)
    · exact h
  case silenceExpiry => exact k.retrained _ _ h
  case pin p => exact k.acceptPin p h
  case secondTick => exact k.secondStep h
  case guard d => exact k.countdown d s h
  case offerDeadline =>
    unfold offerDeadlineStep
    split
    · exact k.offerFailed _ _ h
    · exact h
    · exact h
  case offerSwitch =>
    unfold offerSwitchStep
    split
    · exact k.offerSwitched _ _ ‹_› h
    · exact h
    · exact h
  case farChangeSwitch =>
    unfold farChangeStep
    split
    · exact k.farSwitched _ _ ‹_› h
    · exact h
    · exact h
  case cutbackSwitch =>
    unfold cutbackSwitchStep
    split
    · exact k.cutbackSwitched _ _ ‹_› h
    · exact h
    · exact h
  case arrival a =>
    cases a
    case message kind tag body => exact k.messageStep kind tag body h
    all_goals exact k.quiet (by constructor <;> simp [arrivalStep]) h
  case frameBoundary p => exact k.quiet (boundaryStep_sameLine p s) h
  case partReset => exact k.partReset s h
  all_goals exact k.quiet (by constructor <;> simp) h

theorem LineKept.outside (k : LineKept ok P) {c : Instr} (hok : ∀ r, c = .trained r → ok r) {f : State → State}
    (hc : outsideOf c = some f) {s : State} (h : P s) : P (f s) := by
  cases c <;> cases hc
  case msTick a b => exact k.quiet (tickStep_sameLine a b s) (k.ticked s h)
  case trained r =>
    unfold trainedStep
    split
    · split
      · exact k.trained _ _ _ (hok r rfl) ‹_› ‹_› h
      · exact k.failed _ _ ‹_› (k.quiet (by constructor <;> simp) h)
    · exact h
  case trainFailed reason =>
    unfold trainFailedStep
    split
    · exact k.failed _ _ ‹_› h
    · exact h
  case signalLost =>
    unfold signalLostStep
    split
    · exact k.retrained _ _ (k.quiet (by constructor <;> simp) h)
    · exact h
  case frameReport r =>
    have hadv := k.advanced r.superframe s h
    unfold frameReportStep
    split
    · exact h
    · exact k.quiet (by constructor <;> simp) hadv
    · exact k.quiet (by constructor <;> simp [reportInRun])
        (k.heard _ (by simpa [State.inRun, advanceLine] using ‹s.line.state = .run›) hadv)
    · exact h
  case marginReport ratios =>
    unfold marginReportStep
    split
    · exact k.margins _ _ (by simpa [State.inRun] using ‹s.inRun = true›) (k.quiet (by constructor <;> simp) h)
    · exact h
  case receivedUnit u damaged =>
    unfold receiveUnit
    dsimp only
    split
    · exact h
    rename_i hrun
    split
    · exact k.quiet (by constructor <;> simp) h
    split
    · exact h
    rename_i ch _ lane _
    have hctx := fun c => k.context lane c s (by simpa using hrun) h
    split <;> exact k.quiet (by constructor <;> simp) (hctx (takeUnit lane.limit (s.line.context lane)
      (damaged || decide ((unitHeader u).count = 0) || decide (Config.unitPayload < (unitHeader u).count))
      (unitHeader u).start (unitHeader u).last (unitPayload u)).context)
  case unitPull => exact k.quiet (pullUnit_sameLine s) h
  case homeFrameArrival f right => exact k.quiet (homeArrival_sameLine f right s) h
  all_goals exact k.quiet (by constructor <;> simp) h

theorem LineKept.written (k : LineKept ok P) {s t : State} (w : Written s t) (h : P s) : P t := by
  cases w
  case thresh start es => exact k.thresh _ _ h
  case params all _ => exact k.params _ _ _ _ all h
  all_goals exact k.quiet (by constructor <;> simp) h

theorem LineKept.effect (k : LineKept ok P) {c : Instr} {s t : State} (e : Effect s c t) (h : P s) : P t := by
  cases e
  case writeTable w | writeOn w => exact k.quiet (by constructor <;> simp) (k.written w h)
  case start off => exact k.training s (.inl off) h
  case stop => exact k.stopped s h
  case retrainRun => exact k.retrained _ s h
  case retrainHoldoff holdoff => exact k.quiet (by constructor <;> simp) (k.training s (.inr holdoff) h)
  case resetLine => exact k.quiet (by constructor <;> simp) (k.lineReset s h)
  case close p => exact k.quiet (closeRecord_sameLine p s) h
  case resetTraffic =>
    exact k.quiet (.trans (resetTrafficScope_sameLine s) (by constructor <;> simp)) h
  case resetVoice =>
    exact k.quiet (.trans (resetVoiceScope_sameLine s) (by constructor <;> simp)) h
  all_goals exact k.quiet (by constructor <;> simp) h

theorem LineKept.kept (k : LineKept ok P) {c : Instr} (hok : ∀ r, c = .trained r → ok r) : KeptBy (fun _ => True) c P where
  close := trivial
  take d _ _ _ h := k.runDue d (k.quiet (by constructor <;> simp) h)
  outside _ hf _ h := k.outside hok hf h
  handler _ _ hf r s h := k.effect (handler_effect hf r s) h
  pop _ _ _ _ h := k.quiet (by constructor <;> simp) h
  reply _ _ h := k.quiet (by constructor <;> simp) h

/-- An invariant of the line that every operation on it keeps, every step keeps. -/
theorem LineKept.step (k : LineKept ok P) {s t : State} (hok : ∀ r rest, s.pending = .trained r :: rest → ok r) (hs : P s)
    (h : Machine.step s = .next t) : P t := by
  unfold Machine.step at h
  split at h
  · cases h
    exact hs
  · rename_i c rest hq
    by_cases hon : c = .powerOn
    · subst hon
      cases h
      exact k.quiet (.of_pending State.reset _) k.powerOn
    · exact (k.kept fun r hr => hok r rest (hr ▸ hq)).exec hon (fun _ _ => trivial)
        (k.quiet (.of_pending s rest) hs) h

end

end Sys2Proof.Machine
end

section
/-! PROOFS. The line's operations, each reduced to what it does to the line port, the loading engine, the schedules and the
rates; the tables within their range (R22); the rate record never out of date (R66, R67); the cutback never left out (R37). -/

namespace Sys2Proof.Machine

/-! ## What an operation of the line comes to -/

theorem SameLine.inRun {s t : State} (h : SameLine s t) : t.inRun = s.inRun := by simp [State.inRun, h.line]

theorem cutbackTest_cases (s : State) :
    (cutbackTest s = s ∧ (cutbackNeeded s = true → s.load.tx ≠ .none)) ∨
      (cutbackNeeded s = true ∧ s.load.tx = .none ∧ cutbackTest s = sendCutback s) := by
  unfold cutbackTest
  split
  · split
    · exact .inr ⟨‹_›, ‹_›, rfl⟩
    · exact .inl ⟨rfl, fun _ => by simp [*]⟩
    · exact .inl ⟨rfl, fun _ => by simp [*]⟩
  · exact .inl ⟨rfl, fun h => absurd h ‹_›⟩

theorem sendCutback_load (s : State) :
    (sendCutback s).load =
      { s.load with
        cutbackNumber := s.load.cutbackNumber + 1
        lastCutback := some { number := s.load.cutbackNumber + 1, switched := false }
        tx := .cutbackOut { switch := s.line.superframe + 8, table := cutTable s.load.txLoads (loadCeiling s)
                            number := s.load.cutbackNumber + 1, answered := false } } := by
  simp [sendCutback]

theorem retrainFromRun_of_not_run {s : State} (h : s.inRun ≠ true) (c : Cause) : retrainFromRun c s = s := by
  simp [retrainFromRun, h]

theorem retrainFromRun_sameLine {s : State} (h : s.inRun = true) (c : Cause) :
    SameLine (enterTraining (leaveRun .training (raise (.withA .lineDown c.code) s))) (retrainFromRun c s) := by
  rw [retrainFromRun, if_pos h]
  constructor <;> simp [enterTraining]

theorem retrainFromRun_load {s : State} (h : s.inRun = true) (c : Cause) :
    (retrainFromRun c s).load = loadingLineDown s.load := by
  rw [(retrainFromRun_sameLine h c).load]
  simp [leaveRun_load]

theorem leaveRun_line (dest : LineState) (s : State) :
    (leaveRun dest s).line = idleContexts { s.line with state := dest, silence := none } := by simp [leaveRun]

theorem leaveRun_sched (dest : LineState) (s : State) : (leaveRun dest s).track.sched = ⟨none, none⟩ := by
  simp [leaveRun, clearSchedules]

theorem stopLine_sameLine {s : State} (h : s.inRun = true) :
    SameLine (leaveRun .off ((s.send .halt).modLine fun l => { l with training := none, holdoff := none, silence := none }))
      (stopLine s) := by
  unfold stopLine
  dsimp only
  rw [if_pos (by simpa [State.inRun] using h)]
  constructor <;> simp

theorem stopLine_sameLine_of_not_run {s : State} (h : s.inRun ≠ true) :
    SameLine (s.modLine fun l => { l with state := .off, training := none, holdoff := none, silence := none })
      (stopLine s) := by
  unfold stopLine
  dsimp only
  rw [if_neg (by simpa [State.inRun] using h)]
  constructor <;> simp

theorem trainingFailed_sameLine (n : Nat) (s : State) :
    SameLine (s.modLine fun l => { l with state := .holdoff, training := none, holdoff := some 0 }) (trainingFailed n s) := by
  constructor <;> simp [trainingFailed]

theorem enterMode_sameLine (m : Mode) (s : State) :
    SameLine (cutbackTest (setShedLevel (s.params.shed.get m) (recompute (s.setSupply { s.supply with mode := m }))))
      (enterMode m s) := by
  constructor
  case empty =>
    intro _ he
    have hfed := setPort2Feed_empty (port2FedIn (cutbackTest (setShedLevel (s.params.shed.get m)
      (recompute (s.setSupply { s.supply with mode := m })))).params m) he
    unfold enterMode
    dsimp only
    split <;> simpa using hfed
  all_goals
    unfold enterMode
    dsimp only
    split <;> simp

theorem writeParams_sameLine (start count : Nat) (entries : List Bytes) (s : State) :
    SameLine (tellLoading (wroteParam start count) (tellScheduler (wroteParam start count)
        (tellRate (wroteParam start count) (s.modAgent fun a => { a with params := storeParams a.params start entries }))))
      (writeParams start count entries s) := by
  rw [writeParams_eq]
  constructor
  case empty =>
    intro _ he
    unfold tellPhone
    split
    · simpa using setPort2Feed_empty _ he
    · simpa using he
  all_goals simp

theorem switchOffer_sameLine (o : OwnOffer) (s : State) :
    SameLine (recompute (match o.newProt with
      | none => s.modLoad fun l => { l with rxLoads := o.table, own := .none, holdoff := 1, failures := 0 }
      | some p => installProtection .receive p
          (s.modLoad fun l => { l with rxLoads := o.table, own := .none, holdoff := 1, failures := 0 })))
      (switchOffer o s) := by
  unfold switchOffer
  cases o.newProt <;> constructor <;> simp [rateRecord, State.inRun]

theorem switchFarChange_sameLine (f : FarPending) (s : State) :
    ∃ u, SameLine (recompute (match f.newProt with
        | none => s.modLoad fun l => { l with txLoads := f.table, tx := .none }
        | some p => installProtection .transmit p (s.modLoad fun l => { l with txLoads := f.table, tx := .none }))) u ∧
      switchFarChange f s = cutbackTest u := by
  refine ⟨_, ?_, rfl⟩
  cases f.newProt <;> constructor <;> simp

theorem switchCutback_sameLine (c : CutbackOut) (s : State) :
    ∃ u, SameLine (recompute (s.modLoad fun l =>
        { l with txLoads := c.table, tx := .none, lastCutback := some { number := c.number, switched := true } })) u ∧
      switchCutback c s = cutbackTest u := by
  refine ⟨_, ?_, rfl⟩
  constructor <;> simp

theorem installProtection_load (d : Direction) (p : Protection) (s : State) :
    (installProtection d p s).load = { s.load with prot := s.load.prot.set d p } := by
  unfold installProtection
  dsimp only
  split <;> simp

theorem installProtection_sched (d : Direction) (p : Protection) (s : State) :
    (installProtection d p s).track.sched =
      s.track.sched.set d (p.guard.map fun g => g.schedule s.line.symbolCount) := by
  unfold installProtection
  dsimp only
  split <;> simp

end Sys2Proof.Machine
end

section
/-! PROOFS. No step brings a load above 12, or a table of another length, into force or into a change in flight (R9, R22, R35). -/

namespace Sys2Proof.Machine

/-! ## Tables in range -/

theorem TableOk.getD_le {n : Nat} {t : List Nat} (h : TableOk n t) (i : Nat) : t.getD i 0 ≤ 12 := by
  rw [List.getD_eq_getElem?_getD]
  by_cases hi : i < t.length
  · simpa [hi] using h.2 _ (List.getElem_mem hi)
  · simp [hi]

theorem TableOk.set {n : Nat} {t : List Nat} (h : TableOk n t) (i : Nat) {b : Nat} (hb : b ≤ 12) : TableOk n (t.set i b) :=
  ⟨by simpa using h.1, fun x hx => (List.mem_or_eq_of_mem_set hx).elim (h.2 x) fun e => e ▸ hb⟩

theorem TableOk.applyChanges {n : Nat} {t : List Nat} (h : TableOk n t) {cs : List (Nat × Nat)} (hcs : ∀ c ∈ cs, c.2 ≤ 12) :
    TableOk n (applyChanges t cs) := by
  induction cs generalizing t with
  | nil => exact h
  | cons c cs ih => exact ih (h.set c.1 (hcs c (by simp))) fun x hx => hcs x (by simp [hx])

theorem length_takeBits (need : Nat) (l : List Nat) : (takeBits need l).length = l.length := by
  induction l generalizing need with
  | nil => rfl
  | cons b l ih => simp [takeBits, ih]

theorem takeBits_le {k : Nat} {l : List Nat} (need : Nat) (h : ∀ b ∈ l, b ≤ k) : ∀ b ∈ takeBits need l, b ≤ k := by
  induction l generalizing need with
  | nil => simp [takeBits]
  | cons b l ih =>
    intro x hx
    rcases List.mem_cons.mp hx with rfl | hx
    · exact (Nat.sub_le ..).trans (h b (by simp))
    · exact ih (need - b) (fun y hy => h y (by simp [hy])) x hx

theorem TableOk.cutTable {n : Nat} {t : List Nat} (h : TableOk n t) (ceiling : Nat) : TableOk n (cutTable t ceiling) := by
  constructor
  · simp [Machine.cutTable, length_takeBits, h.1]
  · intro b hb
    rw [Machine.cutTable, List.mem_reverse] at hb
    exact takeBits_le _ (fun x hx => h.2 x (by simpa using hx)) b hb

/-! ## The changes of an own offer -/

theorem mem_insertRanked {x y : Nat × Int} {l : List (Nat × Int)} : y ∈ insertRanked x l ↔ y = x ∨ y ∈ l := by
  induction l with
  | nil => simp [insertRanked]
  | cons z l ih =>
    unfold insertRanked
    split
    · simp
    · simp [ih, or_left_comm]

theorem mem_rankAscending {n : Nat} {l : List (Nat × Int)} : n ∈ rankAscending l ↔ ∃ k, (n, k) ∈ l := by
  have hfold : ∀ (l r : List (Nat × Int)) (y), y ∈ l.foldl (fun r x => insertRanked x r) r ↔ y ∈ r ∨ y ∈ l := by
    intro l
    induction l with
    | nil => simp
    | cons x l ih =>
      intro r y
      simp [ih, mem_insertRanked, or_assoc, or_left_comm]
  simp [rankAscending, hfold]

/-- R25: only a group loaded below 12 bits is strong. -/
theorem groupReport_strong {p : Params} {l : Loading} {b : Nat} {ratio : Byte}
    (h : (groupReport p l b ratio).cls.strong = true) : b < 12 := by
  by_contra hb
  simp [groupReport, Config.maxLoad, hb] at h

theorem mem_strongRanked {gs : List GroupReport} {n : Nat} (h : n ∈ strongRanked gs) :
    ∃ g, gs[n]? = some g ∧ g.cls.strong = true := by
  obtain ⟨k, hk⟩ := mem_rankAscending.mp h
  simp only [List.mem_map, List.mem_filter, Prod.mk.injEq] at hk
  obtain ⟨⟨g, i⟩, ⟨hmem, hstrong⟩, rfl, -⟩ := hk
  exact ⟨g, by simpa [List.mem_zipIdx_iff_getElem?] using hmem, hstrong⟩

theorem strong_load_lt {p : Params} {l : Loading} {ratios : List Byte} {n : Nat}
    (h : n ∈ strongRanked (marginReport p l ratios)) : l.rxLoads.getD n 0 < 12 := by
  obtain ⟨g, hget, hstrong⟩ := mem_strongRanked h
  simp only [marginReport, List.getElem?_zipWith] at hget
  split at hget
  · rename_i b ratio hb _
    cases hget
    simpa [List.getD_eq_getElem?_getD, hb] using groupReport_strong hstrong
  · cases hget

theorem mem_moveChanges {loads ws ps : List Nat} {acc : List (Nat × Nat)} {c : Nat × Nat}
    (h : c ∈ moveChanges loads ws ps acc) :
    c ∈ acc ∨ (∃ g, c = (g, loads.getD g 0 - 1)) ∨ ∃ p ∈ ps, c = (p, loads.getD p 0 + 1) := by
  induction ws generalizing ps acc with
  | nil => exact .inl h
  | cons g ws ih =>
    cases ps with
    | nil =>
      simp only [moveChanges] at h
      split at h
      · rcases ih h with h | h | ⟨p, hp, -⟩
        · rcases List.mem_append.mp h with h | h
          · exact .inl h
          · exact .inr (.inl ⟨g, List.mem_singleton.mp h⟩)
        · exact .inr (.inl h)
        · cases hp
      · exact .inl h
    | cons p ps =>
      simp only [moveChanges] at h
      split at h
      · rcases ih h with h | h | ⟨q, hq, hc⟩
        · rcases List.mem_append.mp h with h | h
          · exact .inl h
          · rcases List.mem_cons.mp h with h | h
            · exact .inr (.inl ⟨g, h⟩)
            · exact .inr (.inr ⟨p, by simp, List.mem_singleton.mp h⟩)
        · exact .inr (.inl h)
        · exact .inr (.inr ⟨q, by simp [hq], hc⟩)
      · exact .inl h

theorem offerChanges_le {p : Params} {l : Loading} {ratios : List Byte} {n : Nat} (h : TableOk 64 l.rxLoads) :
    ∀ c ∈ offerChanges l.rxLoads (marginReport p l ratios) n, c.2 ≤ 12 := by
  have gain : ∀ g ∈ strongRanked (marginReport p l ratios), l.rxLoads.getD g 0 + 1 ≤ 12 := fun g hg => strong_load_lt hg
  intro c hc
  unfold offerChanges at hc
  split at hc
  · rcases mem_moveChanges hc with hc | ⟨g, rfl⟩ | ⟨g, hg, rfl⟩
    · cases hc
    · exact (Nat.sub_le ..).trans (h.getD_le g)
    · exact gain g hg
  · split at hc
    · obtain ⟨g, hg, rfl⟩ := List.mem_map.mp hc
      exact gain g (List.mem_of_mem_take hg)
    · cases hc

/-! ## Loads in range -/

theorem LoadsOk.of_load {s t : State} (h : LoadsOk s) (e : t.load = s.load) : LoadsOk t where
  rx := e ▸ h.rx
  tx := e ▸ h.tx
  own := e ▸ h.own
  far := e ▸ h.far

theorem LoadsOk.lineDown {s t : State} (h : LoadsOk s) (e : t.load = loadingLineDown s.load) : LoadsOk t := by
  constructor <;> rw [e]
  · exact h.rx
  · exact h.tx
  · rintro _ ⟨⟩
  · rintro _ ⟨⟩

theorem LoadsOk.sendCutback {s : State} (h : LoadsOk s) : LoadsOk (sendCutback s) := by
  constructor <;> rw [sendCutback_load]
  · exact h.rx
  · exact h.tx
  · exact h.own
  · rintro _ ⟨⟩
    exact h.tx.cutTable _

theorem LoadsOk.cutbackTest {s : State} (h : LoadsOk s) : LoadsOk (cutbackTest s) := by
  rcases cutbackTest_cases s with ⟨e, -⟩ | ⟨-, -, e⟩ <;> rw [e]
  · exact h
  · exact h.sendCutback

theorem LoadsOk.retrainFromRun {s : State} (h : LoadsOk s) (c : Cause) : LoadsOk (retrainFromRun c s) := by
  by_cases hrun : s.inRun = true
  · exact h.lineDown (retrainFromRun_load hrun c)
  · rwa [retrainFromRun_of_not_run hrun]

theorem LoadsOk.stopLine {s : State} (h : LoadsOk s) : LoadsOk (stopLine s) := by
  by_cases hrun : s.inRun = true
  · exact h.lineDown ((stopLine_sameLine hrun).load.trans (by simp [leaveRun_load]))
  · exact h.of_load ((stopLine_sameLine_of_not_run hrun).load.trans rfl)

theorem checkTrained_loads {r : TrainedRecord} {lv : Dirs Level} (h : checkTrained r = some lv) :
    (∀ b ∈ r.rxLoads, b ≤ 12) ∧ ∀ b ∈ r.txLoads, b ≤ 12 := by
  unfold checkTrained at h
  split at h
  · rename_i hall
    simp only [Bool.and_eq_true, List.all_eq_true, decide_eq_true_eq] at hall
    exact hall
  · cases h

theorem LoadsOk.enterRun {s : State} (h : LoadsOk s) {r : TrainedRecord} {lv : Dirs Level} (hr : r.WellFormed)
    (hc : checkTrained r = some lv) : LoadsOk (enterRun r lv s) := by
  obtain ⟨hrx, htx, -⟩ := hr
  obtain ⟨hrx12, htx12⟩ := checkTrained_loads hc
  refine LoadsOk.cutbackTest (LoadsOk.of_load (s := s.modLoad (installTrained r lv)) ?_ (by simp))
  exact ⟨⟨hrx, hrx12⟩, ⟨htx, htx12⟩, h.own, h.far⟩

theorem LoadsOk.loadingMargins {s : State} (h : LoadsOk s) (ratios : List Byte) : LoadsOk (loadingMargins ratios s) := by
  have held : ∀ n k, LoadsOk (s.modLoad fun l =>
      { l with report := some (marginReport s.params s.load ratios), raiseCount := n, holdoff := k }) :=
    fun _ _ => ⟨h.rx, h.tx, h.own, h.far⟩
  unfold Machine.loadingMargins
  dsimp only
  split
  · exact (held _ _).of_load rfl
  split
  · unfold buildOffer
    dsimp only
    split
    · exact (held _ s.load.holdoff).of_load rfl
    · constructor
      · simpa [sendOffer] using h.rx
      · simpa [sendOffer] using h.tx
      · intro t ht
        simp only [sendOffer, State.modLoad_load, OwnRecord.table, Option.some.injEq] at ht
        rw [← ht]
        exact h.rx.applyChanges (offerChanges_le h.rx)
      · simpa [sendOffer] using h.far
  · exact (held _ s.load.holdoff).of_load rfl

theorem LoadsOk.recompute {s : State} (h : LoadsOk s) : LoadsOk (recompute s) := h.of_load (by simp)

theorem LoadsOk.installProtection {s : State} (h : LoadsOk s) (d : Direction) (p : Protection) :
    LoadsOk (installProtection d p s) := by
  constructor <;> rw [installProtection_load]
  · exact h.rx
  · exact h.tx
  · exact h.own
  · exact h.far

theorem LoadsOk.switchOffer {s : State} (h : LoadsOk s) {o : OwnOffer} (ho : s.load.own = .confirmed o) :
    LoadsOk (switchOffer o s) := by
  have htable : TableOk 64 o.table := h.own _ (by rw [ho]; rfl)
  have hin : LoadsOk (s.modLoad fun l => { l with rxLoads := o.table, own := .none, holdoff := 1, failures := 0 }) :=
    ⟨htable, h.tx, by rintro _ ⟨⟩, h.far⟩
  refine LoadsOk.of_load (LoadsOk.recompute ?_) (switchOffer_sameLine o s).load
  split
  · exact hin
  · exact hin.installProtection _ _

theorem offerFormat_loads {o : OfferBody} (h : offerFormat o = true) : ∀ c ∈ o.changes, c.2 ≤ 12 := by
  simp only [offerFormat, Bool.and_eq_true, List.all_eq_true, decide_eq_true_eq] at h
  obtain ⟨⟨⟨-, hall⟩, -⟩, -⟩ := h
  exact fun c hc => (hall c hc).2

theorem LoadsOk.acceptOffer {s : State} (h : LoadsOk s) {o : OfferBody} (ho : offerFormat o = true) :
    LoadsOk (acceptOffer o s) := by
  constructor
  · simpa [Machine.acceptOffer] using h.rx
  · simpa [Machine.acceptOffer] using h.tx
  · simpa [Machine.acceptOffer] using h.own
  · intro t ht
    simp only [Machine.acceptOffer, State.modLoad_load, TxRecord.table, Option.some.injEq] at ht
    rw [← ht]
    exact h.tx.applyChanges (offerFormat_loads ho)

theorem LoadsOk.switchFarChange {s : State} (h : LoadsOk s) {f : FarPending} (hf : s.load.tx = .farPending f) :
    LoadsOk (switchFarChange f s) := by
  have hin : LoadsOk (s.modLoad fun l => { l with txLoads := f.table, tx := .none }) :=
    ⟨h.rx, h.far _ (by rw [hf]; rfl), h.own, by rintro _ ⟨⟩⟩
  obtain ⟨u, hu, e⟩ := switchFarChange_sameLine f s
  rw [e]
  refine LoadsOk.cutbackTest (LoadsOk.of_load (LoadsOk.recompute ?_) hu.load)
  split
  · exact hin
  · exact hin.installProtection _ _

theorem LoadsOk.switchCutback {s : State} (h : LoadsOk s) {c : CutbackOut} (hc : s.load.tx = .cutbackOut c) :
    LoadsOk (switchCutback c s) := by
  obtain ⟨u, hu, e⟩ := switchCutback_sameLine c s
  rw [e]
  refine LoadsOk.cutbackTest (LoadsOk.of_load (LoadsOk.recompute ?_) hu.load)
  exact ⟨h.rx, h.far _ (by rw [hc]; rfl), h.own, by rintro _ ⟨⟩⟩

theorem LoadsOk.writeParams {s : State} (h : LoadsOk s) (start count : Nat) (entries : List Bytes) :
    LoadsOk (writeParams start count entries s) := by
  refine LoadsOk.of_load ?_ (writeParams_sameLine start count entries s).load
  unfold tellLoading
  split
  · exact LoadsOk.cutbackTest (h.of_load (by simp))
  · exact h.of_load (by simp)

theorem LoadsOk.resetPartState (s : State) : LoadsOk (resetPartState s) := reset_loadsOk.of_load (by simp [Machine.resetPartState])

theorem loadsOk_lineKept : LineKept TrainedRecord.WellFormed LoadsOk where
  quiet e h := h.of_load e.load
  ticked _ h := h.of_load rfl
  advanced _ _ h := h.of_load rfl
  heard _ _ h := h.of_load rfl
  context _ _ _ _ h := h.of_load rfl
  retrained c _ h := h.retrainFromRun c
  stopped _ h := h.stopLine
  training _ _ h := h.of_load (by simp)
  failed n s _ h := h.of_load (trainingFailed_sameLine n s).load
  trained _ _ _ hr _ hc h := h.enterRun hr hc
  margins ratios _ _ h := h.loadingMargins ratios
  confirmed _ _ ho h := ⟨h.rx, h.tx, fun t ht => h.own t (by rw [ho]; exact ht), h.far⟩
  ended _ _ h := ⟨h.rx, h.tx, by rintro _ ⟨⟩, h.far⟩
  offerSwitched _ _ ho h := h.switchOffer ho
  accepted _ _ _ ho _ h := h.acceptOffer ho
  farSwitched _ _ hf h := h.switchFarChange hf
  cutbackSwitched _ _ hc h := h.switchCutback hc
  answered _ _ hc h := ⟨h.rx, h.tx, h.own, fun t ht => h.far t (by rw [hc]; exact ht)⟩
  countdown _ _ h := h.of_load (by simp)
  mode m s h := (LoadsOk.cutbackTest (h.of_load (by simp))).of_load (enterMode_sameLine m s).load
  thresh _ _ h := ⟨h.rx, h.tx, h.own, h.far⟩
  params _ _ _ _ _ h := h.writeParams _ _ _
  lineReset _ _ := ⟨reset_loadsOk.rx, reset_loadsOk.tx, nofun, nofun⟩
  partReset s _ := LoadsOk.resetPartState s
  powerOn := reset_loadsOk

/-- Settles O6: every operation on the line keeps the loads of its tables in range, given that a TRAINED record brings
tables of the right lengths: its check and that of a LOAD-OFFER bound the loads, a strong group has room for a bit, and a
cutback only takes bits. -/
theorem noLoadAboveTwelveIsTaken : Obligations.NoLoadAboveTwelveIsTaken := by
  intro s t hs hwf hstep
  exact loadsOk_lineKept.step (fun r rest hq => hwf _ rest hq) hs hstep

end Sys2Proof.Machine
end

section
/-! PROOFS. The rate record is never out of date (R66, R67), and a cutback that is needed is never left out (R37). -/

namespace Sys2Proof.Machine

/-! ## What a run of parameters leaves as it was -/

/-- A figure of the parameter table that only the entry at index `i` governs. -/
def OnlyAt {α : Type} (i : Nat) (π : Params → α) : Prop := ∀ p j b, j ≠ i → π (Params.store p j b) = π p

theorem OnlyAt.storeParams {α : Type} {i : Nat} {π : Params → α} (h : OnlyAt i π) {start : Nat} {entries : List Bytes}
    (hw : wroteParam start entries.length i = false) (p : Params) : π (storeParams p start entries) = π p := by
  induction entries generalizing start p with
  | nil => rfl
  | cons b entries ih =>
    simp only [wroteParam, List.length_cons, Bool.and_eq_false_iff, decide_eq_false_iff_not] at hw
    rw [Machine.storeParams, ih _ _, h p start b (by omega)]
    simp only [wroteParam, Bool.and_eq_false_iff, decide_eq_false_iff_not]
    omega

theorem onlyAt_providerCap : OnlyAt 9 Params.providerCap := by
  intro p j b hj
  unfold Params.store
  split <;> first | rfl | exact absurd rfl hj

theorem onlyAt_voiceShare : OnlyAt 10 Params.voiceShare := by
  intro p j b hj
  unfold Params.store
  split <;> first | rfl | exact absurd rfl hj

theorem onlyAt_supplyCap (m : Mode) : OnlyAt (modeIndex 11 m) fun p => p.supplyCap.get m := by
  intro p j b hj
  unfold Params.store
  split <;> cases m <;> first | rfl | exact absurd rfl hj

/-! ## The inputs of the rate record -/

theorem rateRecord_congr {s t : State} (hline : t.line.state = s.line.state) (hrx : t.load.rxLoads = s.load.rxLoads)
    (htx : t.load.txLoads = s.load.txLoads) (hprot : t.load.prot = s.load.prot)
    (hprovider : t.params.providerCap = s.params.providerCap) (hshare : t.params.voiceShare = s.params.voiceShare)
    (hsupply : t.params.supplyCap.get t.supply.mode = s.params.supplyCap.get s.supply.mode) :
    rateRecord t = rateRecord s := by
  simp only [rateRecord, State.inRun, hline, hrx, htx, hprot, hprovider, hshare, hsupply]
  rfl

/-- What the rate record depends on is in `t` as in `s`. -/
structure SameRates (s t : State) : Prop where
  line : t.line.state = s.line.state
  rx : t.load.rxLoads = s.load.rxLoads
  tx : t.load.txLoads = s.load.txLoads
  prot : t.load.prot = s.load.prot
  params : t.agent.params = s.agent.params
  mode : t.supply.mode = s.supply.mode
  rate : t.rate = s.rate

theorem SameRates.rateRecord {s t : State} (e : SameRates s t) : rateRecord t = rateRecord s := by
  have hp : t.params = s.params := e.params
  exact rateRecord_congr e.line e.rx e.tx e.prot (by rw [hp]) (by rw [hp]) (by rw [hp, e.mode])

theorem RateOk.of_same {s t : State} (h : RateOk s) (e : SameRates s t) : RateOk t := by
  rw [RateOk, e.rate, e.rateRecord]
  exact h

theorem SameLine.rates {s t : State} (e : SameLine s t) : SameRates s t := by
  constructor <;> simp [e.line, e.load, e.params, e.mode, e.rate]

theorem RateOk.of_line {s t : State} (h : RateOk s) (e : SameLine s t) : RateOk t := h.of_same e.rates

theorem recompute_rateOk (s : State) : RateOk (recompute s) := by
  rw [RateOk, recompute_rate]
  exact (rateRecord_congr (by simp) (by simp) (by simp) (by simp) (by simp) (by simp) (by simp)).symm

theorem leaveRun_rateOk (d : LineState) (s : State) : RateOk (leaveRun d s) := recompute_rateOk _

theorem sendCutback_rates (s : State) : SameRates s (sendCutback s) := by constructor <;> simp [sendCutback]

theorem RateOk.cutbackTest {s : State} (h : RateOk s) : RateOk (cutbackTest s) := by
  rcases cutbackTest_cases s with ⟨e, -⟩ | ⟨-, -, e⟩ <;> rw [e]
  · exact h
  · exact h.of_same (sendCutback_rates s)

/-- Outside RUN the record is that of the tables and levels, whatever the line state. -/
theorem RateOk.outside {s t : State} (h : RateOk s) (hs : s.line.state ≠ .run) (ht : t.line.state ≠ .run)
    (hload : t.load = s.load) (hrate : t.rate = s.rate) : RateOk t := by
  rw [RateOk, hrate, rateRecord_outside_run ht, hload, ← rateRecord_outside_run hs]
  exact h

theorem RateOk.retrainFromRun {s : State} (h : RateOk s) (c : Cause) : RateOk (retrainFromRun c s) := by
  by_cases hrun : s.inRun = true
  · refine RateOk.of_line ?_ (retrainFromRun_sameLine hrun c)
    refine (leaveRun_rateOk .training (raise (.withA .lineDown c.code) s)).of_same ?_
    constructor <;> simp [enterTraining, leaveRun_line, idleContexts]
  · rwa [retrainFromRun_of_not_run hrun]

theorem RateOk.stopLine {s : State} (h : RateOk s) : RateOk (stopLine s) := by
  by_cases hrun : s.inRun = true
  · exact (leaveRun_rateOk .off _).of_line (stopLine_sameLine hrun)
  · refine RateOk.of_line ?_ (stopLine_sameLine_of_not_run hrun)
    exact h.outside (mt State.inRun_iff.mpr hrun) (by simp) rfl rfl

theorem loadingMargins_rates (ratios : List Byte) (s : State) : SameRates s (loadingMargins ratios s) := by
  unfold loadingMargins buildOffer
  dsimp only
  repeat' split
  all_goals constructor <;> simp [sendOffer]

theorem RateOk.tellRate {s : State} (h : RateOk s) {start count : Nat} {entries : List Bytes}
    (hlen : entries.length = count) :
    RateOk (tellRate (wroteParam start count)
      (s.modAgent fun a => { a with params := storeParams a.params start entries })) := by
  subst hlen
  have hprovider := fun hw => (onlyAt_providerCap.storeParams (start := start) (entries := entries) hw s.agent.params)
  have hshare := fun hw => (onlyAt_voiceShare.storeParams (start := start) (entries := entries) hw s.agent.params)
  have hsupply := fun hw => ((onlyAt_supplyCap s.supply.mode).storeParams (start := start) (entries := entries) hw
    s.agent.params)
  unfold Machine.tellRate
  split
  · exact recompute_rateOk _
  · rename_i hcaps
    simp only [State.modAgent_supply, Bool.or_eq_true, not_or, Bool.not_eq_true] at hcaps
    obtain ⟨hp, hs⟩ := hcaps
    split
    · have hrate : s.rate = rateRecord s := h
      rw [RateOk]
      by_cases hrun : s.inRun = true
      · rw [recomputeAllowances_rate (by simpa using State.inRun_iff.mp hrun)]
        simp only [State.modAgent_rate, hrate]
        simp only [rateRecord, State.inRun] at hrun ⊢
        simp [recomputeAllowances, State.inRun, hrun, hprovider hp, hsupply hs]
      · have hout : s.line.state ≠ .run := mt State.inRun_iff.mpr hrun
        rw [rateRecord_outside_run (by simpa using hout)]
        simp [recomputeAllowances, State.inRun, hout, hrate, rateRecord_outside_run hout, RateRecord.outsideRun]
    · rename_i hw
      rw [RateOk, rateRecord_congr (s := s) (t := s.modAgent fun a => { a with params := storeParams a.params start entries })
        rfl rfl rfl rfl (hprovider hp) (hshare (by simpa using hw)) (hsupply hs)]
      exact h

theorem RateOk.writeParams {s : State} (h : RateOk s) (start : Nat) {count : Nat} {entries : List Bytes}
    (hlen : entries.length = count) : RateOk (writeParams start count entries s) := by
  refine RateOk.of_line ?_ (writeParams_sameLine start count entries s)
  have htold : RateOk (tellScheduler (wroteParam start count) (Machine.tellRate (wroteParam start count)
      (s.modAgent fun a => { a with params := storeParams a.params start entries }))) :=
    (h.tellRate (start := start) hlen).of_same (by constructor <;> simp)
  unfold tellLoading
  split
  · exact htold.cutbackTest
  · exact htold

theorem outsideRun_reset : RateRecord.outsideRun Loading.reset = RateRecord.reset := by decide

theorem rateOk_lineKept : LineKept (fun _ => True) RateOk where
  quiet e h := h.of_line e
  ticked _ h := h.of_same (by constructor <;> rfl)
  advanced _ _ h := h.of_same (by constructor <;> rfl)
  heard _ _ h := h.of_same (by constructor <;> rfl)
  context lane _ _ _ h := h.of_same (by constructor <;> cases lane <;> rfl)
  retrained c _ h := h.retrainFromRun c
  stopped _ h := h.stopLine
  training s hs h := h.outside (by rcases hs with e | e <;> simp [e]) (by simp [enterTraining]) (by simp) (by simp)
  failed n s hs h := RateOk.of_line (s := s.modLine _) (h.outside (by simp [hs]) (by simp) rfl rfl)
    (trainingFailed_sameLine n s)
  trained _ _ _ _ _ _ _ := (recompute_rateOk _).cutbackTest
  margins ratios s _ h := h.of_same (loadingMargins_rates ratios s)
  confirmed _ _ _ h := h.of_same (by constructor <;> rfl)
  ended _ _ h := h.of_same (by constructor <;> rfl)
  offerSwitched o s _ _ := (recompute_rateOk _).of_line (switchOffer_sameLine o s)
  accepted o s _ _ _ h := h.of_same (by constructor <;> simp [acceptOffer])
  farSwitched f s _ _ := by
    obtain ⟨u, hu, e⟩ := switchFarChange_sameLine f s
    exact e ▸ RateOk.cutbackTest (RateOk.of_line (recompute_rateOk _) hu)
  cutbackSwitched c s _ _ := by
    obtain ⟨u, hu, e⟩ := switchCutback_sameLine c s
    exact e ▸ RateOk.cutbackTest (RateOk.of_line (recompute_rateOk _) hu)
  answered _ _ _ h := h.of_same (by constructor <;> rfl)
  countdown _ _ h := h.of_same (by constructor <;> rfl)
  mode m s _ := RateOk.of_line (RateOk.cutbackTest (RateOk.of_same
    (recompute_rateOk (s.setSupply { s.supply with mode := m })) (by constructor <;> simp))) (enterMode_sameLine m s)
  thresh _ _ h := h.of_same (by constructor <;> rfl)
  params _ _ _ _ hlen h := h.writeParams _ hlen
  lineReset s _ := by rw [RateOk, rateRecord_outside_run (by simp [resetLineScope, LinePort.reset])]; exact outsideRun_reset.symm
  partReset s _ := by rw [RateOk, rateRecord_outside_run (by simp [resetPartState, State.reset, LinePort.reset])]; exact outsideRun_reset.symm
  powerOn := reset_rateOk

/-- Settles O7: whatever changes an input of the rate record in RUN is followed by its recomputation, and outside RUN
the record depends on the tables and levels alone. -/
theorem rateRecordIsCurrent : Obligations.RateRecordIsCurrent :=
  fun _ _ hs hstep => rateOk_lineKept.step (fun _ _ _ => trivial) hs hstep

/-! ## The cutback -/

theorem cutbackNeeded_iff {s : State} : cutbackNeeded s = true ↔
    s.supply.mode ≠ .mains ∧ s.line.state = .run ∧ loadCeiling s < rawOf s.load.txLoads := by
  simp [cutbackNeeded, State.inRun, and_assoc]

theorem cutbackOk_iff {s : State} : CutbackOk s ↔ (cutbackNeeded s = true → s.load.tx ≠ .none) := by
  rw [cutbackNeeded_iff]
  exact ⟨fun h ⟨hmode, hrun, hover⟩ => h hmode hrun hover, fun h hmode hrun hover => h ⟨hmode, hrun, hover⟩⟩

theorem CutbackOk.of_needed {s t : State} (h : CutbackOk s) (hneeded : cutbackNeeded t = true → cutbackNeeded s = true)
    (htx : s.load.tx ≠ .none → t.load.tx ≠ .none) : CutbackOk t :=
  cutbackOk_iff.mpr fun hn => htx (cutbackOk_iff.mp h (hneeded hn))

theorem cutbackNeeded_congr {s t : State} (hline : t.line.state = s.line.state) (htx : t.load.txLoads = s.load.txLoads)
    (hparams : t.agent.params = s.agent.params) (hmode : t.supply.mode = s.supply.mode) :
    cutbackNeeded t = cutbackNeeded s := by
  rw [Bool.eq_iff_iff, cutbackNeeded_iff, cutbackNeeded_iff]
  simp only [loadCeiling, State.params, hline, htx, hparams, hmode]

theorem CutbackOk.of_line {s t : State} (h : CutbackOk s) (e : SameLine s t) : CutbackOk t :=
  h.of_needed (by rw [cutbackNeeded_congr (by rw [e.line]) (by rw [e.load]) e.params e.mode]; exact id)
    (by rw [e.load]; exact id)

theorem cutbackOk_of_not_run {s : State} (h : s.line.state ≠ .run) : CutbackOk s := fun _ hrun => absurd hrun h

/-- R37: the test leaves no needed cutback without a change in flight, whatever came before. -/
theorem cutbackTest_cutbackOk (s : State) : CutbackOk (cutbackTest s) := by
  rcases cutbackTest_cases s with ⟨e, h⟩ | ⟨-, -, e⟩ <;> rw [e]
  · exact cutbackOk_iff.mpr h
  · exact cutbackOk_iff.mpr fun _ => by simp [sendCutback_load]

theorem CutbackOk.retrainFromRun {s : State} (h : CutbackOk s) (c : Cause) : CutbackOk (retrainFromRun c s) := by
  by_cases hrun : s.inRun = true
  · exact cutbackOk_of_not_run (by rw [(retrainFromRun_sameLine hrun c).line]; simp [enterTraining])
  · rwa [retrainFromRun_of_not_run hrun]

theorem stopLine_not_run (s : State) : (stopLine s).line.state ≠ .run := by
  by_cases hrun : s.inRun = true
  · rw [(stopLine_sameLine hrun).line, leaveRun_line]
    simp [idleContexts]
  · rw [(stopLine_sameLine_of_not_run hrun).line]
    simp

theorem loadingMargins_tx (ratios : List Byte) (s : State) :
    (loadingMargins ratios s).load.tx = s.load.tx := by
  unfold loadingMargins buildOffer
  dsimp only
  repeat' split
  all_goals simp [sendOffer]

theorem onlyAt_loadCeiling (m : Mode) : OnlyAt (modeIndex 14 m) fun p => p.loadCeiling.get m := by
  intro p j b hj
  unfold Params.store
  split <;> cases m <;> first | rfl | exact absurd rfl hj

theorem CutbackOk.writeParams {s : State} (h : CutbackOk s) (start : Nat) {count : Nat} {entries : List Bytes}
    (hlen : entries.length = count) : CutbackOk (writeParams start count entries s) := by
  refine CutbackOk.of_line ?_ (writeParams_sameLine start count entries s)
  subst hlen
  unfold tellLoading
  split
  · exact cutbackTest_cutbackOk _
  · rename_i hw
    have hceiling := (onlyAt_loadCeiling s.supply.mode).storeParams (start := start) (entries := entries)
      (by simpa using hw) s.agent.params
    refine h.of_needed ?_ (by simp)
    simp [cutbackNeeded_iff, loadCeiling, hceiling]

theorem cutbackOk_lineKept : LineKept (fun _ => True) CutbackOk where
  quiet e h := h.of_line e
  ticked _ h := h
  advanced _ _ h := h
  heard _ _ h := h
  context lane _ _ _ h := h.of_needed (by cases lane <;> exact id) id
  retrained c _ h := h.retrainFromRun c
  stopped s _ := cutbackOk_of_not_run (stopLine_not_run s)
  training _ _ _ := cutbackOk_of_not_run (by simp [enterTraining])
  failed n s _ _ := cutbackOk_of_not_run (by rw [(trainingFailed_sameLine n s).line]; simp)
  trained _ _ _ _ _ _ _ := cutbackTest_cutbackOk _
  margins ratios s _ h :=
    have e := loadingMargins_rates ratios s
    h.of_needed (by rw [cutbackNeeded_congr e.line e.tx e.params e.mode]; exact id) (by rw [loadingMargins_tx]; exact id)
  confirmed _ _ _ h := h
  ended _ _ h := h
  offerSwitched o s _ h :=
    CutbackOk.of_line (s := recompute _) (h.of_needed
      (by cases o.newProt <;> simp [cutbackNeeded_iff, loadCeiling, installProtection_load])
      (by cases o.newProt <;> simp [installProtection_load])) (switchOffer_sameLine o s)
  accepted o s _ _ _ _ := cutbackOk_iff.mpr fun _ => by simp [acceptOffer]
  farSwitched f s _ _ := by
    obtain ⟨u, -, e⟩ := switchFarChange_sameLine f s
    exact e ▸ cutbackTest_cutbackOk u
  cutbackSwitched c s _ _ := by
    obtain ⟨u, -, e⟩ := switchCutback_sameLine c s
    exact e ▸ cutbackTest_cutbackOk u
  answered _ _ _ h := h.of_needed id fun _ => by simp
  countdown _ _ h := h
  mode m s _ := (cutbackTest_cutbackOk _).of_line (enterMode_sameLine m s)
  thresh _ _ h := h
  params _ _ _ _ hlen h := h.writeParams _ hlen
  lineReset s _ := cutbackOk_of_not_run (by simp [resetLineScope, LinePort.reset])
  partReset s _ := cutbackOk_of_not_run (by simp [resetPartState, State.reset, LinePort.reset])
  powerOn := cutbackOk_of_not_run (by decide)

/-- Settles O8: every operation that can make a cutback needed ends with the cutback test, or leaves RUN; and the
transmit record returns to NONE only where the test follows. -/
theorem cutbackIsNeverLeftOut : Obligations.CutbackIsNeverLeftOut :=
  fun _ _ hs hstep => cutbackOk_lineKept.step (fun _ _ _ => trivial) hs hstep

end Sys2Proof.Machine
end

section
/-! PROOFS. Each timer in its own line state (R6), nothing of a trained line outside RUN (R14), and the guard schedules those of
the guards in force (R55). -/

namespace Sys2Proof.Machine

/-! ## The line after leaving RUN -/

theorem leaveRun_queues (d : LineState) (s : State) : (leaveRun d s).sch.lineQueuesEmpty := by
  have h : (leaveRun d s).sch = emptyLineQueues (restartProgress s.sch) := by simp [leaveRun, schedulerLineDown]
  rw [h]
  exact ⟨rfl, rfl, rfl⟩

theorem loadingLineDown_guard (l : Loading) (d : Direction) : ((loadingLineDown l).prot.get d).guard = none := by
  cases d <;> rfl

theorem retrainFromRun_line {s : State} (h : s.inRun = true) (c : Cause) :
    (retrainFromRun c s).line =
      { idleContexts s.line with state := .training, silence := none, training := some 0, holdoff := none } := by
  rw [(retrainFromRun_sameLine h c).line]
  simp [enterTraining, leaveRun_line, idleContexts]

theorem retrainFromRun_sched {s : State} (h : s.inRun = true) (c : Cause) :
    (retrainFromRun c s).track.sched = ⟨none, none⟩ := by
  rw [(retrainFromRun_sameLine h c).sched]
  simp [enterTraining, leaveRun_sched]

theorem retrainFromRun_queues {s : State} (h : s.inRun = true) (c : Cause) :
    (retrainFromRun c s).sch.lineQueuesEmpty :=
  (retrainFromRun_sameLine h c).empty (by simp [enterTraining])
    (by simpa [enterTraining] using leaveRun_queues .training (raise (.withA .lineDown c.code) s))

theorem stopLine_line {s : State} (h : s.inRun = true) :
    (stopLine s).line = { idleContexts s.line with state := .off, training := none, holdoff := none, silence := none } := by
  rw [(stopLine_sameLine h).line, leaveRun_line]
  simp [idleContexts]

theorem stopLine_sched {s : State} (h : s.inRun = true) : (stopLine s).track.sched = ⟨none, none⟩ := by
  rw [(stopLine_sameLine h).sched, leaveRun_sched]

theorem stopLine_load {s : State} (h : s.inRun = true) : (stopLine s).load = loadingLineDown s.load := by
  rw [(stopLine_sameLine h).load, leaveRun_load]
  simp

theorem stopLine_queues {s : State} (h : s.inRun = true) : (stopLine s).sch.lineQueuesEmpty :=
  (stopLine_sameLine h).empty (by simp [leaveRun_line, idleContexts]) (leaveRun_queues .off _)

theorem enterRun_line (r : TrainedRecord) (lv : Dirs Level) (s : State) :
    (enterRun r lv s).line = { s.line with state := .run, training := none, silence := some 0 } := by
  simp [enterRun]

theorem cutbackTest_sched (s : State) : (cutbackTest s).track.sched = s.track.sched := by simp

theorem cutbackTest_prot (s : State) : (cutbackTest s).load.prot = s.load.prot := by
  rcases cutbackTest_cases s with ⟨e, -⟩ | ⟨-, -, e⟩ <;> rw [e]
  simp [sendCutback_load]

/-! ## Timers -/

theorem TimersOk.of_line {s t : State} (h : TimersOk s) (e : t.line = s.line) : TimersOk t where
  training := e ▸ h.training
  silence := e ▸ h.silence
  holdoff := e ▸ h.holdoff

theorem TimersOk.silence_none {s : State} (h : TimersOk s) (hs : s.line.state ≠ .run) : s.line.silence = none := by
  simpa using mt h.silence.mp hs

theorem TimersOk.holdoff_none {s : State} (h : TimersOk s) (hs : s.line.state ≠ .holdoff) : s.line.holdoff = none := by
  simpa using mt h.holdoff.mp hs

theorem timersOk_lineKept : LineKept (fun _ => True) TimersOk where
  quiet e h := h.of_line e.line
  ticked s h := by constructor <;> simp [tickLine, h.training, h.silence, h.holdoff]
  advanced _ _ h := ⟨h.training, h.silence, h.holdoff⟩
  heard s hrun h := ⟨h.training, by simpa [restartSilence] using State.inRun_iff.mp hrun, h.holdoff⟩
  context lane _ _ _ h := by cases lane <;> exact ⟨h.training, h.silence, h.holdoff⟩
  retrained c s h := by
    by_cases hrun : s.inRun = true
    · constructor <;> simp [retrainFromRun_line hrun]
    · rwa [retrainFromRun_of_not_run hrun]
  stopped s _ := by
    by_cases hrun : s.inRun = true
    · constructor <;> simp [stopLine_line hrun]
    · constructor <;> rw [(stopLine_sameLine_of_not_run hrun).line] <;> simp
  training s hs h := by
    have hsilence := h.silence_none (by rcases hs with e | e <;> simp [e])
    constructor <;> simp [enterTraining, hsilence]
  failed n s hs h := by
    have hsilence := h.silence_none (by simp [hs])
    constructor <;> rw [(trainingFailed_sameLine n s).line] <;> simp [hsilence]
  trained r lv s _ hs _ h := by
    have hholdoff := h.holdoff_none (by simp [hs])
    constructor <;> simp [enterRun_line, hholdoff]
  margins _ _ _ h := h.of_line (by simp)
  confirmed _ _ _ h := h.of_line rfl
  ended _ _ h := h.of_line rfl
  offerSwitched _ _ _ h := h.of_line (by simp)
  accepted _ _ _ _ _ h := h.of_line (by simp)
  farSwitched _ _ _ h := h.of_line (by simp)
  cutbackSwitched _ _ _ h := h.of_line (by simp)
  answered _ _ _ h := h.of_line rfl
  countdown _ _ h := h.of_line (by simp)
  mode _ _ h := h.of_line (by simp)
  thresh _ _ h := h.of_line rfl
  params _ _ _ _ _ h := h.of_line (by simp)
  lineReset _ _ := by constructor <;> simp [resetLineScope, LinePort.reset]
  partReset _ _ := by constructor <;> simp [resetPartState, State.reset, LinePort.reset]
  powerOn := by constructor <;> decide

/-! ## Outside RUN -/

/-- What a state outside RUN holds of a trained line: nothing. -/
structure LineDown (s : State) : Prop where
  own : s.load.own = .none
  tx : s.load.tx = .none
  guards : ∀ d, (s.load.prot.get d).guard = none
  contexts : s.line.data = .idle ∧ s.line.manage = .idle ∧ ∀ c ∈ s.line.voice, c = .idle
  queues : s.sch.lineQueuesEmpty

theorem outsideRunOk_iff {s : State} : OutsideRunOk s ↔ (s.line.state ≠ .run → LineDown s) :=
  ⟨fun h hs => ⟨h.own hs, h.tx hs, h.guards hs, h.contexts hs, h.queues hs⟩,
    fun h => ⟨fun hs => (h hs).own, fun hs => (h hs).tx, fun hs => (h hs).guards, fun hs => (h hs).contexts,
      fun hs => (h hs).queues⟩⟩

theorem outsideRunOk_of_run {s : State} (h : s.line.state = .run) : OutsideRunOk s :=
  outsideRunOk_iff.mpr fun hs => absurd h hs

theorem LineDown.of_same {s t : State} (h : LineDown s) (hdata : t.line.data = s.line.data)
    (hmanage : t.line.manage = s.line.manage) (hvoice : t.line.voice = s.line.voice) (hload : t.load = s.load)
    (hsch : s.sch.lineQueuesEmpty → t.sch.lineQueuesEmpty) : LineDown t := by
  constructor
  · rw [hload]; exact h.own
  · rw [hload]; exact h.tx
  · rw [hload]; exact h.guards
  · rw [hdata, hmanage, hvoice]; exact h.contexts
  · exact hsch h.queues

theorem OutsideRunOk.of_line {s t : State} (h : OutsideRunOk s) (e : SameLine s t) : OutsideRunOk t :=
  outsideRunOk_iff.mpr fun ht =>
    have hs : s.line.state ≠ .run := e.line ▸ ht
    (outsideRunOk_iff.mp h hs).of_same (by rw [e.line]) (by rw [e.line]) (by rw [e.line]) e.load (e.empty hs)

theorem lineDown_of_lineDownEvent {s t : State} (hline : t.line.data = .idle ∧ t.line.manage = .idle ∧
    t.line.voice = List.replicate 16 .idle) (hload : t.load = loadingLineDown s.load) (hsch : t.sch.lineQueuesEmpty) :
    LineDown t := by
  obtain ⟨hdata, hmanage, hvoice⟩ := hline
  refine ⟨by rw [hload]; rfl, by rw [hload]; rfl, fun d => by rw [hload, loadingLineDown_guard],
    ⟨hdata, hmanage, fun c hc => ?_⟩, hsch⟩
  rw [hvoice] at hc
  exact List.eq_of_mem_replicate hc

theorem reset_lineDown : LineDown State.reset where
  own := rfl
  tx := rfl
  guards d := by cases d <;> rfl
  contexts := ⟨rfl, rfl, fun _ hc => List.eq_of_mem_replicate hc⟩
  queues := ⟨rfl, rfl, rfl⟩

theorem OutsideRunOk.retrainFromRun {s : State} (h : OutsideRunOk s) (c : Cause) : OutsideRunOk (retrainFromRun c s) := by
  by_cases hrun : s.inRun = true
  · refine outsideRunOk_iff.mpr fun _ => lineDown_of_lineDownEvent (s := s) ?_ (retrainFromRun_load hrun c)
      (retrainFromRun_queues hrun c)
    rw [retrainFromRun_line hrun]
    exact ⟨rfl, rfl, rfl⟩
  · rwa [retrainFromRun_of_not_run hrun]

theorem OutsideRunOk.stopLine {s : State} (h : OutsideRunOk s) : OutsideRunOk (stopLine s) := by
  refine outsideRunOk_iff.mpr fun _ => ?_
  by_cases hrun : s.inRun = true
  · refine lineDown_of_lineDownEvent (s := s) ?_ (stopLine_load hrun) (stopLine_queues hrun)
    rw [stopLine_line hrun]
    exact ⟨rfl, rfl, rfl⟩
  · have e := stopLine_sameLine_of_not_run hrun
    have hdown := outsideRunOk_iff.mp h (mt State.inRun_iff.mpr hrun)
    exact hdown.of_same (by rw [e.line]; rfl) (by rw [e.line]; rfl) (by rw [e.line]; rfl) e.load (e.empty (by simp))

theorem OutsideRunOk.in_run_of_tx {s : State} (h : OutsideRunOk s) (htx : s.load.tx ≠ .none) : s.line.state = .run :=
  not_not.mp fun hs => htx (h.tx hs)

theorem OutsideRunOk.in_run_of_own {s : State} (h : OutsideRunOk s) (hown : s.load.own ≠ .none) : s.line.state = .run :=
  not_not.mp fun hs => hown (h.own hs)

theorem cutbackTest_of_not_run {s : State} (h : s.line.state ≠ .run) : cutbackTest s = s := by
  rcases cutbackTest_cases s with ⟨e, -⟩ | ⟨hn, -, -⟩
  · exact e
  · exact absurd (cutbackNeeded_iff.mp hn).2.1 h

theorem OutsideRunOk.cutbackTest {s : State} (h : OutsideRunOk s) : OutsideRunOk (cutbackTest s) := by
  by_cases hrun : s.line.state = .run
  · exact outsideRunOk_of_run (by simpa using hrun)
  · rwa [cutbackTest_of_not_run hrun]

theorem OutsideRunOk.of_lineQueues {s t : State} (h : OutsideRunOk s) (hline : t.line = s.line) (hload : t.load = s.load)
    (hq : SameLineQueues s t) : OutsideRunOk t :=
  outsideRunOk_iff.mpr fun ht =>
    (outsideRunOk_iff.mp h (hline ▸ ht)).of_same (by rw [hline]) (by rw [hline]) (by rw [hline]) hload hq.empty

theorem OutsideRunOk.writeParams {s : State} (h : OutsideRunOk s) (start count : Nat) (entries : List Bytes) :
    OutsideRunOk (writeParams start count entries s) := by
  refine OutsideRunOk.of_line ?_ (writeParams_sameLine start count entries s)
  have htold : OutsideRunOk (tellScheduler (wroteParam start count) (tellRate (wroteParam start count)
      (s.modAgent fun a => { a with params := storeParams a.params start entries }))) :=
    h.of_lineQueues (by simp) (by simp) (.trans (.of_sch (by simp)) (tellScheduler_lineQueues _ _))
  unfold tellLoading
  split
  · exact htold.cutbackTest
  · exact htold

theorem outsideRunOk_lineKept : LineKept (fun _ => True) OutsideRunOk where
  quiet e h := h.of_line e
  ticked _ h := ⟨h.own, h.tx, h.guards, h.contexts, h.queues⟩
  advanced _ _ h := ⟨h.own, h.tx, h.guards, h.contexts, h.queues⟩
  heard s hrun _ := outsideRunOk_of_run (by simpa [restartSilence] using State.inRun_iff.mp hrun)
  context lane _ s hrun _ := outsideRunOk_of_run (by cases lane <;> exact State.inRun_iff.mp hrun)
  retrained c _ h := h.retrainFromRun c
  stopped _ h := h.stopLine
  training s hs h := outsideRunOk_iff.mpr fun _ =>
    (outsideRunOk_iff.mp h (by rcases hs with e | e <;> simp [e])).of_same rfl rfl rfl rfl id
  failed n s hs h := outsideRunOk_iff.mpr fun _ =>
    have e := trainingFailed_sameLine n s
    (outsideRunOk_iff.mp h (by simp [hs])).of_same (by rw [e.line]; rfl) (by rw [e.line]; rfl) (by rw [e.line]; rfl)
      e.load (e.empty (by simp))
  trained r lv s _ _ _ _ := outsideRunOk_of_run (by rw [enterRun_line])
  margins _ s hrun _ := outsideRunOk_of_run (by simpa using State.inRun_iff.mp hrun)
  confirmed o s ho h := outsideRunOk_of_run (h.in_run_of_own (by simp [ho]))
  ended _ _ h := ⟨fun _ => rfl, h.tx, h.guards, h.contexts, h.queues⟩
  offerSwitched o s ho h := outsideRunOk_of_run (by simpa using h.in_run_of_own (by simp [ho]))
  accepted o s hrun _ _ _ := outsideRunOk_of_run (by simpa using State.inRun_iff.mp hrun)
  farSwitched f s hf h := outsideRunOk_of_run (by simpa using h.in_run_of_tx (by simp [hf]))
  cutbackSwitched c s hc h := outsideRunOk_of_run (by simpa using h.in_run_of_tx (by simp [hc]))
  answered c s hc h := outsideRunOk_of_run (h.in_run_of_tx (by simp [hc]))
  countdown _ _ h := ⟨h.own, h.tx, h.guards, h.contexts, h.queues⟩
  mode m s h := OutsideRunOk.of_line (OutsideRunOk.cutbackTest (h.of_lineQueues (by simp) (by simp)
    (.trans (.of_sch (by simp)) (setShedLevel_lineQueues _ _)))) (enterMode_sameLine m s)
  thresh _ _ h := ⟨h.own, h.tx, h.guards, h.contexts, h.queues⟩
  params _ _ _ _ _ h := h.writeParams _ _ _
  lineReset s _ := outsideRunOk_iff.mpr fun _ =>
    ⟨rfl, rfl, reset_lineDown.guards, reset_lineDown.contexts, ⟨rfl, rfl, rfl⟩⟩
  partReset s _ := outsideRunOk_iff.mpr fun _ =>
    ⟨rfl, rfl, reset_lineDown.guards, reset_lineDown.contexts, ⟨rfl, rfl, rfl⟩⟩
  powerOn := outsideRunOk_iff.mpr fun _ => reset_lineDown

/-! ## Schedules -/

theorem SchedulesOk.of_same {s t : State} (h : SchedulesOk s) (hsched : t.track.sched = s.track.sched)
    (hprot : t.load.prot = s.load.prot) : SchedulesOk t := by
  rw [SchedulesOk, hsched, hprot]
  exact h

theorem schedulesOk_of_none {t : State} (hsched : t.track.sched = ⟨none, none⟩)
    (hguard : ∀ d, (t.load.prot.get d).guard = none) : SchedulesOk t := by
  intro d
  rw [hsched, hguard d]
  cases d <;> rfl

theorem Dirs.get_set {α : Type} (x : Dirs α) (d e : Direction) (v : α) :
    (x.set d v).get e = if e = d then v else x.get e := by
  cases d <;> cases e <;> rfl

theorem SchedulesOk.installProtection {s : State} (h : SchedulesOk s) (d : Direction) (p : Protection) :
    SchedulesOk (installProtection d p s) := by
  intro e
  rw [installProtection_sched, installProtection_load, Dirs.get_set, Dirs.get_set]
  split
  · cases p.guard <;> rfl
  · exact h e

theorem SchedulesOk.guardCountdown {s : State} (h : SchedulesOk s) (d : Direction) : SchedulesOk (guardCountdown d s) := by
  intro e
  have hload : (Machine.guardCountdown d s).load = s.load := rfl
  have hsched : (Machine.guardCountdown d s).track.sched =
      s.track.sched.set d ((s.track.sched.get d).map fun x => x.countdown s.line.symbolCount) := rfl
  rw [hload, hsched, Dirs.get_set]
  split
  · subst_vars
    rw [← h, Option.map_map]
    rfl
  · exact h e

theorem SchedulesOk.recompute {s : State} (h : SchedulesOk s) : SchedulesOk (recompute s) := h.of_same (by simp) (by simp)

theorem SchedulesOk.switchFarChange {s : State} (h : SchedulesOk s) (f : FarPending) : SchedulesOk (switchFarChange f s) := by
  obtain ⟨u, hu, e⟩ := switchFarChange_sameLine f s
  have hin : SchedulesOk (s.modLoad fun l => { l with txLoads := f.table, tx := .none }) := h
  have hu' : SchedulesOk u := by
    refine SchedulesOk.of_same (SchedulesOk.recompute ?_) hu.sched (by rw [hu.load])
    split
    · exact hin
    · exact hin.installProtection _ _
  rw [e]
  exact hu'.of_same (cutbackTest_sched u) (cutbackTest_prot u)

theorem loadingMargins_sched (ratios : List Byte) (s : State) :
    (loadingMargins ratios s).track.sched = s.track.sched := by
  unfold loadingMargins buildOffer
  dsimp only
  repeat' split
  all_goals simp

theorem schedulesOk_lineKept : LineKept (fun _ => True) SchedulesOk where
  quiet e h := h.of_same e.sched (by rw [e.load])
  ticked _ h := h
  advanced _ _ h := h
  heard _ _ h := h
  context _ _ _ _ h := h
  retrained c s h := by
    by_cases hrun : s.inRun = true
    · exact schedulesOk_of_none (retrainFromRun_sched hrun c) fun d => by
        rw [retrainFromRun_load hrun, loadingLineDown_guard]
    · rwa [retrainFromRun_of_not_run hrun]
  stopped s h := by
    by_cases hrun : s.inRun = true
    · exact schedulesOk_of_none (stopLine_sched hrun) fun d => by rw [stopLine_load hrun, loadingLineDown_guard]
    · have e := stopLine_sameLine_of_not_run hrun
      exact h.of_same e.sched (by rw [e.load]; rfl)
  training _ _ h := h
  failed n s _ h :=
    have e := trainingFailed_sameLine n s
    h.of_same e.sched (by rw [e.load]; rfl)
  trained r lv s _ _ _ _ := by
    refine schedulesOk_of_none ?_ fun d => ?_
    · rw [enterRun, cutbackTest_sched]
      simp [clearSchedules]
    · rw [enterRun, cutbackTest_prot]
      cases d <;> simp [installTrained, Dirs.get]
  margins ratios s _ h := h.of_same (loadingMargins_sched ratios s) (loadingMargins_rates ratios s).prot
  confirmed _ _ _ h := h
  ended _ _ h := h
  offerSwitched o s _ h := by
    have hin : SchedulesOk (s.modLoad fun l =>
      { l with rxLoads := o.table, own := .none, holdoff := 1, failures := 0 }) := h
    refine SchedulesOk.of_same (SchedulesOk.recompute ?_) (switchOffer_sameLine o s).sched
      (by rw [(switchOffer_sameLine o s).load])
    split
    · exact hin
    · exact hin.installProtection _ _
  accepted _ _ _ _ _ h := h.of_same (by simp) (by simp [acceptOffer])
  farSwitched f _ _ h := h.switchFarChange f
  cutbackSwitched c s _ h := by
    obtain ⟨u, hu, e⟩ := switchCutback_sameLine c s
    rw [e]
    exact h.of_same ((cutbackTest_sched u).trans (hu.sched.trans (by simp)))
      ((cutbackTest_prot u).trans (by rw [hu.load]; simp))
  answered _ _ _ h := h
  countdown d _ h := h.guardCountdown d
  mode m s h :=
    have e := enterMode_sameLine m s
    h.of_same (e.sched.trans (by simp)) (by rw [e.load, cutbackTest_prot]; simp)
  thresh _ _ h := h
  params start count entries s _ h := by
    have e := writeParams_sameLine start count entries s
    refine h.of_same (e.sched.trans (by simp)) ?_
    rw [e.load]
    unfold tellLoading
    split
    · rw [cutbackTest_prot]; simp
    · simp
  lineReset s _ := schedulesOk_of_none rfl reset_lineDown.guards
  partReset s _ := schedulesOk_of_none rfl reset_lineDown.guards
  powerOn := schedulesOk_of_none rfl reset_lineDown.guards

/-- Settles O13: three invariants of the operations on the line. -/
theorem lineStateGovernsWhatStands : Obligations.LineStateGovernsWhatStands :=
  ⟨fun _ _ hs hstep => timersOk_lineKept.step (fun _ _ _ => trivial) hs hstep,
    fun _ _ hs hstep => outsideRunOk_lineKept.step (fun _ _ _ => trivial) hs hstep,
    fun _ _ hs hstep => schedulesOk_lineKept.step (fun _ _ _ => trivial) hs hstep⟩

end Sys2Proof.Machine
end

section
/-! PROOFS. What a step does to the event unit and the home port: it is a chain of occurrences taken, notices offered and
steps that touch neither (R148, R150), but for the few operations that change them on their own. -/

namespace Sys2Proof.Machine

/-! ## Chains of occurrences and notices -/

/-- `t` has the flags, the log, the home port's queues and the masks of `s`, has no sleep that `s` has not, and a PART reset
due in `s` is due in it. -/
structure SameEvents (s t : State) : Prop where
  flags : t.evt.pending = s.evt.pending
  log : t.evt.log = s.evt.log
  asleep : t.evt.asleep = true → s.evt.asleep = true
  mgmt : t.cls.mgmtQueue = s.cls.mgmtQueue
  home : t.cls.homeQueue = s.cls.homeQueue
  sending : t.cls.sending = s.cls.sending
  params : t.agent.params = s.agent.params
  partition : t.agent.partition = s.agent.partition
  part : .partReset ∈ s.due → .partReset ∈ t.due

/-- `t` is reached from `s` by occurrences taken, notices offered, and steps that touch neither the event unit nor the home
port. -/
inductive Stirs : State → State → Prop
  | same {s t : State} (h : SameEvents s t) : Stirs s t
  | occurrence (e : Event) (s : State) : Stirs s (takeOccurrence e s)
  | notice (s : State) : Stirs s (offerNotice s)
  | trans {s t u : State} (h : Stirs s t) (k : Stirs t u) : Stirs s u

theorem Stirs.refl (s : State) : Stirs s s := .same ⟨rfl, rfl, id, rfl, rfl, rfl, rfl, rfl, id⟩

theorem Stirs.foldl {α : Type} {f : State → α → State} (h : ∀ t a, Stirs t (f t a)) (l : List α) (s : State) :
    Stirs s (l.foldl f s) := by
  induction l generalizing s with
  | nil => exact .refl s
  | cons a l ih => exact (h s a).trans (ih _)

theorem countWatch_stirs (i : Ix4) (s : State) : Stirs s (countWatch i s) := by
  refine .same ?_
  constructor <;> simp [countWatch]

theorem fireWith_stirs {r : Event → State → State} (h : ∀ e t, Stirs t (r e t)) (p : WatchSource → Bool) (s : State) :
    Stirs s (fireWith r p s) := by
  refine .foldl (fun t i => ?_) _ s
  dsimp only
  split
  · split
    · exact (countWatch_stirs i t).trans (h _ _)
    · exact countWatch_stirs i t
  · exact .refl t

theorem raise_stirs (e : Event) (s : State) : Stirs s (raise e s) := by
  have hat : ∀ n e s, Stirs s (raiseAt n e s) := by
    intro n
    induction n with
    | zero => exact fun _ s => .refl s
    | succ n ih => exact fun e s => ((Stirs.occurrence e s).trans (.notice _)).trans (fireWith_stirs ih _ _)
  exact hat 5 e s

theorem enterCondition_stirs (c : Condition) (s : State) : Stirs s (enterCondition c s) :=
  fireWith_stirs raise_stirs _ s

theorem seeMessage_stirs (b : Bool) (k : MsgKind) (s : State) : Stirs s (seeMessage b k s) :=
  fireWith_stirs raise_stirs _ s

theorem countTimeWatches_stirs (s : State) : Stirs s (countTimeWatches s) := fireWith_stirs raise_stirs _ s

section
variable {s t : State}

theorem Stirs.raise (h : Stirs s t) (e : Event) : Stirs s (raise e t) := h.trans (raise_stirs e t)

theorem Stirs.enter (h : Stirs s t) (c : Condition) : Stirs s (enterCondition c t) := h.trans (enterCondition_stirs c t)

end

/-! ## What a chain keeps -/

theorem KindSet.has_insert (x : KindSet) (k j : Kind) : (x.insert k).has j = (x.has j || decide (k = j)) := by
  have hbit : k.bit.has j = decide (k = j) := by cases k <;> cases j <;> rfl
  simp only [KindSet.insert, KindSet.has, BitVec.getLsbD_or] at hbit ⊢
  rw [hbit]

@[simp] theorem offerNotice_evt (s : State) :
    (offerNotice s).evt.pending = s.evt.pending ∧ (offerNotice s).evt.log = s.evt.log ∧
      (offerNotice s).evt.asleep = s.evt.asleep ∧ (offerNotice s).evt.farPending = s.evt.farPending ∧
      (offerNotice s).evt.wakePin = s.evt.wakePin ∧ (offerNotice s).evt.overwritten = s.evt.overwritten ∧
      (offerNotice s).evt.reportAge = s.evt.reportAge := by
  unfold offerNotice
  split
  · split
    · have hevt := (mgmtOffer_evt ‹_›).1
      simp [hevt]
    · simp
  · simp

theorem takeOccurrence_evt (e : Event) (s : State) :
    (takeOccurrence e s).evt.pending = s.evt.pending.insert e.kind ∧
      (takeOccurrence e s).evt.asleep = (s.evt.asleep && !s.params.wakeMask.has e.kind) ∧
      (takeOccurrence e s).cls = s.cls := by
  have hlog : ∀ t : State, (writeLog e t).evt.pending = t.evt.pending ∧ (writeLog e t).evt.asleep = t.evt.asleep ∧
      (writeLog e t).cls = t.cls := by
    intro t
    unfold writeLog
    dsimp only
    refine ⟨?_, ?_, rfl⟩ <;> simp only [State.modEvt_evt] <;> split <;> rfl
  have hmark : (s.modEvt (markEvent e.kind s.params)).evt.asleep = (s.evt.asleep && !s.params.wakeMask.has e.kind) := by
    simp only [State.modEvt_evt, markEvent]
    cases s.evt.asleep <;> cases s.params.wakeMask.has e.kind <;> rfl
  unfold takeOccurrence
  dsimp only
  split
  · obtain ⟨hpending, hasleep, hcls⟩ := hlog (s.modEvt (markEvent e.kind s.params))
    exact ⟨hpending, hasleep.trans hmark, hcls⟩
  · exact ⟨rfl, hmark, rfl⟩

theorem Stirs.params {s t : State} (h : Stirs s t) : t.agent.params = s.agent.params := by
  induction h with
  | same h => exact h.params
  | occurrence e s => exact congrArg Agent.params (takeOccurrence_quiet e s).agent
  | notice s => simp
  | trans _ _ ih ik => exact ik.trans ih

theorem Stirs.partition {s t : State} (h : Stirs s t) : t.agent.partition = s.agent.partition := by
  induction h with
  | same h => exact h.partition
  | occurrence e s => exact congrArg Agent.partition (takeOccurrence_quiet e s).agent
  | notice s => simp
  | trans _ _ ih ik => exact ik.trans ih

theorem Stirs.flag {s t : State} (h : Stirs s t) {k : Kind} (hk : s.evt.pending.has k = true) :
    t.evt.pending.has k = true := by
  induction h with
  | same h => rwa [h.flags]
  | occurrence e s => rw [(takeOccurrence_evt e s).1, KindSet.has_insert, hk, Bool.true_or]
  | notice s => simpa using hk
  | trans _ _ ih ik => exact ik (ih hk)

/-- A set meets a mask with a kind added to it only where it met it, or where the mask has the kind. -/
theorem KindSet.insert_and_eq_zero {x m : KindSet} {k : Kind} (h : x &&& m = 0) (hk : m.has k = false) :
    x.insert k &&& m = 0 := by
  have hbit : k.bit &&& m = 0 := by
    refine BitVec.eq_of_getLsbD_eq fun i hi => ?_
    have hpos : k.bit.getLsbD i = decide (i = k.num - 1) := by
      revert i
      cases k <;> decide
    rw [BitVec.getLsbD_and, hpos]
    by_cases hik : i = k.num - 1
    · subst hik
      simpa [KindSet.has] using hk
    · simp [hik]
  calc x.insert k &&& m = (x &&& m) ||| (k.bit &&& m) := BitVec.eq_of_getLsbD_eq fun i _ => by
        simp [KindSet.insert, Bool.and_or_distrib_right]
    _ = 0 := by rw [h, hbit]; rfl

theorem Stirs.awake {s t : State} (h : Stirs s t) (hs : HostAwakeOk s) : HostAwakeOk t := by
  induction h with
  | same h =>
    intro ht
    simpa [h.flags, h.params] using hs (h.asleep ht)
  | occurrence e s =>
    obtain ⟨hpending, hasleep, -⟩ := takeOccurrence_evt e s
    intro ht
    rw [hasleep, Bool.and_eq_true, Bool.not_eq_true'] at ht
    obtain ⟨hsleep, hmask⟩ := ht
    have hparams : (takeOccurrence e s).params = s.params := congrArg Agent.params (takeOccurrence_quiet e s).agent
    rw [hpending, hparams]
    exact KindSet.insert_and_eq_zero (hs hsleep) hmask
  | notice s => simpa [HostAwakeOk] using hs
  | trans _ _ ih ik => exact ik (ih hs)

/-- N in range, and the log within what N leaves it. -/
def LogOk (s : State) : Prop :=
  s.agent.partition ≤ 8 ∧ s.evt.log.length ≤ Config.logCapacity s.agent.partition

theorem writeLog_length (e : Event) (s : State) (h : LogOk s) :
    (writeLog e s).evt.log.length ≤ Config.logCapacity s.agent.partition := by
  obtain ⟨hpart, hlen⟩ := h
  have hroom : 64 ≤ Config.logCapacity s.agent.partition := by
    unfold Config.logCapacity
    omega
  unfold writeLog
  dsimp only
  rw [State.modEvt_evt]
  split <;> simp only [List.length_append, List.length_drop, List.length_singleton] <;> omega

theorem Stirs.logOk {s t : State} (h : Stirs s t) (hs : LogOk s) : LogOk t := by
  induction h with
  | same h => simpa [LogOk, h.partition, h.log] using hs
  | occurrence e s =>
    have hpart : (takeOccurrence e s).agent.partition = s.agent.partition :=
      congrArg Agent.partition (takeOccurrence_quiet e s).agent
    refine ⟨hpart ▸ hs.1, ?_⟩
    rw [hpart]
    unfold takeOccurrence
    dsimp only
    split
    · exact writeLog_length e _ hs
    · exact hs.2
  | notice s => simpa [LogOk] using hs
  | trans _ _ ih ik => exact ik (ih hs)

/-! ## The home port -/

/-- R82, R83: both egress queues within their depths. -/
def EgressOk (s : State) : Prop := s.cls.mgmtQueue.length ≤ 8 ∧ s.cls.homeQueue.length ≤ 32

theorem SameEvents.homePort {s t : State} (h : SameEvents s t) (hs : HomePortOk s) : HomePortOk t := by
  obtain ⟨hmgmt, hhome, hfree⟩ := hs
  refine ⟨fun f hf => ?_, fun f hf => ?_, fun hnone hdue => ?_⟩
  · rw [h.mgmt]
    exact hmgmt f (h.sending ▸ hf)
  · rw [h.home]
    exact hhome f (h.sending ▸ hf)
  · rw [h.mgmt, h.home]
    exact hfree (h.sending ▸ hnone) fun hin => hdue (h.part hin)

/-- A port that takes its next frame is sending the oldest of a queue, or finds both empty. -/
theorem portTake_homePort {t : State} {c : Classifier} (hcls : t.cls = portTake c)
    (hmgmt : ∀ f, c.sending = some (.mgmt f) → c.mgmtQueue.head? = some f)
    (hhome : ∀ f, c.sending = some (.home f) → c.homeQueue.head? = some f) : HomePortOk t := by
  rcases hsend : c.sending with _ | x
  · rcases hm : c.mgmtQueue with _ | ⟨f, fs⟩
    · rcases hh : c.homeQueue with _ | ⟨f, fs⟩ <;> simp only [portTake, hsend, hm, hh] at hcls <;>
        constructor <;> simp [hcls, hsend, hm, hh]
    · simp only [portTake, hsend, hm] at hcls
      constructor <;> simp [hcls]
  · simp only [portTake, hsend] at hcls
    constructor <;> rw [hcls]
    · exact hmgmt
    · exact hhome
    · simp [hsend]

theorem HomePortOk.of_cls {s t : State} (hs : HomePortOk s) (hcls : t.cls = s.cls) (hdue : t.due = s.due) :
    HomePortOk t := by
  obtain ⟨hmgmt, hsend, hfree⟩ := hs
  refine ⟨?_, ?_, ?_⟩ <;> rw [hcls]
  · exact hmgmt
  · exact hsend
  · rwa [hdue]

theorem mgmtOffer_egress {f : MgmtFrame} {s t : State} (h : mgmtOffer f s = some t) (hs : EgressOk s) : EgressOk t := by
  obtain ⟨hlen, hhome⟩ := hs
  unfold mgmtOffer at h
  split at h
  · rename_i hroom
    cases h
    have hdepth : s.cls.mgmtQueue.length < 8 := hroom
    refine ⟨?_, by simpa using hhome⟩
    simp only [State.modCls_cls, portTake_mgmtQueue, List.length_append, List.length_singleton]
    omega
  · cases h

theorem mgmtOffer_homePort {f : MgmtFrame} {s t : State} (h : mgmtOffer f s = some t) (hs : HomePortOk s) :
    HomePortOk t := by
  unfold mgmtOffer at h
  split at h
  · cases h
    exact portTake_homePort rfl (fun g hg => by simp [hs.mgmt g hg]) hs.home
  · cases h

theorem Stirs.egress {s t : State} (h : Stirs s t) (hs : EgressOk s) : EgressOk t := by
  induction h with
  | same h => simpa [EgressOk, h.mgmt, h.home] using hs
  | occurrence e s => rwa [EgressOk, (takeOccurrence_evt e s).2.2]
  | notice s =>
    unfold offerNotice
    split
    · split
      · rename_i ht
        have hoffered := mgmtOffer_egress ht hs
        exact hoffered
      · exact hs
    · exact hs
  | trans _ _ ih ik => exact ik (ih hs)

theorem Stirs.homePort {s t : State} (h : Stirs s t) (hs : HomePortOk s) : HomePortOk t := by
  induction h with
  | same h => exact h.homePort hs
  | occurrence e s => exact hs.of_cls (takeOccurrence_evt e s).2.2 (takeOccurrence_quiet e s).due
  | notice s =>
    unfold offerNotice
    split
    · split
      · rename_i ht
        exact (mgmtOffer_homePort ht hs).of_cls rfl rfl
      · exact hs.of_cls rfl rfl
    · exact hs
  | trans _ _ ih ik => exact ik (ih hs)

end Sys2Proof.Machine
end

section
/-! PROOFS. Every operation of the part as a chain of occurrences and notices, but for those that change the event unit or the
home port on their own; and the induction over the parts of a step that this gives. -/

namespace Sys2Proof.Machine

section
variable {s t : State}

theorem Stirs.modLine (h : Stirs s t) (f : LinePort → LinePort) : Stirs s (t.modLine f) :=
  h.trans (.same (by constructor <;> simp))

theorem Stirs.modTrack (h : Stirs s t) (f : Tracker → Tracker) : Stirs s (t.modTrack f) :=
  h.trans (.same (by constructor <;> simp))

theorem Stirs.modSch (h : Stirs s t) (f : Scheduler → Scheduler) : Stirs s (t.modSch f) :=
  h.trans (.same (by constructor <;> simp))

theorem Stirs.countLine (h : Stirs s t) (f : LineCounters → LineCounters) : Stirs s (t.countLine f) :=
  h.trans (.same (by constructor <;> simp))

theorem Stirs.countTraffic (h : Stirs s t) (f : TrafficCounters → TrafficCounters) : Stirs s (t.countTraffic f) :=
  h.trans (.same (by constructor <;> simp))

theorem Stirs.makeDue (h : Stirs s t) (d : Due) : Stirs s (t.makeDue d) :=
  h.trans (.same (by constructor <;> simp +contextual [State.makeDue]))

theorem Stirs.modInterval (h : Stirs s t) (f : Interval → Interval) : Stirs s (t.modInterval f) :=
  h.trans (.same (by constructor <;> simp))

theorem Stirs.send (h : Stirs s t) (c : BusCommand) : Stirs s (t.send c) := h.trans (.same (by constructor <;> simp))

theorem Stirs.test (h : Stirs s t) : Stirs s (cutbackTest t) := h.trans (.same (by constructor <;> simp))

theorem Stirs.setShed (h : Stirs s t) (n : Nat) : Stirs s (setShedLevel n t) :=
  h.trans (.same (by constructor <;> simp))

end

/-! ## The line -/

theorem recompute_stirs (s : State) : Stirs s (recompute s) := by
  have hrate : Stirs s (s.setRate (rateRecord s)) := .same (by constructor <;> simp)
  unfold recompute
  dsimp only
  split
  · split
    · exact hrate
    · exact hrate.enter _
  · exact hrate

theorem leaveRun_stirs (dest : LineState) (s : State) : Stirs s (leaveRun dest s) :=
  .trans (.same (by constructor <;> simp)) (recompute_stirs _)

theorem raiseRetrain_stirs (c : Cause) (s : State) : Stirs s (raiseRetrain c s) :=
  .raise (.same (by constructor <;> simp)) _

theorem retrainFromRun_stirs (c : Cause) (s : State) : Stirs s (retrainFromRun c s) := by
  unfold retrainFromRun
  split
  · exact .trans (.modLine (.send (.send ((raise_stirs _ s).trans (leaveRun_stirs _ _)) _) _) _) (raiseRetrain_stirs c _)
  · exact .refl s

theorem trainingFailed_stirs (n : Nat) (s : State) : Stirs s (trainingFailed n s) := by
  unfold trainingFailed
  exact .modLine (.raise (.countLine (.modLine (.refl s) _) _) _) _

theorem enterRun_stirs (r : TrainedRecord) (lv : Dirs Level) (s : State) : Stirs s (enterRun r lv s) :=
  .test (.trans (.enter (.raise (.same (by constructor <;> simp)) _) _) (recompute_stirs _))

theorem stopLine_stirs (s : State) : Stirs s (stopLine s) := by
  unfold stopLine
  dsimp only
  split
  · exact .raise (.trans (.same (by constructor <;> simp)) (leaveRun_stirs _ _)) _
  · exact .same (by constructor <;> simp)

/-! ## The tracker -/

theorem trackBurst_stirs (b : Burst) (s : State) : Stirs s (trackBurst b s) := by
  unfold trackBurst
  split
  · split <;> exact .same (by constructor <;> simp)
  · split
    · exact .enter (.raise (.same (by constructor <;> simp)) _) _
    · exact .refl s

theorem takeBurst_stirs (s : State) (b : Burst) : Stirs s (takeBurst s b) := by
  unfold takeBurst
  split
  · split
    · exact .same (by constructor <;> simp)
    · exact .trans (.same (by constructor <;> simp)) (trackBurst_stirs b _)
  · exact .trans (.same (by constructor <;> simp)) (trackBurst_stirs b _)

theorem missTest_stirs (c : Word32) (s : State) : Stirs s (missTest c s) := by
  unfold missTest
  split
  · exact .refl s
  · split
    · dsimp only
      split
      · exact .raise (.same (by constructor <;> simp)) _
      · exact .same (by constructor <;> simp)
    · exact .refl s

theorem trackReport_stirs (bs : List ReportedBurst) (s : State) : Stirs s (trackReport bs s) :=
  .trans (.foldl takeBurst_stirs _ s) (missTest_stirs _ _)

theorem frameReportStep_stirs (r : FrameReport) (s : State) : Stirs s (frameReportStep r s) := by
  have tracked : ∀ t, SameEvents s t → Stirs s (trackReport r.bursts t) := fun t h =>
    .trans (.same h) (trackReport_stirs r.bursts t)
  unfold frameReportStep reportInRun
  split
  · exact .refl s
  · exact tracked _ (by constructor <;> simp)
  · exact (tracked ((s.modLine fun l => restartSilence (advanceLine r.superframe l)).modMon (addDamage r.damaged.toNat))
      (by constructor <;> simp)).trans (.same (by constructor <;> simp +contextual))
  · exact .refl s

/-! ## The reload exchange -/

theorem installProtection_stirs (d : Direction) (p : Protection) (s : State) : Stirs s (installProtection d p s) := by
  unfold installProtection
  dsimp only
  split
  · exact .enter (.same (by constructor <;> simp)) _
  · exact .same (by constructor <;> simp)

theorem offerFailed_stirs (n : Nat) (o : OwnOffer) (s : State) : Stirs s (offerFailed n o s) := by
  unfold offerFailed marginRetrain
  dsimp only
  have hraised : ∀ e t, SameEvents s t → Stirs s (raise e t) := fun e t h => .raise (.same h) e
  split
  · exact (hraised _ _ (by constructor <;> simp)).trans (retrainFromRun_stirs _ _)
  · exact hraised _ _ (by constructor <;> simp)

theorem switchOffer_stirs (o : OwnOffer) (s : State) : Stirs s (switchOffer o s) := by
  have hended : Stirs s (s.modLoad fun l => { l with rxLoads := o.table, own := .none, holdoff := 1, failures := 0 }) :=
    .same (by constructor <;> simp)
  unfold switchOffer
  dsimp only
  refine .raise (.modInterval (.countLine (.trans ?_ (recompute_stirs _)) _) _) _
  split
  · exact hended
  · exact (hended.trans (installProtection_stirs _ _ _)).modTrack _

theorem switchFarChange_stirs (f : FarPending) (s : State) : Stirs s (switchFarChange f s) := by
  have hended : Stirs s (s.modLoad fun l => { l with txLoads := f.table, tx := .none }) := .same (by constructor <;> simp)
  unfold switchFarChange
  dsimp only
  refine .test (.raise (.countLine (.trans ?_ (recompute_stirs _)) _) _)
  split
  · exact hended
  · exact hended.trans (installProtection_stirs _ _ _)

theorem switchCutback_stirs (c : CutbackOut) (s : State) : Stirs s (switchCutback c s) := by
  unfold switchCutback
  dsimp only
  exact .test (.raise (.countLine (.trans (.same (by constructor <;> simp)) (recompute_stirs _)) _) _)

theorem messageStep_stirs (k : MsgKind) (tag : Byte) (body : Bytes) (s : State) : Stirs s (messageStep k tag body s) := by
  have decline : ∀ n, Stirs s (declineAnswer n s) := by
    intro n
    unfold declineAnswer
    split
    · split
      · exact offerFailed_stirs _ _ _
      · exact .same (by constructor <;> simp)
    · split
      · exact offerFailed_stirs _ _ _
      · exact .same (by constructor <;> simp)
    · exact .same (by constructor <;> simp)
  unfold messageStep
  split
  case h_4 =>
    split
    · split
      · exact decline _
      · exact .same (by constructor <;> simp)
    · exact .refl s
  all_goals
    repeat' split
    all_goals exact .same (by constructor <;> simp)

/-! ## Ports and calls -/

theorem raiseRingDone_stirs (p : PortId) (n : Nat) (s : State) : Stirs s (raiseRingDone p n s) :=
  .raise (.same (by constructor <;> simp)) _

theorem ringPhaseStep_stirs (p : PortId) (s : State) : Stirs s (ringPhaseStep p s) := by
  unfold ringPhaseStep
  split
  · exact .refl s
  · split
    · exact .same (by constructor <;> simp)
    · exact .trans (.same (by constructor <;> simp)) (raiseRingDone_stirs _ _ _)

theorem completeDigit_stirs (p : PortId) (s : State) : Stirs s (completeDigit p s) := by
  unfold completeDigit
  dsimp only
  split
  · exact .same (by constructor <;> simp)
  · split
    · exact .raise (.same (by constructor <;> simp)) _
    · exact .same (by constructor <;> simp)

theorem breakPulsesStep_stirs (p : PortId) (s : State) : Stirs s (breakPulsesStep p s) := by
  unfold breakPulsesStep
  split
  · exact completeDigit_stirs p s
  · exact .refl s

theorem interdigitStep_stirs (p : PortId) (s : State) : Stirs s (interdigitStep p s) := by
  unfold interdigitStep
  split
  · exact completeDigit_stirs p s
  · exact .refl s

theorem hangUpStep_stirs (p : PortId) (s : State) : Stirs s (hangUpStep p s) := by
  unfold hangUpStep
  split
  · exact .raise (.same (by constructor <;> simp)) _
  · exact .refl s

theorem liftPort_stirs (p : PortId) (s : State) : Stirs s (liftPort p s) :=
  .enter (.raise (.same (by constructor <;> simp)) _) _

theorem breakEnds_stirs (p : PortId) (s : State) : Stirs s (breakEnds p s) := by
  unfold breakEnds
  split
  · exact .same (by constructor <;> simp)
  · exact .raise (.same (by constructor <;> simp)) _

theorem acceptHook_stirs (p : PortId) (s : State) : Stirs s (acceptHook p s) := by
  have off : ∀ t, Stirs t (acceptOffHook p t) := by
    intro t
    unfold acceptOffHook
    split
    · exact liftPort_stirs p t
    · exact .trans (.same (by constructor <;> simp)) (liftPort_stirs p _)
    · exact breakEnds_stirs p t
    · exact .refl t
    · exact .refl t
  unfold acceptHook
  dsimp only
  split
  · exact .refl s
  · split
    · exact .trans (.same (by constructor <;> simp)) (off _)
    · exact .same (by constructor <;> simp)

theorem feedLossClose_stirs (s : State) : Stirs s (feedLossClose s) := by
  unfold feedLossClose
  split
  · exact .refl s
  · exact .raise (.same (by constructor <;> simp)) _
  · exact .raise (.raise (.same (by constructor <;> simp)) _) _

theorem loseFeed_stirs (s : State) : Stirs s (loseFeed s) := by
  have hlost : ∀ t : State, Stirs t ((t.modPort .p2 fun q =>
      { q.endRing .unfed with pulses := 0, digits := [], stable := 0 }).setDue (t.due.filter fun d => !d.ofPort .p2)) :=
    fun t => .same (by constructor <;> simp +contextual [Due.ofPort])
  unfold loseFeed
  dsimp only
  refine .trans (.trans (hlost s) ?_) (feedLossClose_stirs _)
  split
  · exact raiseRingDone_stirs _ _ _
  · exact .refl _

theorem setPort2Feed_stirs (on : Bool) (s : State) : Stirs s (setPort2Feed on s) := by
  unfold setPort2Feed
  split
  · split
    · exact .refl s
    · exact loseFeed_stirs s
  · split
    · exact .same (by constructor <;> simp [returnFeed])
    · exact .refl s

theorem vqOffer_stirs (f : VqFrame) (s : State) : Stirs s (vqOffer f s) := by
  unfold vqOffer vqDrop countVqDrop
  dsimp only
  split
  · exact .same (by constructor <;> simp)
  · exact .modSch (.raise (.same (by constructor <;> simp)) _) _

theorem formFrame_stirs (p : PortId) (s : State) : Stirs s (formFrame p s) := by
  unfold formFrame
  dsimp only
  split
  · split
    · exact .trans (.same (by constructor <;> simp)) (vqOffer_stirs _ _)
    · exact .same (by constructor <;> simp)
  · exact .refl s
  · exact .refl s

theorem takePlayout_stirs (p : PortId) (s : State) : Stirs s (takePlayout p s) := by
  unfold takePlayout
  dsimp only
  split
  · split
    · split
      · exact .raise (.same (by constructor <;> simp)) _
      · exact .raise (.same (by constructor <;> simp)) _
    · split <;> exact .same (by constructor <;> simp)
  · exact .refl s
  · exact .refl s

theorem boundaryStep_stirs (p : PortId) (s : State) : Stirs s (boundaryStep p s) :=
  (formFrame_stirs p s).trans (takePlayout_stirs p _)

theorem stopRing_stirs (p : PortId) (s : State) : Stirs s (stopRing p s) := by
  unfold stopRing
  split
  · exact .trans (.same (by constructor <;> simp)) (raiseRingDone_stirs _ _ _)
  · exact .refl s

/-! ## Units -/

theorem receiveUnit_stirs (u : Bytes) (damaged : Bool) (s : State) : Stirs s (receiveUnit u damaged s) := by
  have handed : ∀ f t, Stirs t (handMessage f t) := by
    intro f t
    unfold handMessage
    split
    · exact .same (by constructor <;> simp)
    · have hseen := fun k => seeMessage_stirs true k t
      dsimp only
      split
      · exact (hseen _).countTraffic _
      · exact (hseen _).countTraffic _
      all_goals exact (hseen _).makeDue _
  have on : ∀ lane f t, Stirs t (handOn lane f t) := by
    intro lane f t
    unfold handOn
    split
    · exact .makeDue (.refl t) _
    · split
      · exact .makeDue (.refl t) _
      · exact .same (by constructor <;> simp)
    · exact handed f t
  unfold receiveUnit
  dsimp only
  split
  · exact .refl s
  split
  · exact .same (by constructor <;> simp)
  split
  · exact .refl s
  split
  · exact .same (by constructor <;> simp)
  · exact .trans (.same (by constructor <;> simp)) (on _ _ _)

theorem giveMessage_stirs (m : Message) (n : Nat) (s : State) : Stirs s (giveMessage m n s).1 := by
  unfold giveMessage
  dsimp only
  split
  · exact .trans (.same (by constructor <;> simp)) (seeMessage_stirs _ _ _)
  · exact .same (by constructor <;> simp)

theorem nextUnit_stirs (s : State) : Stirs s (nextUnit s).1 := by
  unfold nextUnit
  split
  · exact .refl s
  split
  · exact giveMessage_stirs _ _ _
  · exact .trans (.same (by constructor <;> simp)) (giveMessage_stirs _ _ _)
  · split
    · exact .same (by constructor <;> simp)
    · exact .same (by constructor <;> simp)

theorem pullUnit_stirs (s : State) : Stirs s (pullUnit s) := by
  have hnext := nextUnit_stirs s
  unfold pullUnit
  split
  · split <;> rename_i heq <;> rw [heq] at hnext <;> exact hnext.trans (.same (by constructor <;> simp))
  · exact .same (by constructor <;> simp)

/-! ## Seconds and supply -/

theorem classifySecond_stirs (s : State) : Stirs s (classifySecond s) := by
  unfold classifySecond
  dsimp only
  split
  · exact .raise (.same (by constructor <;> simp)) _
  · exact .same (by constructor <;> simp)

theorem takeAvailability_stirs (ses : Bool) (s : State) : Stirs s (takeAvailability ses s) := by
  unfold takeAvailability
  dsimp only
  split
  · exact .raise (.same (by constructor <;> simp)) _
  · exact .same (by constructor <;> simp)

theorem farReport_sameEvents (s : State) : SameEvents s (farReport s) := by
  have hmq : ∀ (m : Message) (t : State), (mqOffer m t).evt = t.evt ∧ (mqOffer m t).cls = t.cls := by simp
  unfold farReport
  dsimp only
  repeat' split
  all_goals constructor <;> simp

theorem secondStep_stirs (s : State) : Stirs s (secondStep s) := by
  unfold secondStep orderRetrain
  dsimp only
  have hbegun : Stirs s (beginSecond s) := .trans (.same (by constructor <;> simp)) (classifySecond_stirs _)
  have hcounted : Stirs s (countSecond (takeAvailability (isSes s) (beginSecond s))) :=
    .trans (.trans (hbegun.trans (takeAvailability_stirs (isSes s) _)) (.same (by constructor <;> simp)))
      (countTimeWatches_stirs _)
  have hend : ∀ t, Stirs t (dueInterval (farReport (staleSweep t))) := by
    intro t
    refine .trans (.same (t := staleSweep t) (by constructor <;> simp)) (.trans (.same (farReport_sameEvents _)) (.same ?_))
    unfold dueInterval
    split
    · constructor <;> simp +contextual
    · exact ⟨rfl, rfl, id, rfl, rfl, rfl, rfl, rfl, id⟩
  split
  · exact (hcounted.trans (retrainFromRun_stirs _ _)).trans (hend _)
  · exact hcounted.trans (hend _)

theorem enterMode_stirs (m : Mode) (s : State) : Stirs s (enterMode m s) := by
  unfold enterMode
  dsimp only
  have hentered : Stirs s (s.setSupply { s.supply with mode := m }) := .same (by constructor <;> simp)
  have htested := ((hentered.trans (recompute_stirs _)).setShed
    ((recompute (s.setSupply { s.supply with mode := m })).params.shed.get m)).test
  have hfed := fun on => htested.trans (setPort2Feed_stirs on _)
  refine .raise ?_ _
  split
  · exact (hfed _).enter _
  · exact hfed _

theorem acceptPin_stirs (p : PinId) (s : State) : Stirs s (acceptPin p s) := by
  unfold acceptPin
  dsimp only
  split
  · exact .refl s
  · rename_i level _
    have hpin : Stirs s (s.setSupply (s.supply.setPin p { s.supply.pin p with accepted := some level, stable := 0 })) :=
      .same (by constructor <;> simp)
    rcases workOutMode_cases (s.setSupply (s.supply.setPin p { s.supply.pin p with accepted := some level, stable := 0 }))
      with heq | ⟨m, -, heq⟩ <;> rw [heq]
    · exact hpin
    · exact hpin.trans (enterMode_stirs m _)

/-- What a write of parameters tells the blocks, the event unit's masks apart. -/
theorem tellBlocks_stirs (wrote : Nat → Bool) (s : State) :
    Stirs s (tellPhone wrote (tellLoading wrote (tellScheduler wrote (tellRate wrote s)))) := by
  have rate : Stirs s (tellRate wrote s) := by
    unfold tellRate
    split
    · exact recompute_stirs s
    · split
      · exact .same (by constructor <;> simp)
      · exact .refl s
  have phone : ∀ t, Stirs t (tellPhone wrote t) := by
    intro t
    unfold tellPhone
    split
    · exact setPort2Feed_stirs _ t
    · exact .refl t
  have scheduler : Stirs s (tellScheduler wrote (tellRate wrote s)) := rate.trans (.same (by constructor <;> simp))
  have loading : Stirs s (tellLoading wrote (tellScheduler wrote (tellRate wrote s))) :=
    scheduler.trans (.same (by constructor <;> simp))
  exact loading.trans (phone _)

/-! ## The parts of a step -/

theorem homeArrival_stirs (f : Bytes) (right : Bool) (s : State) : Stirs s (homeArrival f right s) := by
  have joined : Stirs s (joinRequest f s) := .trans (.same (by constructor <;> simp)) (.notice _)
  have classified : Stirs s (classifyFrame f s) := by
    refine .same ?_
    have hadmit : ∀ i t, (admitFrame i f t).cls = t.cls := by simp
    unfold classifyFrame handUpstream
    dsimp only
    split <;> constructor <;> simp
  unfold homeArrival managementArrival
  split
  · exact .same (by constructor <;> simp)
  split
  · exact .same (by constructor <;> simp)
  split
  · exact .same (by constructor <;> simp)
  split
  · split
    · exact .same (by constructor <;> simp)
    · split
      · exact joined
      · exact .same (by constructor <;> simp)
  · exact classified

theorem erase_stirs {d : Due} (hpart : d ≠ .partReset) (s : State) : Stirs s (s.setDue (s.due.erase d)) :=
  .same (by constructor <;> simp +contextual [List.mem_erase_of_ne (Ne.symm hpart)])

/-- A due step other than a PART reset and a DATA frame for the home port is a chain of occurrences. -/
theorem runDue_stirs {d : Due} (hpart : d ≠ .partReset) (hdata : ∀ f, d ≠ .arrival (.data f)) (s : State) :
    Stirs s (runDue d (s.setDue (s.due.erase d))) := by
  refine (erase_stirs hpart s).trans ?_
  generalize s.setDue (s.due.erase d) = t
  cases d <;> simp only [runDue]
  case trainingTimeout =>
    unfold trainingTimeoutStep
    split
    · exact .trans (.same (by constructor <;> simp)) (trainingFailed_stirs _ _)
    · exact .refl t
  case holdoffExpiry =>
    unfold holdoffExpiryStep
    split
    · exact .trans (.same (by constructor <;> simp)) (raiseRetrain_stirs _ _)
    · exact .refl t
  case silenceExpiry => exact retrainFromRun_stirs _ t
  case pin p => exact acceptPin_stirs p t
  case breakPulses p => exact breakPulsesStep_stirs p t
  case hangUp p => exact hangUpStep_stirs p t
  case interdigit p => exact interdigitStep_stirs p t
  case ringPhase p => exact ringPhaseStep_stirs p t
  case hook p => exact acceptHook_stirs p t
  case pacing => exact .trans (.same (by constructor <;> simp)) (.notice _)
  case secondTick => exact secondStep_stirs t
  case intervalClose => exact .same (by constructor <;> simp)
  case guard => exact .same (by constructor <;> simp)
  case offerDeadline =>
    unfold offerDeadlineStep
    split
    · exact offerFailed_stirs _ _ t
    · exact .refl t
    · exact .refl t
  case offerSwitch =>
    unfold offerSwitchStep
    split
    · exact switchOffer_stirs _ t
    · exact .refl t
    · exact .refl t
  case farChangeSwitch =>
    unfold farChangeStep
    split
    · exact switchFarChange_stirs _ t
    · exact .refl t
    · exact .refl t
  case cutbackSwitch =>
    unfold cutbackSwitchStep
    split
    · exact switchCutback_stirs _ t
    · exact .refl t
    · exact .refl t
  case arrival a =>
    cases a
    case data f => exact absurd rfl (hdata f)
    case voice n f => exact .same (by constructor <;> simp [arrivalStep])
    case message k tag body => exact messageStep_stirs k tag body t
  case frameBoundary p => exact boundaryStep_stirs p t
  case partReset => exact absurd rfl hpart

/-- A command from outside, but for the end of a frame at the home port, is a chain of occurrences. -/
theorem outside_stirs {c : Instr} {f : State → State} (hf : outsideOf c = some f) (hsent : c ≠ .homeFrameSent) (s : State) :
    Stirs s (f s) := by
  cases c <;> cases hf
  case msTick a b =>
    exact .same (by constructor <;> simp +contextual [tickStep, tickState])
  case trained r =>
    unfold trainedStep
    split
    · split
      · exact enterRun_stirs _ _ s
      · exact .trans (.same (by constructor <;> simp)) (trainingFailed_stirs _ _)
    · exact .refl s
  case trainFailed reason =>
    unfold trainFailedStep
    split
    · exact trainingFailed_stirs _ s
    · exact .refl s
  case signalLost =>
    unfold signalLostStep
    split
    · exact .trans (.same (by constructor <;> simp)) (retrainFromRun_stirs _ _)
    · exact .refl s
  case frameReport r => exact frameReportStep_stirs r s
  case marginReport ratios => exact .same (by constructor <;> simp)
  case unitPull => exact pullUnit_stirs s
  case receivedUnit u damaged => exact receiveUnit_stirs u damaged s
  case homeFrameArrival f right => exact homeArrival_stirs f right s
  case homeFrameSent => exact absurd rfl hsent
  case sampleFrame one two =>
    have taken : ∀ p x t, Stirs t (takeSample p x t) := by
      intro p x t
      unfold takeSample
      dsimp only
      split
      · split
        · exact .same (by constructor <;> simp +contextual)
        · exact .same (by constructor <;> simp)
        · exact .same (by constructor <;> simp)
      · exact .same (by constructor <;> simp)
    exact .trans (.trans (.same (by constructor <;> simp)) (taken _ _ _)) (taken _ _ _)

/-- What an invariant of the event unit or the home port asks of the operations that are no chain of occurrences. -/
structure EventKept (P : State → Prop) : Prop where
  stirs : ∀ {s t}, Stirs s t → P s → P t
  sent : ∀ s, P s → P (finishSending s)
  filtered : ∀ f s, P s → P (downstream f s)
  reply : ∀ f s, P s → P (offerReply f s)
  params : ∀ start count entries s, entries.length = count → P s → P (writeParams start count entries s)
  logRead : ∀ s, P s → P (s.modEvt fun e => { e with log := e.log.drop 8, overwritten := 0 })
  cleared : ∀ k s, P s →
    P (s.modEvt fun e => { e with pending := e.pending.without k, noticeDue := e.noticeDue.without k })
  asleep : ∀ s, s.evt.pending &&& s.params.wakeMask = 0 → P s → P (s.modEvt fun e => { e with asleep := true })
  partition : ∀ n s, n ≤ 8 → P s → P (setPartitionTo n s)
  traffic : ∀ s, P s → P (resetTrafficScope s)
  monitor : ∀ s, P s → P (resetMonitorScope s)
  partReset : ∀ s, P (resetPartState s)
  powerOn : P State.reset

theorem EventKept.effect {P : State → Prop} (k : EventKept P) {c : Instr} {s t : State} (e : Effect s c t) (h : P s) :
    P t := by
  have written : ∀ u x, Written s u → P (setCursor (some x) u) := by
    intro u x w
    refine k.stirs (.same (by constructor <;> simp [setCursor])) (?_ : P u)
    cases w
    case params all _ => exact k.params _ _ _ _ all h
    all_goals exact k.stirs (.same (by constructor <;> simp)) h
  cases e
  case writeTable w | writeOn w => exact written _ _ w
  case readLog => exact k.logRead s h
  case clearEvents x => exact k.cleared x s h
  case stop => exact k.stirs (stopLine_stirs s) h
  case retrainRun => exact k.stirs (retrainFromRun_stirs _ s) h
  case retrainHoldoff => exact k.stirs (.trans (.same (by constructor <;> simp)) (raiseRetrain_stirs _ _)) h
  case ringStop p => exact k.stirs (stopRing_stirs p s) h
  case hostSleep awake => exact k.asleep s awake h
  case setPartition n hn => exact k.partition n s hn h
  case resetTraffic => exact k.stirs (.same (by constructor <;> simp [setCursor])) (k.traffic s h)
  case resetMonitor => exact k.stirs (.same (by constructor <;> simp [setCursor])) (k.monitor s h)
  all_goals exact k.stirs (.same (by constructor <;> simp [setCursor, emptyDigits])) h

theorem EventKept.preserved {P : State → Prop} (k : EventKept P) : Preserved P where
  queue s q h := k.stirs (s := s) (.same ⟨rfl, rfl, id, rfl, rfl, rfl, rfl, rfl, id⟩) h
  powerOn q := k.stirs (s := State.reset) (.same ⟨rfl, rfl, id, rfl, rfl, rfl, rfl, rfl, id⟩) k.powerOn
  take d s _ h := by
    by_cases hpart : d = .partReset
    · subst hpart
      exact k.partReset _
    by_cases hdata : ∃ f, d = .arrival (.data f)
    · obtain ⟨f, rfl⟩ := hdata
      exact k.filtered f _ (k.stirs (erase_stirs hpart s) h)
    · exact k.stirs (runDue_stirs hpart (not_exists.mp hdata) s) h
  outside c f s hf h := by
    by_cases hsent : c = .homeFrameSent
    · subst hsent
      cases hf
      exact k.sent s h
    · exact k.stirs (outside_stirs hf hsent s) h
  effect c s t e h := k.effect e h
  pop s _ q _ h := k.stirs (.same (by constructor <;> simp)) h
  reply f s h := k.reply f s h

end Sys2Proof.Machine
end

section
/-! PROOFS. The host never ASLEEP over a wake flag (R152), the flags that only their own commands clear (R149), and the home
port, the egress queues and the log as every step keeps them (R82 to R84, R154). -/

namespace Sys2Proof.Machine

/-! ## The home port and the agent -/

theorem offerWaiting_cases (s : State) :
    offerWaiting s = s ∨ ∃ f t, mgmtOffer f s = some t ∧ offerWaiting s = t.modAgent fun a => { a with waiting := none } := by
  unfold offerWaiting
  split
  · exact .inl rfl
  · split
    · exact .inr ⟨_, _, ‹_›, rfl⟩
    · exact .inl rfl

theorem offerReply_cases (f : MgmtFrame) (s : State) :
    mgmtOffer f s = some (offerReply f s) ∨ offerReply f s = s.modAgent fun a => { a with waiting := some f } := by
  unfold offerReply
  split
  · exact .inl ‹_›
  · exact .inr rfl

@[simp] theorem finishSending_evt (s : State) : (finishSending s).evt = s.evt := by
  have waiting : ∀ t, (offerWaiting t).evt = t.evt := by
    intro t
    rcases offerWaiting_cases t with h | ⟨f, u, hu, h⟩ <;> rw [h]
    simpa using (mgmtOffer_evt hu).1
  unfold finishSending
  split
  · rfl
  · unfold mgmtSent
    dsimp only
    split
    · simp
    · simp
  · simp [homeSent]
  · simp [homeSent]

@[simp] theorem offerWaiting_agent (s : State) :
    (offerWaiting s).agent.queue = s.agent.queue ∧ (offerWaiting s).agent.partition = s.agent.partition ∧
      (offerWaiting s).agent.cursor = s.agent.cursor ∧ (offerWaiting s).agent.partWait = s.agent.partWait ∧
      (offerWaiting s).agent.lastSource = s.agent.lastSource := by
  rcases offerWaiting_cases s with h | ⟨f, t, ht, h⟩ <;> rw [h]
  · simp
  · simp [(mgmtOffer_quiet ht).agent]

/-- What the agent holds but for the reply that waits stays when the home port finishes a frame. -/
@[simp] theorem finishSending_agent (s : State) :
    (finishSending s).agent.queue = s.agent.queue ∧ (finishSending s).agent.partition = s.agent.partition ∧
      (finishSending s).agent.cursor = s.agent.cursor ∧ (finishSending s).agent.partWait = s.agent.partWait ∧
      (finishSending s).agent.lastSource = s.agent.lastSource := by
  unfold finishSending
  split
  · simp
  · unfold mgmtSent
    dsimp only
    split <;> simp
  · simp [homeSent]
  · simp [homeSent]

@[simp] theorem offerReply_agent (f : MgmtFrame) (s : State) :
    (offerReply f s).agent.queue = s.agent.queue ∧ (offerReply f s).agent.partition = s.agent.partition ∧
      (offerReply f s).agent.cursor = s.agent.cursor ∧ (offerReply f s).agent.partWait = s.agent.partWait ∧
      (offerReply f s).agent.lastSource = s.agent.lastSource := by
  rcases offerReply_cases f s with h | h
  · simp [(mgmtOffer_quiet h).agent]
  · simp [h]

@[simp] theorem homeArrival_partition (f : Bytes) (right : Bool) (s : State) :
    (homeArrival f right s).agent.partition = s.agent.partition := (homeArrival_stirs f right s).partition

@[simp] theorem setCursor_agent (c : Option Cursor) (s : State) :
    (setCursor c s).agent.queue = s.agent.queue ∧ (setCursor c s).agent.partition = s.agent.partition := ⟨rfl, rfl⟩

/-! ## The host awake (R152) -/

theorem HostAwakeOk.of_evt {s t : State} (hs : HostAwakeOk s) (hevt : t.evt = s.evt)
    (hparams : t.agent.params = s.agent.params) : HostAwakeOk t := by
  unfold HostAwakeOk at *
  rw [hevt]
  simpa [hparams] using hs

theorem wakeOnMask_awake (s : State) : HostAwakeOk (wakeOnMask s) := by
  unfold wakeOnMask
  split
  · exact fun h => absurd h (by simp)
  · rename_i h
    intro hsleep
    by_contra hne
    exact h (by simpa [hsleep] using hne)

theorem onlyAt_wakeMask : OnlyAt 38 Params.wakeMask := by
  intro p j b hj
  unfold Params.store
  split <;> first | rfl | exact absurd rfl hj

theorem writeParams_awake (start count : Nat) (entries : List Bytes) {s : State} (hlen : entries.length = count)
    (hs : HostAwakeOk s) : HostAwakeOk (writeParams start count entries s) := by
  subst hlen
  rw [writeParams_eq]
  unfold tellEvents
  dsimp only
  split
  · exact wakeOnMask_awake _
  · rename_i hmask
    have hstored : HostAwakeOk (s.modAgent fun a => { a with params := storeParams a.params start entries }) := by
      unfold HostAwakeOk at *
      simpa [onlyAt_wakeMask.storeParams (by simpa using hmask)] using hs
    have htold := (tellBlocks_stirs (wroteParam start entries.length) _).awake hstored
    split
    · exact htold
    · exact htold

theorem hostAwake_eventKept : EventKept HostAwakeOk where
  stirs h hs := h.awake hs
  sent s h := h.of_evt (by simp) (by simp)
  filtered f s h := h.of_evt (by simp) (by simp)
  reply f s h := h.of_evt (by simp) (by simp)
  params start count entries s hlen h := writeParams_awake start count entries hlen h
  logRead s h := h
  cleared k s h := by
    intro hsleep
    have hnone : s.evt.pending &&& s.agent.params.wakeMask = 0 := h hsleep
    change (s.evt.pending &&& ~~~k) &&& s.agent.params.wakeMask = 0
    rw [BitVec.and_assoc, BitVec.and_comm (~~~k), ← BitVec.and_assoc, hnone]
    simp
  asleep s hnone _ := fun _ => hnone
  partition n s _ h := h
  traffic s h := h.of_evt (by simp) (by simp)
  monitor s h := fun _ => by simp [resetMonitorScope, EventUnit.restart, EventUnit.reset]
  partReset s := fun h => by simp [resetPartState, State.reset, EventUnit.reset] at h
  powerOn := fun h => by simp [State.reset, EventUnit.reset] at h

/-- Settles O14: every step keeps the host awake while a wake flag is pending, by the operations of the event unit. -/
theorem hostNeverSleepsOverAWakeFlag : Obligations.HostNeverSleepsOverAWakeFlag := fun _ _ hs h =>
  hostAwake_eventKept.preserved.step hs h

/-! ## Flags (R149) -/

theorem writeParams_flags (start count : Nat) (entries : List Bytes) {s : State} {k : Kind}
    (h : s.evt.pending.has k = true) : (writeParams start count entries s).evt.pending.has k = true := by
  rw [writeParams_eq]
  have htold := (tellBlocks_stirs (wroteParam start count) _).flag
    (s := s.modAgent fun a => { a with params := storeParams a.params start entries }) h
  have hevents : ∀ t, (tellEvents (wroteParam start count) t).evt.pending = t.evt.pending := by
    intro t
    unfold tellEvents wakeOnMask
    dsimp only
    repeat' split
    all_goals simp
  rwa [hevents]

/-- A raw flag that is set stays set under every part of a step but CLEAR-EVENTS, a MONITOR reset and a PART reset. -/
theorem flag_kept {c : Instr} (hclear : c ≠ .clearEvents) (hmonitor : c ≠ .resetMonitor) (k : Kind) :
    KeptBy (· ≠ .partReset) c (fun s => s.evt.pending.has k = true) where
  close := nofun
  take d s hd _ h := by
    by_cases hdata : ∃ f, d = .arrival (.data f)
    · obtain ⟨f, rfl⟩ := hdata
      simpa [runDue, arrivalStep] using h
    · exact (runDue_stirs hd (not_exists.mp hdata) s).flag h
  outside f hf s h := by
    by_cases hsent : c = .homeFrameSent
    · subst hsent
      cases hf
      simpa using h
    · exact (outside_stirs hf hsent s).flag h
  handler row f hf r s h := by
    have written : ∀ t x, Written s t → (setCursor (some x) t).evt.pending.has k = true := by
      intro t x w
      cases w
      case params => exact writeParams_flags _ _ _ h
      all_goals exact h
    have he := handler_effect hf r s
    generalize (f r s).state = t at he
    cases he
    case writeTable w | writeOn w => exact written _ _ w
    case clearEvents => exact absurd rfl hclear
    case resetMonitor => exact absurd rfl hmonitor
    case stop => exact (stopLine_stirs s).flag h
    case retrainRun => exact (retrainFromRun_stirs _ s).flag h
    case retrainHoldoff =>
      exact (Stirs.trans (.same (by constructor <;> simp)) (raiseRetrain_stirs .ordered (enterTraining s))).flag h
    case ringStop p => exact (stopRing_stirs p s).flag h
    all_goals simpa [setCursor, emptyDigits, setPartitionTo, resizeLog] using h
  pop s _ q _ h := h
  reply f s h := by simpa using h

/-- Settles O15: what clears a raw flag is one of its own commands, or a PART reset that is due. -/
theorem flagsClearOnlyByTheirCommands : Obligations.FlagsClearOnlyByTheirCommands :=
  fun _ _ _ k hclear hmonitor hon hpart h hs =>
    (flag_kept hclear hmonitor k).exec hon (fun _ hd he => hpart (he ▸ hd)) hs h

end Sys2Proof.Machine
end

section
/-! PROOFS. What can happen to a phone port's record and to the fed and free ports (chapter 7): the digit queue within its
depth, a ring exactly while RINGING, and the feed as the mode says (R106, R110, R113, R121). -/

namespace Sys2Proof.Machine

/-! ## One record of a pair -/

@[simp] theorem Pair.get_set_same {α : Type} (x : Pair α) (p : PortId) (v : α) : (x.set p v).get p = v := by
  cases p <;> rfl

theorem Pair.get_set_of_ne {α : Type} (x : Pair α) {p q : PortId} (h : q ≠ p) (v : α) : (x.set p v).get q = x.get q := by
  cases p <;> cases q <;> first | rfl | exact absurd rfl h

@[simp] theorem State.modPort_port_same (s : State) (p : PortId) (f : PhonePort → PhonePort) :
    (s.modPort p f).port p = f (s.port p) := by
  simp [State.modPort, State.port]

theorem State.modPort_port_of_ne (s : State) {p q : PortId} (h : q ≠ p) (f : PhonePort → PhonePort) :
    (s.modPort p f).port q = s.port q := by
  simp [State.modPort, State.port, Pair.get_set_of_ne _ h]

@[simp] theorem State.modPort_cadence (s : State) (p : PortId) (f : PhonePort → PhonePort) :
    (s.modPort p f).phone.cadence = s.phone.cadence := rfl

@[simp] theorem State.setRecord_record_same (s : State) (p : PortId) (r : ChannelRecord) :
    (s.setRecord p r).record p = r := by
  simp [State.setRecord, State.record]

theorem State.setRecord_record_of_ne (s : State) {p q : PortId} (h : q ≠ p) (r : ChannelRecord) :
    (s.setRecord p r).record q = s.record q := by
  simp [State.setRecord, State.record, Pair.get_set_of_ne _ h]

theorem State.port_of_phone {s t : State} (h : t.phone = s.phone) (p : PortId) : t.port p = s.port p := by
  rw [State.port, State.port, h]

theorem State.record_of_voice {s t : State} (h : t.voice = s.voice) (p : PortId) : t.record p = s.record p := by
  rw [State.record, State.record, h]

/-! ## A port's record -/

/-- R110: a ring is held exactly while the port is RINGING. -/
def PhonePort.RingHeld (q : PhonePort) : Prop := q.ring.isSome = true ↔ q.state = .ringing

/-- `r` keeps what the invariants ask of the port record `q`: the digits within their depth, a ring exactly while RINGING, and
with that the feed. -/
structure PortMove (q r : PhonePort) : Prop where
  digits : q.digits.length ≤ 16 → r.digits.length ≤ 16
  rings : q.RingHeld → r.RingHeld
  fed : q.RingHeld → (r.state = .unfed ↔ q.state = .unfed)

/-- Every port of `t` moves from its record in `s` so, and the cadence table stays. -/
structure PhoneMoves (s t : State) : Prop where
  cadence : t.phone.cadence = s.phone.cadence
  ports : ∀ p, PortMove (s.port p) (t.port p)

theorem PortMove.refl (q : PhonePort) : PortMove q q := ⟨id, id, fun _ => Iff.rfl⟩

theorem PortMove.trans {q r x : PhonePort} (h : PortMove q r) (k : PortMove r x) : PortMove q x :=
  ⟨fun hq => k.digits (h.digits hq), fun hq => k.rings (h.rings hq), fun hq => (k.fed (h.rings hq)).trans (h.fed hq)⟩

theorem PhoneMoves.of_phone {s t : State} (h : t.phone = s.phone) : PhoneMoves s t :=
  ⟨by rw [h], fun p => by rw [State.port_of_phone h]; exact .refl _⟩

theorem PhoneMoves.refl (s : State) : PhoneMoves s s := .of_phone rfl

theorem PhoneMoves.trans {s t u : State} (h : PhoneMoves s t) (k : PhoneMoves t u) : PhoneMoves s u :=
  ⟨k.cadence.trans h.cadence, fun p => (h.ports p).trans (k.ports p)⟩

theorem PhoneMoves.modPort {s : State} {p : PortId} {f : PhonePort → PhonePort} (h : PortMove (s.port p) (f (s.port p))) :
    PhoneMoves s (s.modPort p f) := by
  refine ⟨rfl, fun q => ?_⟩
  by_cases hq : q = p
  · subst hq
    rwa [State.modPort_port_same]
  · rw [State.modPort_port_of_ne s hq]
    exact .refl _

theorem PhoneMoves.then_same {s t u : State} (h : PhoneMoves s t) (hu : u.phone = t.phone) : PhoneMoves s u :=
  h.trans (.of_phone hu)

/-- A record whose state, ring and digits stay. -/
theorem PortMove.of_same {q r : PhonePort} (hstate : r.state = q.state) (hring : r.ring.isSome = q.ring.isSome)
    (hdigits : r.digits = q.digits) : PortMove q r :=
  ⟨fun h => by rwa [hdigits], fun h => by rwa [PhonePort.RingHeld, hring, hstate], fun _ => by rw [hstate]⟩

/-- A record of a fed port that ends any ring and takes another fed state. -/
theorem PortMove.of_fed {q r : PhonePort} (hfed : q.RingHeld → q.state ≠ .unfed) (hstate : r.state ≠ .unfed)
    (hring : r.RingHeld) (hdigits : r.digits = q.digits) : PortMove q r :=
  ⟨fun h => by rwa [hdigits], fun _ => hring, fun h => ⟨fun hr => absurd hr hstate, fun hq => absurd hq (hfed h)⟩⟩

/-- A record out of RINGING that keeps its lack of a ring holds none while RINGING. -/
theorem PortMove.of_quiet {q r : PhonePort} (hq : q.state ≠ .ringing) (hfed : q.state ≠ .unfed) (hr : r.state ≠ .ringing)
    (hrfed : r.state ≠ .unfed) (hring : r.ring = q.ring) (hdigits : r.digits = q.digits) : PortMove q r :=
  ⟨fun h => by rwa [hdigits],
    fun h => ⟨fun hs => absurd (h.mp (hring ▸ hs)) hq, fun hs => absurd hs hr⟩,
    fun _ => ⟨fun hs => absurd hs hrfed, fun hs => absurd hs hfed⟩⟩

theorem ringPhaseStep_moves (p : PortId) (s : State) : PhoneMoves s (ringPhaseStep p s) := by
  unfold ringPhaseStep
  split
  · exact .refl s
  · rename_i r hr
    split
    · exact .modPort (.of_same rfl (by simp [hr]) rfl)
    · refine .then_same (t := s.modPort p fun q => q.endRing .onHook) (.modPort (.of_fed (fun hheld hu => ?_) ?_ ?_ rfl))
        (by simp)
      · have hringing := hheld.mp (by simp [hr])
        rw [hringing] at hu
        cases hu
      · simp [PhonePort.endRing]
      · simp [PhonePort.endRing, PhonePort.RingHeld]

theorem completeDigit_moves (p : PortId) (s : State) : PhoneMoves s (completeDigit p s) := by
  have hcleared : PhoneMoves s (s.modPort p fun q => { q with pulses := 0 }) := .modPort (.of_same rfl rfl rfl)
  unfold completeDigit
  dsimp only
  split
  · exact hcleared.then_same (by simp)
  · split
    · rename_i d _ hroom
      refine .then_same (hcleared.trans (.modPort (p := p) (f := fun q => { q with digits := q.digits ++ [d] }) ⟨fun _ => ?_,
        id, fun _ => Iff.rfl⟩)) (by simp)
      have hdepth : (s.port p).digits.length < 16 := hroom
      simp only [State.modPort_port_same, List.length_append, List.length_singleton]
      omega
    · exact hcleared.then_same (by simp)

theorem breakPulsesStep_moves (p : PortId) (s : State) : PhoneMoves s (breakPulsesStep p s) := by
  unfold breakPulsesStep
  split
  · exact completeDigit_moves p s
  · exact .refl s

theorem interdigitStep_moves (p : PortId) (s : State) : PhoneMoves s (interdigitStep p s) := by
  unfold interdigitStep
  split
  · exact completeDigit_moves p s
  · exact .refl s

theorem hangUpStep_moves (p : PortId) (s : State) : PhoneMoves s (hangUpStep p s) := by
  unfold hangUpStep
  split
  · rename_i hstate
    refine .then_same (t := s.modPort p fun q => { q with state := .onHook }) (.modPort (.of_quiet ?_ ?_ ?_ ?_ rfl rfl))
      (by simp) <;> simp [hstate]
  · exact .refl s

theorem liftPort_moves {p : PortId} {s : State} (h : (s.port p).state = .onHook ∨ (s.port p).state = .ringing) :
    PhoneMoves s (liftPort p s) := by
  refine .then_same (t := s.modPort p fun q => { q.endRing .offHook with pulses := 0, interdigitMs := 0 })
    (.modPort (.of_fed (fun _ => ?_) ?_ ?_ rfl)) (by simp [liftPort])
  · rcases h with h | h <;> simp [h]
  · simp [PhonePort.endRing]
  · simp [PhonePort.endRing, PhonePort.RingHeld]

theorem breakEnds_moves {p : PortId} {s : State} (h : (s.port p).state = .inBreak) : PhoneMoves s (breakEnds p s) := by
  unfold breakEnds
  split
  · refine .modPort (.of_quiet ?_ ?_ ?_ ?_ rfl rfl) <;> simp [h]
  · refine .then_same (t := s.modPort p fun q => { q with state := .offHook, pulses := 0, interdigitMs := 0 })
      (.modPort (.of_quiet ?_ ?_ ?_ ?_ rfl rfl)) (by simp) <;> simp [h]

theorem acceptHook_moves (p : PortId) (s : State) : PhoneMoves s (acceptHook p s) := by
  have off : ∀ t, PhoneMoves t (acceptOffHook p t) := by
    intro t
    unfold acceptOffHook
    split
    · exact liftPort_moves (.inl ‹_›)
    · rename_i hringing
      have hanswered : PhoneMoves t (t.countPort p fun c => { c with answers := satInc c.answers }) := .of_phone (by simp)
      refine hanswered.trans (liftPort_moves (.inr ?_))
      rwa [State.port_of_phone (s := t) (by simp)]
    · exact breakEnds_moves ‹_›
    · exact .refl t
    · exact .refl t
  have on : ∀ t, PhoneMoves t (acceptOnHook p t) := by
    intro t
    unfold acceptOnHook
    split
    · rename_i h
      refine .modPort (.of_quiet ?_ ?_ ?_ ?_ rfl rfl) <;> simp [h]
    · exact .refl t
  unfold acceptHook
  dsimp only
  split
  · exact .refl s
  · have hheard : ∀ b, PhoneMoves s (s.modPort p fun q => { q with accepted := b, stable := 0 }) := fun b =>
      .modPort (.of_same rfl rfl rfl)
    split
    · exact (hheard _).trans (off _)
    · exact (hheard _).trans (on _)

theorem stopRing_moves (p : PortId) (s : State) : PhoneMoves s (stopRing p s) := by
  unfold stopRing
  split
  · rename_i h
    refine .then_same (t := s.modPort p fun q => q.endRing .onHook) (.modPort (.of_fed (fun _ => ?_) ?_ ?_ rfl)) (by simp)
    · simp [h]
    · simp [PhonePort.endRing]
    · simp [PhonePort.endRing, PhonePort.RingHeld]
  · exact .refl s

theorem cadenceList_head {e rest : List Segment} {g : Segment} (h : cadenceList e = g :: rest) : g ≠ ⟨0, 0⟩ := by
  rcases e with _ | ⟨x, xs⟩
  · cases h
  · rw [cadenceList] at h
    split at h
    · cases h
    · cases h
      assumption

/-- A valid entry starts a ring: its first segment is not (0, 0), so a phase of it lasts. -/
theorem startRing_isSome {table : List (List Segment)} {entry : Nat} (repeats : Nat)
    (h : cadenceValid (table.getD entry []) = true) : (startRing table entry repeats).isSome = true := by
  rcases hlist : cadenceList (table.getD entry []) with _ | ⟨g, rest⟩
  · rw [cadenceValid, hlist] at h
    cases h
  · have hlen : ∀ r : Ring, r.entry = entry → r.segment = 1 →
        phaseLength table r = 10 * (if r.onPhase then g.on else g.off) := by
      intro r hr hseg
      rw [phaseLength, ringSegment, hr, hseg, hlist]
      rfl
    have hon := hlen { entry := entry, repeats := repeats, segment := 1, onPhase := true, ms := 0, passes := 0 } rfl rfl
    have hoff := hlen { entry := entry, repeats := repeats, segment := 1, onPhase := false, ms := 0, passes := 0 } rfl rfl
    by_cases hgon : g.on = 0
    · have hgoff : g.off ≠ 0 := fun h0 => cadenceList_head hlist (by cases g; simp_all)
      simp [startRing, skipEmpty, hon, hgon, nextPhase, hoff, hgoff]
    · simp [startRing, skipEmpty, hon, hgon]

theorem beginRing_moves {p : PortId} {entry : Nat} (repeats : Nat) {s : State} (hstate : (s.port p).state = .onHook)
    (h : cadenceValid (s.phone.cadence.getD entry []) = true) : PhoneMoves s (beginRing p entry repeats s) := by
  refine .modPort (.of_fed (fun _ => ?_) ?_ ?_ rfl)
  · simp [hstate]
  · simp
  · simp [PhonePort.RingHeld, startRing_isSome repeats h]

theorem tickPort_move (q : PhonePort) : PortMove q (tickPort q) := by
  have hbounce : PortMove q (debounce q) := by
    unfold debounce
    split <;> exact .of_same rfl rfl rfl
  unfold tickPort
  split
  · refine hbounce.trans ?_
    unfold tickTimers
    split
    · exact .refl _
    · exact .of_same rfl (by simp) rfl
    · split
      · exact .of_same rfl rfl rfl
      · exact .refl _
    · exact .of_same rfl rfl rfl
    · exact .refl _
  · exact .refl q

theorem tickPhone_moves {s t : State} (h : t.phone = tickPhone s.phone) : PhoneMoves s t := by
  refine ⟨by rw [h]; rfl, fun p => ?_⟩
  have hport : t.port p = tickPort (s.port p) := by
    rw [State.port, State.port, h]
    cases p <;> rfl
  rw [hport]
  exact tickPort_move _

theorem sampleStep_moves (one two : PortFrame) (s : State) : PhoneMoves s (sampleStep one two s) := by
  have hphone : (sampleStep one two s).phone = { s.phone with
      ports := ⟨latchFrame s.phone.ports.one s.voice.one.idle one, latchFrame s.phone.ports.two s.voice.two.idle two⟩ } := by
    simp [sampleStep]
  refine ⟨by rw [hphone], fun p => ?_⟩
  rw [State.port, State.port, hphone]
  cases p <;> exact .of_same rfl rfl rfl

theorem emptyDigits_moves (s : State) : PhoneMoves s (emptyDigits s) := by
  refine ⟨rfl, fun p => ⟨fun _ => ?_, ?_, ?_⟩⟩ <;> cases p
  · simp [State.port, emptyDigits, Pair.get]
  · simp [State.port, emptyDigits, Pair.get]
  · exact id
  · exact id
  · exact fun _ => Iff.rfl
  · exact fun _ => Iff.rfl

end Sys2Proof.Machine
end

section
/-! PROOFS. The feed of port 2 as the supply mode says, no call on an unfed port, and a ring exactly while RINGING (R110, R113,
R121), kept by every step. -/

namespace Sys2Proof.Machine

/-- Every record that is FREE in `s` is FREE in `t`. -/
def StaysFree (s t : State) : Prop := ∀ p, (s.record p).call = .free → (t.record p).call = .free

theorem StaysFree.of_voice {s t : State} (h : t.voice = s.voice) : StaysFree s t := fun p hp => by
  rwa [State.record_of_voice h]

theorem StaysFree.refl (s : State) : StaysFree s s := .of_voice rfl

theorem StaysFree.trans {s t u : State} (h : StaysFree s t) (k : StaysFree t u) : StaysFree s u := fun p hp => k p (h p hp)

theorem StaysFree.setRecord {s : State} {p : PortId} {r : ChannelRecord} (h : (s.record p).call = .free → r.call = .free) :
    StaysFree s (s.setRecord p r) := by
  intro q hq
  by_cases hqp : q = p
  · subst hqp
    rw [State.setRecord_record_same]
    exact h hq
  · rwa [State.setRecord_record_of_ne s hqp]

theorem freeRecord_call_same (p : PortId) (s : State) : ((freeRecord p s).record p).call = .free := by
  simp [freeRecord, vqRemove, State.record]

theorem freeRecord_staysFree (p : PortId) (s : State) : StaysFree s (freeRecord p s) := by
  intro q hq
  by_cases hqp : q = p
  · subst hqp
    exact freeRecord_call_same q s
  · simpa [freeRecord, vqRemove, State.record, Pair.get_set_of_ne _ hqp] using hq

theorem closeRecord_staysFree (p : PortId) (s : State) : StaysFree s (closeRecord p s) := by
  unfold closeRecord
  split
  · exact .refl s
  · exact freeRecord_staysFree p s
  · exact (freeRecord_staysFree p s).trans (freeRecord_staysFree _ _)

theorem countCall_staysFree (p : PortId) (f : CallCounts → CallCounts) (s : State) : StaysFree s (s.countCall p f) := by
  refine .trans (t := s.setRecord p { s.record p with counts := f (s.record p).counts }) (.setRecord id) (.of_voice rfl)

theorem voiceArrives_staysFree (n : Nat) (f : Bytes) (s : State) : StaysFree s (voiceArrives n f s) := by
  unfold voiceArrives
  dsimp only
  split
  · exact .refl s
  split
  · exact .of_voice (by simp)
  split
  · exact .of_voice (by simp)
  split
  · rename_i hcall
    exact .trans (.setRecord fun hfree => by simp [hcall] at hfree) (countCall_staysFree _ _ _)
  · exact .refl s
  · exact .refl s

@[simp] theorem Pair.set_set {α : Type} (x : Pair α) (p : PortId) (v w : α) : (x.set p v).set p w = x.set p w := by
  cases p <;> rfl

@[simp] theorem Pair.set_get {α : Type} (x : Pair α) (p : PortId) : x.set p (x.get p) = x := by cases p <;> rfl

@[simp] theorem State.countCall_voice (s : State) (p : PortId) (f : CallCounts → CallCounts) :
    (s.countCall p f).voice = s.voice.set p { s.voice.get p with counts := f (s.voice.get p).counts } := rfl

/-- R126: what a playout tick leaves of the records. -/
theorem takePlayout_voice {p : PortId} {s : State} {c : LineCall} (h : (s.record p).call = .line c) :
    (takePlayout p s).voice =
      let t := playoutTick c.target (s.record p).idle c.buffer
      s.voice.set p { call := .line { c with buffer := t.buffer, chosen := some t.chosen }
                      idle := (s.record p).idle, counts := countTick t (s.record p).counts } := by
  unfold takePlayout
  dsimp only
  rw [h]
  dsimp only
  split <;> split <;> simp [State.setRecord, State.record]

theorem takePlayout_of_not_line {p : PortId} {s : State} (h : ∀ c, (s.record p).call ≠ .line c) : takePlayout p s = s := by
  unfold takePlayout
  dsimp only
  split
  · exact absurd ‹_› (h _)
  · rfl
  · rfl

theorem takePlayout_staysFree (p : PortId) (s : State) : StaysFree s (takePlayout p s) := by
  by_cases h : ∃ c, (s.record p).call = .line c
  · obtain ⟨c, hc⟩ := h
    exact .trans (.setRecord fun hfree => by simp [hc] at hfree) (.of_voice (takePlayout_voice hc))
  · rw [takePlayout_of_not_line (not_exists.mp h)]
    exact .refl s

theorem vqOffer_staysFree (f : VqFrame) (s : State) : StaysFree s (vqOffer f s) := by
  unfold vqOffer
  dsimp only
  split
  · exact .of_voice (by simp)
  · exact (countCall_staysFree f.port (fun c => { c with vqDrops := satInc c.vqDrops }) s).trans
      (.of_voice (by simp [vqDrop, countVqDrop]))

theorem boundaryStep_staysFree (p : PortId) (s : State) : StaysFree s (boundaryStep p s) := by
  refine .trans ?_ (takePlayout_staysFree p _)
  unfold formFrame
  dsimp only
  split
  · rename_i c hcall
    have hformed : ∀ c' g, StaysFree s ((s.setRecord p { s.record p with call := .line c' }).countCall p g) := fun c' g =>
      .trans (.setRecord fun hfree => by simp [hcall] at hfree) (countCall_staysFree _ _ _)
    split
    · exact (hformed _ _).trans (vqOffer_staysFree _ _)
    · exact (hformed _ _).trans (countCall_staysFree _ _ _)
  · exact .refl s
  · exact .refl s

theorem takeSample_staysFree (p : PortId) (x : Byte) (s : State) : StaysFree s (takeSample p x s) := by
  have hrecord : StaysFree s (s.setRecord p (recordSample (s.record p) x).1) := by
    refine .setRecord fun hfree => ?_
    simp [recordSample, hfree]
  unfold takeSample
  dsimp only
  split
  · split
    · exact hrecord.trans (.of_voice rfl)
    · exact hrecord.trans (countCall_staysFree _ _ _)
    · exact hrecord
  · exact hrecord

theorem sampleStep_staysFree (one two : PortFrame) (s : State) : StaysFree s (sampleStep one two s) := by
  have taken : ∀ p x t, t.voice = s.voice → StaysFree s (takeSample p x t) := fun p x t h =>
    .trans (.of_voice h) (takeSample_staysFree p x t)
  unfold sampleStep
  exact (taken _ _ _ (by simp)).trans (takeSample_staysFree _ _ _)

/-! ## The ports with port 2 fed or not -/

/-- R110, R113, R121: the ports as they must be when port 2 is fed or not. -/
structure PortsAs (fed : Bool) (s : State) : Prop where
  one : (s.port .p1).state ≠ .unfed
  two : (s.port .p2).state = .unfed ↔ fed = false
  call : ∀ p, (s.port p).state = .unfed → (s.record p).call = .free
  rings : ∀ p, (s.port p).RingHeld

theorem portsOk_iff {s : State} : PortsOk s ↔ PortsAs (port2FedIn s.params s.supply.mode) s := by
  have hfed : s.params.port2Feed.get s.supply.mode ≠ 1 ↔ port2FedIn s.params s.supply.mode = false := by simp [port2FedIn]
  constructor
  · rintro ⟨hone, htwo, hcall, hrings⟩
    exact ⟨hone, htwo.trans hfed, hcall, hrings⟩
  · rintro ⟨hone, htwo, hcall, hrings⟩
    exact ⟨hone, htwo.trans hfed.symm, hcall, hrings⟩

theorem PortsAs.moves {fed : Bool} {s t : State} (h : PortsAs fed s) (hm : PhoneMoves s t) (hc : StaysFree s t) :
    PortsAs fed t := by
  obtain ⟨hone, htwo, hcall, hrings⟩ := h
  have hstate : ∀ p, (t.port p).state = .unfed ↔ (s.port p).state = .unfed := fun p => (hm.ports p).fed (hrings p)
  exact ⟨fun h => hone ((hstate _).mp h), (hstate _).trans htwo, fun p hp => hc p (hcall p ((hstate p).mp hp)),
    fun p => (hm.ports p).rings (hrings p)⟩

theorem feedLossClose_free {s : State} : StaysFree s (feedLossClose s) ∧ ((feedLossClose s).record .p2).call = .free := by
  unfold feedLossClose
  split
  · exact ⟨.refl s, by assumption⟩
  · have hvoice : (raise (.withA .channelClosed 2) (freeRecord .p2 s)).voice = (freeRecord .p2 s).voice := by simp
    exact ⟨(freeRecord_staysFree .p2 s).trans (.of_voice hvoice),
      by rw [State.record_of_voice hvoice]; exact freeRecord_call_same .p2 s⟩
  · have hvoice : (raise (.withA .channelClosed 2) (raise (.withA .channelClosed 1)
        (freeRecord .p1 (freeRecord .p2 s)))).voice = (freeRecord .p1 (freeRecord .p2 s)).voice := by simp
    refine ⟨((freeRecord_staysFree .p2 s).trans (freeRecord_staysFree .p1 _)).trans (.of_voice hvoice), ?_⟩
    rw [State.record_of_voice hvoice]
    exact freeRecord_staysFree .p1 _ .p2 (freeRecord_call_same .p2 s)

theorem loseFeed_phone (s : State) : (loseFeed s).phone = (s.modPort .p2 fun q =>
    { q.endRing .unfed with pulses := 0, digits := [], stable := 0 }).phone := by
  unfold loseFeed
  dsimp only
  split <;> simp [State.modPort]

theorem loseFeed_ports {fed : Bool} {s : State} (h : PortsAs fed s) : PortsAs false (loseFeed s) := by
  obtain ⟨hone, -, -, hrings⟩ := h
  have hport1 : (loseFeed s).port .p1 = s.port .p1 := by
    rw [State.port_of_phone (loseFeed_phone s)]
    exact State.modPort_port_of_ne s (by simp) _
  have hport2 : (loseFeed s).port .p2 = { (s.port .p2).endRing .unfed with pulses := 0, digits := [], stable := 0 } := by
    rw [State.port_of_phone (loseFeed_phone s)]
    exact State.modPort_port_same s _ _
  refine ⟨by rwa [hport1], by simp [hport2, PhonePort.endRing], fun p hp => ?_, fun p => ?_⟩ <;> cases p
  · exact absurd (hport1 ▸ hp) hone
  · exact feedLossClose_free.2
  · exact hport1 ▸ hrings .p1
  · simp [hport2, PhonePort.endRing, PhonePort.RingHeld]

theorem returnFeed_ports {s : State} (h : PortsAs false s) : PortsAs true (returnFeed s) := by
  obtain ⟨hone, htwo, hcall, hrings⟩ := h
  have hport1 : (returnFeed s).port .p1 = s.port .p1 := State.modPort_port_of_ne s (by simp) _
  have hport2 : (returnFeed s).port .p2 = { s.port .p2 with state := .onHook, pulses := 0, accepted := false, stable := 0 } :=
    State.modPort_port_same s _ _
  have hnone : ¬ (s.port .p2).ring.isSome = true := fun hsome => by
    have hringing := (hrings .p2).mp hsome
    rw [htwo.mpr rfl] at hringing
    cases hringing
  refine ⟨by rwa [hport1], by simp [hport2], fun p hp => ?_, fun p => ?_⟩ <;> cases p
  · exact absurd (hport1 ▸ hp) hone
  · simp [hport2] at hp
  · exact hport1 ▸ hrings .p1
  · simpa [hport2, PhonePort.RingHeld] using hnone

/-- R113: port 2's feed is what it was set to, whatever it was. -/
theorem setPort2Feed_ports {fed : Bool} (on : Bool) {s : State} (h : PortsAs fed s) : PortsAs on (setPort2Feed on s) := by
  have hfed : (s.port .p2).fed = fed := by
    have htwo := h.two
    unfold PhonePort.fed
    cases fed <;> simp_all
  unfold setPort2Feed
  rw [hfed]
  cases fed <;> cases on
  · exact h
  · exact returnFeed_ports h
  · exact loseFeed_ports h
  · exact h

/-! ## Every part of a step -/

/-- What leaves the ports' states, the calls' absence, the mode and the parameters as they are keeps the ports as they must
be. -/
theorem PortsOk.moves {s t : State} (h : PortsOk s) (hm : PhoneMoves s t) (hc : StaysFree s t)
    (hmode : t.supply.mode = s.supply.mode) (hparams : t.agent.params = s.agent.params) : PortsOk t := by
  rw [portsOk_iff] at *
  have hfed : port2FedIn t.params t.supply.mode = port2FedIn s.params s.supply.mode := by simp [hmode, hparams]
  exact hfed ▸ h.moves hm hc

theorem PortsOk.of_same {s t : State} (h : PortsOk s) (hphone : t.phone = s.phone) (hvoice : t.voice = s.voice)
    (hmode : t.supply.mode = s.supply.mode) (hparams : t.agent.params = s.agent.params) : PortsOk t :=
  h.moves (.of_phone hphone) (.of_voice hvoice) hmode hparams

theorem enterMode_phone (m : Mode) (s : State) : ∃ u : State, u.phone = s.phone ∧ u.voice = s.voice ∧
    (enterMode m s).phone = (setPort2Feed (port2FedIn s.params m) u).phone ∧
    (enterMode m s).voice = (setPort2Feed (port2FedIn s.params m) u).voice := by
  refine ⟨cutbackTest (setShedLevel (s.params.shed.get m) (recompute (s.setSupply { s.supply with mode := m }))), by simp,
    by simp, ?_, ?_⟩ <;>
  · unfold enterMode
    dsimp only
    split <;> simp

theorem enterMode_portsOk (m : Mode) {s : State} (h : PortsOk s) : PortsOk (enterMode m s) := by
  rw [portsOk_iff] at *
  obtain ⟨u, hphone, hvoice, hphone', hvoice'⟩ := enterMode_phone m s
  have hset := setPort2Feed_ports (port2FedIn s.params m) (h.moves (.of_phone hphone) (.of_voice hvoice))
  have hfed : port2FedIn (enterMode m s).params (enterMode m s).supply.mode = port2FedIn s.params m := by
    have hmode := (enterMode_sameLine m s).mode
    rw [hmode]
    simp
  rw [hfed]
  exact hset.moves (.of_phone hphone') (.of_voice hvoice')

theorem acceptPin_portsOk (p : PinId) {s : State} (h : PortsOk s) : PortsOk (acceptPin p s) := by
  unfold acceptPin
  dsimp only
  split
  · exact h
  · rename_i level _
    have hpin : PortsOk (s.setSupply (s.supply.setPin p { s.supply.pin p with accepted := some level, stable := 0 })) :=
      h.of_same rfl rfl (by cases p <;> rfl) rfl
    rcases workOutMode_cases (s.setSupply (s.supply.setPin p { s.supply.pin p with accepted := some level, stable := 0 }))
      with heq | ⟨m, -, heq⟩ <;> rw [heq]
    · exact hpin
    · exact enterMode_portsOk m hpin

theorem onlyAt_port2Feed (m : Mode) : OnlyAt (modeIndex 20 m) fun p => p.port2Feed.get m := by
  intro p j b hj
  unfold Params.store
  split <;> cases m <;> first | rfl | exact absurd rfl hj

theorem writeParams_portsOk (start count : Nat) (entries : List Bytes) {s : State} (hlen : entries.length = count)
    (h : PortsOk s) : PortsOk (writeParams start count entries s) := by
  subst hlen
  rw [portsOk_iff] at *
  have hmode : (writeParams start entries.length entries s).supply.mode = s.supply.mode := by simp
  have hparams : (writeParams start entries.length entries s).params = storeParams s.params start entries := by
    simp [writeParams_agent]
  rw [hmode, hparams, writeParams_eq]
  have hevents : ∀ wrote b t, PortsAs b t → PortsAs b (tellEvents wrote t) := fun _ _ _ hb =>
    hb.moves (.of_phone (by simp)) (.of_voice (by simp))
  apply hevents
  unfold tellPhone
  have htold : ∀ b, PortsAs b s → PortsAs b (tellLoading (wroteParam start entries.length)
      (tellScheduler (wroteParam start entries.length) (tellRate (wroteParam start entries.length)
        (s.modAgent fun a => { a with params := storeParams a.params start entries })))) := fun b hb =>
    hb.moves (.of_phone (by simp)) (.of_voice (by simp))
  split
  · have hset := setPort2Feed_ports (port2FedIn (storeParams s.params start entries) s.supply.mode) (htold _ h)
    simpa using hset
  · rename_i hwrote
    have hfeed := (onlyAt_port2Feed s.supply.mode).storeParams (by simpa using hwrote) s.params
    rw [show port2FedIn (storeParams s.params start entries) s.supply.mode = port2FedIn s.params s.supply.mode by
      unfold port2FedIn; rw [hfeed]]
    exact htold _ h

end Sys2Proof.Machine
end

section
/-! PROOFS. The ports and records under every part of a step: the feed as the mode says (R113, R121) and the digit queues
within their depth (R106). -/

namespace Sys2Proof.Machine

/-- A due step moves each port's record as the invariants allow; a pin's acceptance and a PART reset apart. -/
theorem runDue_moves {d : Due} (hpin : ∀ p, d ≠ .pin p) (hpart : d ≠ .partReset) (s : State) :
    PhoneMoves s (runDue d s) := by
  cases d <;> simp only [runDue]
  case pin p => exact absurd rfl (hpin p)
  case partReset => exact absurd rfl hpart
  case breakPulses p => exact breakPulsesStep_moves p s
  case hangUp p => exact hangUpStep_moves p s
  case interdigit p => exact interdigitStep_moves p s
  case ringPhase p => exact ringPhaseStep_moves p s
  case hook p => exact acceptHook_moves p s
  all_goals exact .of_phone (by simp)

theorem runDue_staysFree {d : Due} (hpin : ∀ p, d ≠ .pin p) (hpart : d ≠ .partReset) (s : State) :
    StaysFree s (runDue d s) := by
  cases d <;> simp only [runDue]
  case pin p => exact absurd rfl (hpin p)
  case partReset => exact absurd rfl hpart
  case frameBoundary p => exact boundaryStep_staysFree p s
  case arrival a =>
    cases a
    case voice n f => exact voiceArrives_staysFree n f s
    all_goals exact .of_voice (by simp [arrivalStep])
  all_goals exact .of_voice (by simp)

theorem outside_moves {c : Instr} {f : State → State} (hf : outsideOf c = some f) (s : State) : PhoneMoves s (f s) := by
  cases c <;> cases hf
  case msTick a b => exact tickPhone_moves (by simp [tickStep, tickState])
  case sampleFrame one two => exact sampleStep_moves one two s
  all_goals exact .of_phone (by simp)

theorem outside_staysFree {c : Instr} {f : State → State} (hf : outsideOf c = some f) (s : State) : StaysFree s (f s) := by
  cases c <;> cases hf
  case sampleFrame one two => exact sampleStep_staysFree one two s
  all_goals exact .of_voice (by simp)

theorem runDue_portsOk {d : Due} (hpart : d ≠ .partReset) {s : State} (h : PortsOk s) : PortsOk (runDue d s) := by
  by_cases hpin : ∃ p, d = .pin p
  · obtain ⟨p, rfl⟩ := hpin
    exact acceptPin_portsOk p h
  · have hne := not_exists.mp hpin
    refine h.moves (runDue_moves hne hpart s) (runDue_staysFree hne hpart s) ?_ ?_
    · cases d
      case pin p => exact absurd rfl (hne p)
      case partReset => exact absurd rfl hpart
      all_goals simp [runDue]
    · cases d
      case partReset => exact absurd rfl hpart
      all_goals simp [runDue]

theorem written_portsOk {s t : State} (w : Written s t) (h : PortsOk s) : PortsOk t := by
  cases w
  case params all _ => exact writeParams_portsOk _ _ _ all h
  case cadence start es _ _ _ =>
    obtain ⟨hone, htwo, hcall, hrings⟩ := h
    exact ⟨hone, htwo, hcall, hrings⟩
  all_goals exact h.of_same rfl rfl rfl rfl

theorem openIntercom_portsOk (idle : Byte) {s : State} (hfed : ∀ p, (s.port p).state ≠ .unfed) (h : PortsOk s) :
    PortsOk (openIntercom idle s) := by
  obtain ⟨hone, htwo, -, hrings⟩ := h
  exact ⟨hone, htwo, fun p hp => absurd hp (hfed p), hrings⟩

theorem openLine_portsOk (p : PortId) (stream target : Nat) (idle : Byte) {s : State} (hfed : (s.port p).state ≠ .unfed)
    (h : PortsOk s) : PortsOk (openLine p stream target idle s) := by
  obtain ⟨hone, htwo, hcall, hrings⟩ := h
  refine ⟨hone, htwo, fun q hq => ?_, hrings⟩
  have hne : q ≠ p := fun he => hfed (he ▸ hq)
  rw [openLine, State.setRecord_record_of_ne s hne]
  exact hcall q hq

theorem restart_portsAs (isFed : Bool) {s t : State} (hone : t.port .p1 = (s.port .p1).restart true)
    (htwo : t.port .p2 = (s.port .p2).restart isFed) (hfree : ∀ p, (t.record p).call = .free) : PortsAs isFed t := by
  refine ⟨by simp [hone, PhonePort.restart], ?_, fun p _ => hfree p, fun p => ?_⟩
  · cases isFed <;> simp [htwo, PhonePort.restart]
  · cases p
    · simp [hone, PhonePort.RingHeld, PhonePort.restart, PhonePort.reset]
    · cases isFed <;> simp [htwo, PhonePort.RingHeld, PhonePort.restart, PhonePort.reset]

theorem resetVoiceScope_portsOk (s : State) : PortsOk (resetVoiceScope s) := by
  rw [portsOk_iff]
  refine restart_portsAs (s := s) _ ?_ ?_ fun p => ?_
  · simp [resetVoiceScope, resetRecords, vqRemove, restartPorts, State.port, Pair.get]
  · simp [resetVoiceScope, resetRecords, vqRemove, restartPorts, State.port, Pair.get]
  · cases p <;> simp [resetVoiceScope, resetRecords, vqRemove, State.record, Pair.get, ChannelRecord.reset]

theorem resetPartState_portsOk (s : State) : PortsOk (resetPartState s) := by
  rw [portsOk_iff]
  exact restart_portsAs (s := s) _ rfl rfl fun p => by cases p <;> rfl

theorem portsOk_preserved : Preserved PortsOk where
  queue s q h := PortsOk.of_same (s := s) h rfl rfl rfl rfl
  powerOn q := PortsOk.of_same (s := State.reset) reset_portsOk rfl rfl rfl rfl
  take d s _ h := by
    by_cases hpart : d = .partReset
    · subst hpart
      exact resetPartState_portsOk _
    · exact runDue_portsOk hpart (h.of_same rfl rfl rfl rfl)
  outside c f s hf h := by
    refine h.moves (outside_moves hf s) (outside_staysFree hf s) ?_ ?_ <;>
    · cases c <;> cases hf <;> simp [tickStep, tickState, tickSupply]
  effect c s t e h := by
    cases e
    case writeTable w | writeOn w => exact (written_portsOk w h).of_same rfl rfl rfl rfl
    case readEvents => exact h.moves (emptyDigits_moves s) (.refl s) rfl rfl
    case openLine hfree hfed _ => exact openLine_portsOk _ _ _ _ hfed h
    case openIntercom hfree hfed => exact openIntercom_portsOk _ hfed h
    case close p => exact h.moves (.of_phone (by simp)) (closeRecord_staysFree p s) (by simp) (by simp)
    case ring p entry repeats onHook valid => exact h.moves (beginRing_moves repeats onHook valid) (.refl s) rfl rfl
    case ringStop p => exact h.moves (stopRing_moves p s) (.of_voice (by simp)) (by simp) (by simp)
    case portControl p a b => exact h.moves (.modPort (.of_same rfl rfl rfl)) (.refl s) rfl rfl
    case resetVoice => exact (resetVoiceScope_portsOk s).of_same rfl rfl rfl rfl
    case resetMonitor =>
      refine h.moves (.of_phone rfl) (fun p hp => ?_) rfl rfl
      cases p <;> exact hp
    all_goals exact h.of_same (by simp) (by simp) (by simp) (by simp)
  pop s _ q _ h := h.of_same rfl rfl rfl rfl
  reply f s h := h.of_same (by simp) (by simp) (by simp) (by simp)

/-- Settles O11: every step keeps the feed as the mode says, by the moves of a port's record and the feed that a mode entry, a
write or a reset sets. -/
theorem feedFollowsTheMode : Obligations.FeedFollowsTheMode := fun _ _ hs h => portsOk_preserved.step hs h

/-! ## The digit queues -/

/-- R106: no digit queue is over its depth. -/
def DigitsOk (s : State) : Prop := ∀ p, (s.port p).digits.length ≤ 16

theorem DigitsOk.moves {s t : State} (h : DigitsOk s) (hm : PhoneMoves s t) : DigitsOk t := fun p => (hm.ports p).digits (h p)

theorem DigitsOk.of_phone {s t : State} (h : DigitsOk s) (hp : t.phone = s.phone) : DigitsOk t := h.moves (.of_phone hp)

theorem DigitsOk.modPort {s : State} (h : DigitsOk s) {p : PortId} {f : PhonePort → PhonePort}
    (hf : (f (s.port p)).digits.length ≤ 16) : DigitsOk (s.modPort p f) := by
  intro q
  by_cases hq : q = p
  · subst hq
    rwa [State.modPort_port_same]
  · rw [State.modPort_port_of_ne s hq]
    exact h q

theorem setPort2Feed_digitsOk (on : Bool) {s : State} (h : DigitsOk s) : DigitsOk (setPort2Feed on s) := by
  unfold setPort2Feed
  split
  · split
    · exact h
    · exact DigitsOk.of_phone (s := s.modPort .p2 _) (h.modPort (by simp)) (loseFeed_phone s)
  · split
    · exact h.modPort (h .p2)
    · exact h

theorem enterMode_digitsOk (m : Mode) {s : State} (h : DigitsOk s) : DigitsOk (enterMode m s) := by
  obtain ⟨u, hphone, -, hphone', -⟩ := enterMode_phone m s
  exact (setPort2Feed_digitsOk (port2FedIn s.params m) (h.of_phone hphone)).of_phone hphone'

theorem acceptPin_digitsOk (p : PinId) {s : State} (h : DigitsOk s) : DigitsOk (acceptPin p s) := by
  unfold acceptPin
  dsimp only
  split
  · exact h
  · rename_i level _
    rcases workOutMode_cases (s.setSupply (s.supply.setPin p { s.supply.pin p with accepted := some level, stable := 0 }))
      with heq | ⟨m, -, heq⟩ <;> rw [heq]
    · exact h
    · exact enterMode_digitsOk m h

theorem writeParams_digitsOk (start count : Nat) (entries : List Bytes) {s : State} (h : DigitsOk s) :
    DigitsOk (writeParams start count entries s) := by
  rw [writeParams_eq]
  have hevents : ∀ wrote t, DigitsOk t → DigitsOk (tellEvents wrote t) := fun _ _ ht => ht.of_phone (by simp)
  apply hevents
  unfold tellPhone
  split
  · exact setPort2Feed_digitsOk _ (h.of_phone (by simp))
  · exact h.of_phone (by simp)

theorem restart_digitsOk {s t : State} {isFed : Bool} (hone : t.port .p1 = (s.port .p1).restart true)
    (htwo : t.port .p2 = (s.port .p2).restart isFed) : DigitsOk t := by
  rintro (_ | _)
  · simp [hone, PhonePort.restart, PhonePort.reset]
  · simp [htwo, PhonePort.restart, PhonePort.reset]

theorem reset_digitsOk : DigitsOk State.reset := by
  rintro (_ | _) <;> exact Nat.zero_le _

theorem digitsOk_preserved : Preserved DigitsOk where
  queue s q h := h
  powerOn q := reset_digitsOk
  take d s _ h := by
    by_cases hpart : d = .partReset
    · subst hpart
      exact restart_digitsOk (s := s) rfl rfl
    by_cases hpin : ∃ p, d = .pin p
    · obtain ⟨p, rfl⟩ := hpin
      exact acceptPin_digitsOk p h
    · exact DigitsOk.moves (s := s.setDue (s.due.erase d)) h (runDue_moves (not_exists.mp hpin) hpart _)
  outside c f s hf h := h.moves (outside_moves hf s)
  effect c s t e h := by
    have written : ∀ t x, Written s t → DigitsOk (setCursor (some x) t) := by
      intro t x w
      cases w
      case params => exact writeParams_digitsOk _ _ _ h
      all_goals exact h
    cases e
    case writeTable w | writeOn w => exact written _ _ w
    case readEvents => exact h.moves (emptyDigits_moves s)
    case ring p entry repeats onHook valid => exact h.moves (beginRing_moves repeats onHook valid)
    case ringStop p => exact h.moves (stopRing_moves p s)
    case portControl p a b => exact h.moves (.modPort (.of_same rfl rfl rfl))
    case resetVoice =>
      exact restart_digitsOk (s := s) (by simp [setCursor, resetVoiceScope, resetRecords, vqRemove, restartPorts, State.port,
        Pair.get]) (by simp [setCursor, resetVoiceScope, resetRecords, vqRemove, restartPorts, State.port, Pair.get]; rfl)
    all_goals exact h.of_phone (by simp)
  pop s _ q _ h := h
  reply f s h := h.of_phone (by simp)

end Sys2Proof.Machine
end

section
/-! PROOFS. Every queue within its depth, the store within its partition, and the home port busy while frames wait (R45, R74,
R82 to R84, R93, R94, R106, R108, R144, R154, R159, R164). -/

namespace Sys2Proof.Machine

/-! ## The home port and the egress queues -/

theorem offerWaiting_homePort {s : State} (h : HomePortOk s) : HomePortOk (offerWaiting s) := by
  rcases offerWaiting_cases s with heq | ⟨f, t, ht, heq⟩ <;> rw [heq]
  · exact h
  · exact (mgmtOffer_homePort ht h).of_cls rfl rfl

theorem offerWaiting_egress {s : State} (h : EgressOk s) : EgressOk (offerWaiting s) := by
  rcases offerWaiting_cases s with heq | ⟨f, t, ht, heq⟩ <;> rw [heq]
  · exact h
  · have ht := mgmtOffer_egress ht h
    exact ht

theorem finishSending_homePort {s : State} (h : HomePortOk s) : HomePortOk (finishSending s) := by
  unfold finishSending
  split
  · exact h
  · unfold mgmtSent
    dsimp only
    split
    · refine ⟨fun f hf => ?_, fun f hf => ?_, fun _ hdue => absurd (by simp) hdue⟩ <;> simp at hf
    · refine offerWaiting_homePort (portTake_homePort rfl (fun f hf => ?_) fun f hf => ?_) <;> simp at hf
  · refine portTake_homePort rfl (fun f hf => ?_) fun f hf => ?_ <;> simp at hf
  · refine portTake_homePort rfl (fun f hf => ?_) fun f hf => ?_ <;> simp at hf

theorem finishSending_egress {s : State} (h : EgressOk s) : EgressOk (finishSending s) := by
  obtain ⟨hmgmt, hhome⟩ := h
  unfold finishSending
  split
  · exact ⟨hmgmt, hhome⟩
  · unfold mgmtSent
    dsimp only
    split
    · exact ⟨by simp; omega, by simpa using hhome⟩
    · exact offerWaiting_egress ⟨by simp; omega, by simpa using hhome⟩
  · exact ⟨by simpa [homeSent] using hmgmt, by simp [homeSent]; omega⟩
  · exact ⟨by simpa [homeSent] using hmgmt, by simpa [homeSent] using hhome⟩

theorem homePort_eventKept : EventKept HomePortOk where
  stirs h hs := h.homePort hs
  sent s h := finishSending_homePort h
  filtered f s h := by
    unfold downstream
    split
    · exact h.of_cls rfl rfl
    split
    · exact h.of_cls rfl rfl
    split
    · exact portTake_homePort rfl h.mgmt fun g hg => by simp [h.home g hg]
    · exact h.of_cls rfl rfl
  reply f s h := by
    rcases offerReply_cases f s with heq | heq
    · exact mgmtOffer_homePort heq h
    · rw [heq]
      exact h.of_cls rfl rfl
  params start count entries s _ h := by
    rw [writeParams_eq]
    have hstored : HomePortOk (s.modAgent fun a => { a with params := storeParams a.params start entries }) :=
      h.of_cls rfl rfl
    exact ((tellBlocks_stirs (wroteParam start count) _).homePort hstored).of_cls (by simp) (by simp)
  logRead s h := h.of_cls rfl rfl
  cleared k s h := h.of_cls rfl rfl
  asleep s _ h := h.of_cls rfl rfl
  partition n s _ h := by
    obtain ⟨hmgmt, hhome, hfree⟩ := h
    exact ⟨hmgmt, hhome, hfree⟩
  traffic s h := by
    obtain ⟨hmgmt, hhome, hfree⟩ := h
    refine ⟨fun f hf => ?_, fun f hf => ?_, fun hnone hdue => ?_⟩ <;>
      simp only [resetTrafficScope, State.modCls_cls, homeTrafficReset, schedulerTrafficReset_frame] at *
    · split at hf <;> simp_all
    · split at hf <;> simp_all
    · split at hnone
      all_goals simp_all
  monitor s h := by
    obtain ⟨hmgmt, hhome, hfree⟩ := h
    exact ⟨hmgmt, hhome, hfree⟩
  partReset s := by
    refine ⟨fun f hf => ?_, fun f hf => ?_, fun _ _ => ⟨rfl, rfl⟩⟩ <;> cases hf
  powerOn := by
    refine ⟨fun f hf => ?_, fun f hf => ?_, fun _ _ => ⟨rfl, rfl⟩⟩ <;> cases hf

theorem egress_eventKept : EventKept EgressOk where
  stirs h hs := h.egress hs
  sent s h := finishSending_egress h
  filtered f s h := by
    obtain ⟨hmgmt, hhome⟩ := h
    unfold downstream
    split
    · exact ⟨hmgmt, hhome⟩
    split
    · exact ⟨hmgmt, hhome⟩
    split
    · rename_i hroom
      have hdepth : s.cls.homeQueue.length < 32 := hroom
      exact ⟨by simpa using hmgmt, by simp; omega⟩
    · exact ⟨hmgmt, hhome⟩
  reply f s h := by
    rcases offerReply_cases f s with heq | heq
    · exact mgmtOffer_egress heq h
    · rw [heq]
      exact h
  params start count entries s _ h := by
    rw [writeParams_eq]
    have htold := (tellBlocks_stirs (wroteParam start count) (s.modAgent fun a =>
      { a with params := storeParams a.params start entries })).egress h
    simpa [EgressOk] using htold
  logRead s h := h
  cleared k s h := h
  asleep s _ h := h
  partition n s _ h := h
  traffic s h := ⟨h.1, Nat.zero_le _⟩
  monitor s h := h
  partReset s := ⟨Nat.zero_le _, Nat.zero_le _⟩
  powerOn := ⟨Nat.zero_le _, Nat.zero_le _⟩

/-! ## The log -/

theorem log_eventKept : EventKept LogOk where
  stirs h hs := h.logOk hs
  sent s h := by simpa [LogOk] using h
  filtered f s h := by simpa [LogOk] using h
  reply f s h := by simpa [LogOk] using h
  params start count entries s _ h := by
    rw [writeParams_eq]
    have htold := (tellBlocks_stirs (wroteParam start count) (s.modAgent fun a =>
      { a with params := storeParams a.params start entries })).logOk h
    have hevents : ∀ wrote t, (tellEvents wrote t).evt.log = t.evt.log := by
      intro wrote t
      unfold tellEvents wakeOnMask
      dsimp only
      repeat' split
      all_goals simp
    simpa [LogOk, hevents] using htold
  logRead s h := ⟨h.1, by simp; have := h.2; omega⟩
  cleared k s h := h
  asleep s _ h := h
  partition n s hn _ := ⟨hn, by simp [setPartitionTo, resizeLog]; omega⟩
  traffic s h := h
  monitor s h := ⟨h.1, Nat.zero_le _⟩
  partReset s := ⟨Nat.le_of_ble_eq_true rfl, Nat.zero_le _⟩
  powerOn := ⟨by decide, Nat.zero_le _⟩

/-! ## The class table -/

/-- R74: the class table is as long as N says. -/
def ClassTableOk (s : State) : Prop := s.cls.table.length = 32 + 8 * s.agent.partition

theorem ClassTableOk.of_same {s t : State} (h : ClassTableOk s) (htable : t.cls.table = s.cls.table)
    (hpart : t.agent.partition = s.agent.partition) : ClassTableOk t := by
  rwa [ClassTableOk, htable, hpart]

theorem length_classWalk (f : Bytes) (l : List ClassEntry) : (classWalk f l).1.length = l.length := by
  induction l with
  | nil => rfl
  | cons e rest ih =>
    unfold classWalk
    dsimp only
    split
    · split <;> simp [ih]
    · simp [ih]

theorem managementArrival_partition (f : Bytes) (s : State) :
    (managementArrival f s).agent.partition = s.agent.partition := by
  unfold managementArrival joinRequest
  repeat' split
  all_goals simp

theorem homeArrival_classTable (f : Bytes) (right : Bool) {s : State} (h : ClassTableOk s) :
    ClassTableOk (homeArrival f right s) := by
  unfold homeArrival
  split
  · exact h
  split
  · exact h
  split
  · exact h
  split
  · exact h.of_same (by simp) (managementArrival_partition f s)
  · have hlen : (classifyFrame f s).cls.table.length = s.cls.table.length := by
      rw [← length_classWalk f s.cls.table]
      unfold classifyFrame handUpstream
      dsimp only
      split <;> simp
    rw [ClassTableOk, hlen]
    simpa [ClassTableOk] using h

theorem classTable_preserved : Preserved ClassTableOk where
  queue s q h := h
  powerOn q := rfl
  take d s _ h := by
    cases d
    case partReset => exact rfl
    all_goals exact h.of_same (by simp [runDue]) (by simp [runDue])
  outside c f s hf h := by
    cases c <;> cases hf
    case homeFrameArrival f right => exact homeArrival_classTable f right h
    case homeFrameSent => exact h.of_same (by simp) (by simp)
    all_goals exact h.of_same (by simp [tickStep, tickState]) (by simp [tickStep, tickState])
  effect c s t e h := by
    have written : ∀ t x, Written s t → ClassTableOk (setCursor (some x) t) := by
      intro t x w
      cases w
      case classes start es fits =>
        exact (length_replaceRun fits).trans h
      all_goals exact h.of_same (by simp) (by simp [setCursor, writeParams_agent])
    cases e
    case writeTable w | writeOn w => exact written _ _ w
    case setPartition n hn =>
      simp only [ClassTableOk, setPartitionTo, resizeTable, Config.classSize, State.modAgent_cls, State.modEvt_cls,
        State.modCls_cls, State.modAgent_agent, List.length_append, List.length_take, List.length_replicate]
      omega
    case resetMonitor => simpa [ClassTableOk, resetMonitorScope, setCursor] using h
    case resetTraffic => exact h
    all_goals exact h.of_same (by simp) (by simp [setCursor])
  pop s _ q _ h := h
  reply f s h := h.of_same (by simp) (by simp)

/-! ## The cadence table -/

/-- R108: 8 entries of at most four segments. -/
def CadenceOk (s : State) : Prop := s.phone.cadence.length = 8 ∧ ∀ e ∈ s.phone.cadence, e.length ≤ 4

theorem setPort2Feed_cadence (on : Bool) (s : State) : (setPort2Feed on s).phone.cadence = s.phone.cadence := by
  unfold setPort2Feed
  split
  · split
    · rfl
    · rw [loseFeed_phone]
      rfl
  · split <;> rfl

theorem enterMode_cadence (m : Mode) (s : State) : (enterMode m s).phone.cadence = s.phone.cadence := by
  obtain ⟨u, hphone, -, hphone', -⟩ := enterMode_phone m s
  rw [hphone', setPort2Feed_cadence, hphone]

theorem acceptPin_cadence (p : PinId) (s : State) : (acceptPin p s).phone.cadence = s.phone.cadence := by
  unfold acceptPin
  dsimp only
  split
  · rfl
  · rename_i level _
    rcases workOutMode_cases (s.setSupply (s.supply.setPin p { s.supply.pin p with accepted := some level, stable := 0 }))
      with heq | ⟨m, -, heq⟩ <;> rw [heq]
    · rfl
    · exact enterMode_cadence m _

theorem writeParams_cadence (start count : Nat) (entries : List Bytes) (s : State) :
    (writeParams start count entries s).phone.cadence = s.phone.cadence := by
  rw [writeParams_eq]
  simp only [tellEvents_frame]
  unfold tellPhone
  split
  · rw [setPort2Feed_cadence]
    simp
  · simp

theorem CadenceOk.of_same {s t : State} (h : CadenceOk s) (hc : t.phone.cadence = s.phone.cadence) : CadenceOk t := by
  rwa [CadenceOk, hc]

theorem cadence_preserved : Preserved CadenceOk where
  queue s q h := h
  powerOn q := by
    refine ⟨rfl, ?_⟩
    change ∀ e ∈ cadenceDefault, e.length ≤ 4
    decide
  take d s _ h := by
    by_cases hpart : d = .partReset
    · subst hpart
      refine ⟨rfl, ?_⟩
      change ∀ e ∈ cadenceDefault, e.length ≤ 4
      decide
    by_cases hpin : ∃ p, d = .pin p
    · obtain ⟨p, rfl⟩ := hpin
      exact h.of_same (acceptPin_cadence p _)
    · exact h.of_same (runDue_moves (not_exists.mp hpin) hpart (s.setDue (s.due.erase d))).cadence
  outside c f s hf h := h.of_same (outside_moves hf s).cadence
  effect c s t e h := by
    have written : ∀ t x, Written s t → CadenceOk (setCursor (some x) t) := by
      intro t x w
      cases w
      case cadence start es fits four _ =>
        refine ⟨(length_replaceRun fits).trans h.1, fun e he => ?_⟩
        rcases mem_replaceRun he with he | he
        · exact h.2 e he
        · exact (four e he).le
      case params => exact h.of_same (writeParams_cadence _ _ _ _)
      all_goals exact h
    cases e
    case writeTable w | writeOn w => exact written _ _ w
    case ring p entry repeats onHook valid => exact h
    case ringStop p => exact h.of_same (stopRing_moves p s).cadence
    all_goals exact h.of_same (by simp [setCursor, resetVoiceScope, resetRecords, vqRemove, restartPorts, emptyDigits])
  pop s _ q _ h := h
  reply f s h := h.of_same (by simp)

/-! ## The store -/

/-- R74, R108, R154, R164: the store keeps within its partition, by its four parts. -/
theorem storeOk_step {s t : State} (hs : StoreOk s) (h : step s = .next t) : StoreOk t := by
  obtain ⟨hpart, htable, hlog, hcadence⟩ := hs
  obtain ⟨hpart', hlog'⟩ := log_eventKept.preserved.step ⟨hpart, hlog⟩ h
  exact ⟨hpart', classTable_preserved.step htable h, hlog', cadence_preserved.step hcadence h⟩

end Sys2Proof.Machine
end

section
/-! PROOFS. What can happen to the line scheduler and the channel records: the operations that touch either, and the one
induction over them. -/

namespace Sys2Proof.Machine

/-! ## The operations that touch the scheduler or the records -/

/-- `t` has the scheduler, the records, the supply mode and the parameters of `s`. -/
structure SameSch (s t : State) : Prop where
  sch : t.sch = s.sch
  voice : t.voice = s.voice
  mode : t.supply.mode = s.supply.mode
  params : t.agent.params = s.agent.params

/-- `t` differs from `s` in MQ at most, as messages offered leave it, beside what the scheduler and the records hold. -/
structure MqMoves (s t : State) : Prop where
  sch : t.sch = { s.sch with mq := t.sch.mq }
  mq : s.sch.mq.length ≤ 8 → t.sch.mq.length ≤ 8
  voice : t.voice = s.voice
  mode : t.supply.mode = s.supply.mode
  params : t.agent.params = s.agent.params

theorem SameSch.mqMoves {s t : State} (h : SameSch s t) : MqMoves s t :=
  ⟨by rw [h.sch], by rw [h.sch]; exact id, h.voice, h.mode, h.params⟩

theorem MqMoves.refl (s : State) : MqMoves s s := ⟨rfl, id, rfl, rfl, rfl⟩

theorem MqMoves.trans {s t u : State} (h : MqMoves s t) (k : MqMoves t u) : MqMoves s u :=
  ⟨by rw [k.sch, h.sch], fun hs => k.mq (h.mq hs), k.voice.trans h.voice, k.mode.trans h.mode, k.params.trans h.params⟩

theorem length_dropOldestReport {l r : List Message} (h : dropOldestReport l = some r) : l.length = r.length + 1 := by
  induction l generalizing r with
  | nil => cases h
  | cons m rest ih =>
    unfold dropOldestReport at h
    split at h
    · cases h
      rfl
    · obtain ⟨x, hx, rfl⟩ := Option.map_eq_some_iff.mp h
      simp [ih hx]

theorem mqOffer_moves (m : Message) (s : State) : MqMoves s (mqOffer m s) := by
  have counted : ∀ f, MqMoves s (s.countSch f) := fun f => SameSch.mqMoves ⟨rfl, rfl, rfl, rfl⟩
  unfold mqOffer
  split
  · exact counted _
  split
  · rename_i hroom
    have hdepth : s.sch.mq.length < 8 := hroom
    exact ⟨rfl, fun _ => by simp; omega, rfl, rfl, rfl⟩
  split
  · exact counted _
  split
  · rename_i rest hrest
    have hlen := length_dropOldestReport hrest
    exact ⟨rfl, fun h => by simp; omega, rfl, rfl, rfl⟩
  · exact counted _

section
variable {s t : State}

theorem MqMoves.send (h : MqMoves s t) (c : BusCommand) : MqMoves s (t.send c) :=
  h.trans (SameSch.mqMoves ⟨rfl, rfl, rfl, rfl⟩)

theorem MqMoves.modLoad (h : MqMoves s t) (f : Loading → Loading) : MqMoves s (t.modLoad f) :=
  h.trans (SameSch.mqMoves ⟨rfl, rfl, rfl, rfl⟩)

theorem MqMoves.countLine (h : MqMoves s t) (f : LineCounters → LineCounters) : MqMoves s (t.countLine f) :=
  h.trans (SameSch.mqMoves ⟨rfl, rfl, rfl, rfl⟩)

theorem MqMoves.modEvt (h : MqMoves s t) (f : EventUnit → EventUnit) : MqMoves s (t.modEvt f) :=
  h.trans (SameSch.mqMoves ⟨rfl, rfl, rfl, rfl⟩)

end

theorem cutbackTest_moves (s : State) : MqMoves s (cutbackTest s) := by
  rcases cutbackTest_cases s with ⟨heq, -⟩ | ⟨-, -, heq⟩ <;> rw [heq]
  · exact .refl s
  · unfold sendCutback
    exact ((mqOffer_moves _ s).send _).modLoad _

theorem loadingMargins_moves (ratios : List Byte) (s : State) : MqMoves s (loadingMargins ratios s) := by
  have built : ∀ gs t, MqMoves t (buildOffer gs t) := by
    intro gs t
    unfold buildOffer
    dsimp only
    split
    · exact .refl t
    · unfold sendOffer
      exact ((mqOffer_moves _ t).send _).modLoad _
  unfold loadingMargins
  dsimp only
  split
  · exact SameSch.mqMoves (by constructor <;> simp)
  · split
    · exact .trans (SameSch.mqMoves (by constructor <;> simp)) (built _ _)
    · exact SameSch.mqMoves (by constructor <;> simp)

theorem farOffer_moves (body : Bytes) (s : State) : MqMoves s (farOffer body s) := by
  have declined : ∀ n r, MqMoves s (declineOffer n r s) := fun n r => (mqOffer_moves _ s).countLine _
  unfold farOffer
  split
  · exact declined _ _
  · split
    · exact declined _ _
    · unfold acceptOffer
      exact ((mqOffer_moves _ s).send _).modLoad _

theorem farReport_moves (s : State) : MqMoves s (farReport s) := by
  have aged : SameSch s (s.modEvt fun e => { e with reportAge := incUpTo 255 e.reportAge }) := ⟨rfl, rfl, rfl, rfl⟩
  unfold farReport
  dsimp only
  split
  · split
    · exact (aged.mqMoves.trans (mqOffer_moves _ _)).modEvt _
    · exact aged.mqMoves.trans (mqOffer_moves _ _)
  · exact aged.mqMoves

/-! ## The line-down event -/

/-- R98: `t` is `s` with the data frame in progress to start again and VQ, MQ and the slot empty. -/
structure LineDownSch (s t : State) : Prop where
  sch : t.sch = emptyLineQueues (restartProgress s.sch)
  voice : t.voice = s.voice
  mode : t.supply.mode = s.supply.mode
  params : t.agent.params = s.agent.params

theorem leaveRun_lineDown (dest : LineState) (s : State) : LineDownSch s (leaveRun dest s) := by
  constructor <;> simp [leaveRun, schedulerLineDown]

theorem LineDownSch.between {s t u v : State} (h : SameSch s t) (k : LineDownSch t u) (l : SameSch u v) : LineDownSch s v :=
  ⟨by rw [l.sch, k.sch, h.sch], by rw [l.voice, k.voice, h.voice], by rw [l.mode, k.mode, h.mode],
    by rw [l.params, k.params, h.params]⟩

theorem retrainFromRun_lineDown {s : State} (h : s.inRun = true) (c : Cause) : LineDownSch s (retrainFromRun c s) := by
  rw [retrainFromRun, if_pos h]
  exact .between (t := raise (.withA .lineDown c.code) s) (by constructor <;> simp) (leaveRun_lineDown .training _)
    (by constructor <;> simp)

theorem stopLine_lineDown {s : State} (h : s.inRun = true) : LineDownSch s (stopLine s) := by
  unfold stopLine
  dsimp only
  rw [if_pos (by simpa [State.inRun] using h)]
  have halted : SameSch s ((s.send .halt).modLine fun l => { l with training := none, holdoff := none, silence := none }) :=
    ⟨rfl, rfl, rfl, rfl⟩
  exact .between halted (leaveRun_lineDown .off _) (by constructor <;> simp)

/-! ## Feed and mode -/

/-- What a setting of port 2's feed leaves of the scheduler and the records: nothing has changed, or record 2 has been
closed. -/
theorem setPort2Feed_sch (on : Bool) (s : State) :
    SameSch s (setPort2Feed on s) ∨ ∃ t, SameSch s t ∧ SameSch (closeRecord .p2 t) (setPort2Feed on s) := by
  have closed : ∀ t : State, SameSch (closeRecord .p2 t) (feedLossClose t) := by
    intro t
    unfold feedLossClose closeRecord
    split <;> constructor <;> simp [otherPort]
  unfold setPort2Feed
  split
  · split
    · exact .inl ⟨rfl, rfl, rfl, rfl⟩
    · refine .inr ⟨_, ?_, closed _⟩
      dsimp only
      split <;> constructor <;> simp
  · split <;> exact .inl ⟨rfl, rfl, rfl, rfl⟩

/-! ## The induction -/

/-- What an invariant of the scheduler and the records asks of each operation that touches them. -/
structure SchKept (P : State → Prop) : Prop where
  same : ∀ {s t}, SameSch s t → P s → P t
  mq : ∀ {s t}, MqMoves s t → P s → P t
  lineDown : ∀ {s t}, LineDownSch s t → P s → P t
  mode : ∀ m s t, t.sch = s.sch → t.voice = s.voice → t.supply.mode = m → t.agent.params = s.agent.params → P s →
    P (setShedLevel (t.params.shed.get m) t)
  params : ∀ start entries s t, t.sch = s.sch → t.voice = s.voice → t.supply.mode = s.supply.mode →
    t.agent.params = storeParams s.agent.params start entries → P s →
    P (tellScheduler (wroteParam start entries.length) t)
  closed : ∀ p s, P s → P (closeRecord p s)
  admitted : ∀ i f s, P s → P (admitFrame i f s)
  swept : ∀ i s, P s → P (dropStale i s)
  boundary : ∀ p s, P s → P (boundaryStep p s)
  pulled : ∀ s, P s → P (pullUnit s)
  credited : ∀ n s, P s → P (s.modSch (tickCredit n))
  arrived : ∀ n f s, P s → P (voiceArrives n f s)
  sampled : ∀ one two s, P s → P (sampleStep one two s)
  openedLine : ∀ p stream target idle s, stream ≤ 15 → target = s.params.jitterTarget ∨ (1 ≤ target ∧ target ≤ 6) →
    (s.record p).call = .free → (s.record (otherPort p)).call.lineStream ≠ some stream → P s →
    P (openLine p stream target idle s)
  openedIntercom : ∀ idle s, (∀ p, (s.record p).call = .free) → P s → P (openIntercom idle s)
  lineReset : ∀ s, P s → P (resetLineScope s)
  trafficReset : ∀ s, P s → P (resetTrafficScope s)
  voiceReset : ∀ s, P s → P (resetVoiceScope s)
  monitorReset : ∀ s, P s → P (resetMonitorScope s)
  partReset : ∀ s, P (resetPartState s)
  powerOn : P State.reset

section
variable {P : State → Prop}

theorem SchKept.retrain (k : SchKept P) (c : Cause) {s : State} (h : P s) : P (retrainFromRun c s) := by
  by_cases hrun : s.inRun = true
  · exact k.lineDown (retrainFromRun_lineDown hrun c) h
  · rwa [retrainFromRun_of_not_run hrun]

theorem SchKept.stop (k : SchKept P) {s : State} (h : P s) : P (stopLine s) := by
  by_cases hrun : s.inRun = true
  · exact k.lineDown (stopLine_lineDown hrun) h
  · refine k.same ?_ h
    unfold stopLine
    dsimp only
    rw [if_neg (by simpa [State.inRun] using hrun)]
    constructor <;> simp

theorem SchKept.feed (k : SchKept P) (on : Bool) {s : State} (h : P s) : P (setPort2Feed on s) := by
  rcases setPort2Feed_sch on s with hs | ⟨t, hs, hc⟩
  · exact k.same hs h
  · exact k.same hc (k.closed .p2 t (k.same hs h))

theorem SchKept.enterMode (k : SchKept P) (m : Mode) {s : State} (h : P s) : P (enterMode m s) := by
  have hshed : P (setShedLevel ((recompute (s.setSupply { s.supply with mode := m })).params.shed.get m)
      (recompute (s.setSupply { s.supply with mode := m }))) := k.mode m s _ (by simp) (by simp) (by simp) (by simp) h
  have raised : ∀ e t, P t → P (raise e t) := fun e t => k.same (by constructor <;> simp)
  have entered : ∀ c t, P t → P (enterCondition c t) := fun c t => k.same (by constructor <;> simp)
  have hfed := fun on => k.feed on (k.mq (cutbackTest_moves _) hshed)
  unfold Machine.enterMode
  dsimp only
  split
  · exact raised _ _ (entered _ _ (hfed _))
  · exact raised _ _ (hfed _)

theorem SchKept.acceptPin (k : SchKept P) (p : PinId) {s : State} (h : P s) : P (acceptPin p s) := by
  unfold Machine.acceptPin
  dsimp only
  split
  · exact h
  · rename_i level _
    have hpin : P (s.setSupply (s.supply.setPin p { s.supply.pin p with accepted := some level, stable := 0 })) :=
      k.same (by constructor <;> cases p <;> simp [Supply.setPin]) h
    rcases workOutMode_cases (s.setSupply (s.supply.setPin p { s.supply.pin p with accepted := some level, stable := 0 }))
      with heq | ⟨m, -, heq⟩ <;> rw [heq]
    · exact hpin
    · exact k.enterMode m hpin

theorem SchKept.writeParams (k : SchKept P) (start : Nat) (entries : List Bytes) {s : State} (h : P s) :
    P (writeParams start entries.length entries s) := by
  rw [writeParams_eq]
  have hscheduler : P (tellScheduler (wroteParam start entries.length) (tellRate (wroteParam start entries.length)
      (s.modAgent fun a => { a with params := storeParams a.params start entries }))) :=
    k.params start entries s _ (by simp) (by simp) (by simp) (by simp) h
  have hloading : P (tellLoading (wroteParam start entries.length) (tellScheduler (wroteParam start entries.length)
      (tellRate (wroteParam start entries.length)
        (s.modAgent fun a => { a with params := storeParams a.params start entries })))) := by
    unfold tellLoading
    split
    · exact k.mq (cutbackTest_moves _) hscheduler
    · exact hscheduler
  have hphone : P (tellPhone (wroteParam start entries.length) (tellLoading (wroteParam start entries.length)
      (tellScheduler (wroteParam start entries.length) (tellRate (wroteParam start entries.length)
        (s.modAgent fun a => { a with params := storeParams a.params start entries }))))) := by
    unfold tellPhone
    split
    · exact k.feed _ hloading
    · exact hloading
  exact k.same (by constructor <;> simp) hphone

theorem SchKept.offerFailed (k : SchKept P) (n : Nat) (o : OwnOffer) {s : State} (h : P s) : P (offerFailed n o s) := by
  unfold Machine.offerFailed marginRetrain
  dsimp only
  split
  · exact k.retrain _ (k.same (by constructor <;> simp) h)
  · exact k.same (by constructor <;> simp) h

theorem SchKept.messageStep (k : SchKept P) (kind : MsgKind) (tag : Byte) (body : Bytes) {s : State} (h : P s) :
    P (messageStep kind tag body s) := by
  have declined : ∀ n, P (declineAnswer n s) := by
    intro n
    have counted : P (countAnswer n s) := k.same (by constructor <;> simp) h
    unfold declineAnswer
    split
    · split
      · exact k.offerFailed _ _ h
      · exact counted
    · split
      · exact k.offerFailed _ _ h
      · exact counted
    · exact counted
  cases kind <;> simp only [Machine.messageStep]
  case loadOffer =>
    split
    · exact k.mq (farOffer_moves body s) h
    · exact h
  case loadDecline =>
    split
    · split
      · exact declined _
      · exact k.same (by constructor <;> simp) h
    · exact h
  case farQuery => exact k.mq (mqOffer_moves _ s) h
  case faultReport => exact h
  case farAnswer => exact h
  case cutback =>
    split
    · exact k.same (by constructor <;> simp) h
    · exact h
  case loadTake | cutbackTaken =>
    split
    · split
      · exact k.same (by constructor <;> simp) h
      · exact k.same (by constructor <;> simp) h
    · exact h

theorem SchKept.secondStep (k : SchKept P) {s : State} (h : P s) : P (secondStep s) := by
  have hcounted : P (countSecond (takeAvailability (isSes s) (beginSecond s))) := k.same (by constructor <;> simp) h
  have swept : ∀ (l : List Ix4) t, P t → P (l.foldl (fun t i => dropStale i t) t) := by
    intro l
    induction l with
    | nil => exact fun _ ht => ht
    | cons i l ih => exact fun t ht => ih _ (k.swept i t ht)
  have ended : ∀ t, P t → P (dueInterval (farReport (staleSweep t))) := fun t ht =>
    k.same (s := farReport (staleSweep t)) (by constructor <;> simp) (k.mq (farReport_moves _) (swept Ix4.all t ht))
  unfold Machine.secondStep orderRetrain
  dsimp only
  split
  · exact ended _ (k.retrain .unavailable hcounted)
  · exact ended _ hcounted

/-- A state that is another's after the cutback test, the other having the scheduler and records of the first. -/
theorem switchFarChange_sameSch (f : FarPending) (s : State) :
    ∃ u, SameSch s u ∧ switchFarChange f s = cutbackTest u := by
  refine ⟨_, ?_, rfl⟩
  cases f.newProt <;> constructor <;> simp

theorem switchCutback_sameSch (c : CutbackOut) (s : State) : ∃ u, SameSch s u ∧ switchCutback c s = cutbackTest u := by
  refine ⟨_, ?_, rfl⟩
  constructor <;> simp

theorem SchKept.tested (k : SchKept P) {s t : State} (ht : ∃ u, SameSch s u ∧ t = cutbackTest u) (h : P s) : P t := by
  obtain ⟨u, hu, rfl⟩ := ht
  exact k.mq (cutbackTest_moves u) (k.same hu h)

theorem SchKept.runDue (k : SchKept P) (d : Due) {s : State} (h : P s) : P (runDue d s) := by
  cases d <;> simp only [Machine.runDue]
  case silenceExpiry => exact k.retrain _ h
  case pin p => exact k.acceptPin p h
  case secondTick => exact k.secondStep h
  case offerDeadline =>
    unfold offerDeadlineStep
    split
    · exact k.offerFailed _ _ h
    · exact h
    · exact h
  case farChangeSwitch =>
    unfold farChangeStep
    split
    · exact k.tested (switchFarChange_sameSch _ s) h
    · exact h
    · exact h
  case cutbackSwitch =>
    unfold cutbackSwitchStep
    split
    · exact k.tested (switchCutback_sameSch _ s) h
    · exact h
    · exact h
  case arrival a =>
    cases a
    case data f => exact k.same (by constructor <;> simp [arrivalStep]) h
    case voice n f => exact k.arrived n f s h
    case message kind tag body => exact k.messageStep kind tag body h
  case frameBoundary p => exact k.boundary p s h
  case partReset => exact k.partReset s
  all_goals exact k.same (by constructor <;> simp) h

theorem SchKept.outside (k : SchKept P) {c : Instr} {f : State → State} (hf : outsideOf c = some f) {s : State} (h : P s) :
    P (f s) := by
  have admitted : ∀ i g t, SameSch s t → P (admitFrame i g t) := fun i g t ht => k.admitted i g t (k.same ht h)
  cases c <;> cases hf
  case msTick a b =>
    exact k.same (by constructor <;> simp [tickStep, tickState, tickSupply]) (k.credited s.rate.effTx s h)
  case trained r =>
    unfold trainedStep
    split
    · split
      · exact k.tested ⟨_, by constructor <;> simp, rfl⟩ h
      · exact k.same (by constructor <;> simp) h
    · exact h
  case signalLost =>
    unfold signalLostStep
    split
    · exact k.retrain _ (k.same (by constructor <;> simp) h)
    · exact h
  case marginReport ratios =>
    unfold marginReportStep
    split
    · exact k.mq (loadingMargins_moves ratios _) (k.same (by constructor <;> simp) h)
    · exact h
  case unitPull => exact k.pulled s h
  case homeFrameArrival f right =>
    unfold homeArrival classifyFrame handUpstream
    dsimp only
    split
    · exact k.same (by constructor <;> simp) h
    split
    · exact k.same (by constructor <;> simp) h
    split
    · exact k.same (by constructor <;> simp) h
    split
    · exact k.same (by constructor <;> simp) h
    split
    · exact admitted _ _ _ (by constructor <;> simp)
    · exact k.same (by constructor <;> simp) h
    · exact admitted _ _ _ (by constructor <;> simp)
  case sampleFrame one two => exact k.sampled one two s h
  all_goals exact k.same (by constructor <;> simp) h

theorem SchKept.effect (k : SchKept P) {c : Instr} {s t : State} (e : Effect s c t) (h : P s) : P t := by
  have cursor : ∀ {u} x, P u → P (setCursor x u) := fun x hu => k.same (by constructor <;> simp) hu
  have written : ∀ {u}, Written s u → P u := by
    intro u w
    cases w
    case params start count entries all _ => exact all ▸ k.writeParams start entries h
    all_goals exact k.same (by constructor <;> simp) h
  cases e
  case writeTable w | writeOn w => exact cursor _ (written w)
  case stop => exact k.stop h
  case retrainRun => exact k.retrain _ h
  case openLine hstream hrange hfree _ hother => exact k.openedLine _ _ _ _ s hstream hrange hfree hother h
  case openIntercom hfree _ => exact k.openedIntercom _ s hfree h
  case close p => exact k.closed p s h
  case resetLine => exact cursor _ (k.lineReset s h)
  case resetTraffic => exact cursor _ (k.trafficReset s h)
  case resetVoice => exact cursor _ (k.voiceReset s h)
  case resetMonitor => exact cursor _ (k.monitorReset s h)
  all_goals exact k.same (by constructor <;> simp) h

theorem SchKept.preserved (k : SchKept P) : Preserved P where
  queue s _ h := k.same (s := s) ⟨rfl, rfl, rfl, rfl⟩ h
  powerOn _ := k.same (s := State.reset) ⟨rfl, rfl, rfl, rfl⟩ k.powerOn
  take d s _ h := k.runDue d (k.same (s := s) ⟨rfl, rfl, rfl, rfl⟩ h)
  outside _ _ _ hf h := k.outside hf h
  effect _ _ _ e h := k.effect e h
  pop s _ _ _ h := k.same (s := s) ⟨rfl, rfl, rfl, rfl⟩ h
  reply _ _ h := k.same (by constructor <;> simp) h

end

end Sys2Proof.Machine
end

section
/-! PROOFS. MQ and the credit, the request queue, the burst history and the interval history within their depths (R45, R93, R94,
R144, R159), and with the rest of the depths, the store and the home port what every step keeps of them. -/

namespace Sys2Proof.Machine

/-! ## VQ at a frame boundary and a close -/

@[simp] theorem vqDrop_sch (p : PortId) (s : State) :
    (vqDrop p s).sch = { s.sch with vq := dropOldestUnstarted p s.sch.vq } := by
  simp [vqDrop, countVqDrop]

/-- R91: VQ after a frame of a record is offered: the record's fifth frame has removed its oldest that is not started. -/
def vqJoined (f : VqFrame) (vq : List VqFrame) : List VqFrame :=
  (if (vqOf vq f.port).length < 4 then vq else dropOldestUnstarted f.port vq) ++ [f]

theorem vqOffer_sch (f : VqFrame) (s : State) : (vqOffer f s).sch = { s.sch with vq := vqJoined f s.sch.vq } := by
  unfold vqOffer vqJoined Config.vqPerRecord
  dsimp only
  split <;> simp

/-- R122: the voice frame that a record's 80 samples form. -/
def LineCall.formedFrame (c : LineCall) (p : PortId) : VqFrame :=
  { port := p, stream := c.stream, bytes := voiceFrameBytes c.stream (!c.formed) c.seq c.samples, started := false }

theorem formFrame_sch {p : PortId} {s : State} {c : LineCall} (h : (s.record p).call = .line c) :
    (formFrame p s).sch =
      if s.inRun then { s.sch with vq := vqJoined (c.formedFrame p) s.sch.vq } else s.sch := by
  unfold formFrame
  dsimp only
  rw [h]
  dsimp only
  split
  · rw [vqOffer_sch]
    rfl
  · simp

theorem formFrame_of_not_line {p : PortId} {s : State} (h : ∀ c, (s.record p).call ≠ .line c) : formFrame p s = s := by
  unfold formFrame
  dsimp only
  split
  · exact absurd ‹_› (h _)
  · rfl
  · rfl

@[simp] theorem takePlayout_sch (p : PortId) (s : State) : (takePlayout p s).sch = s.sch := by
  unfold takePlayout
  dsimp only
  repeat' split
  all_goals simp

/-- A frame boundary touches nothing of the scheduler but VQ. -/
theorem boundaryStep_sch (p : PortId) (s : State) :
    (boundaryStep p s).sch = { s.sch with vq := (boundaryStep p s).sch.vq } := by
  unfold boundaryStep
  rw [takePlayout_sch]
  by_cases h : ∃ c, (s.record p).call = .line c
  · obtain ⟨c, hc⟩ := h
    rw [formFrame_sch hc]
    split <;> rfl
  · rw [formFrame_of_not_line (not_exists.mp h)]

theorem freeRecord_sch (p : PortId) (s : State) :
    (freeRecord p s).sch = { s.sch with vq := s.sch.vq.filter fun f => f.port != p } := by
  simp [freeRecord, vqRemove]

theorem closeRecord_sch (p : PortId) (s : State) :
    (closeRecord p s).sch = { s.sch with vq := (closeRecord p s).sch.vq } := by
  unfold closeRecord
  split
  · rfl
  · rw [freeRecord_sch]
  · rw [freeRecord_sch, freeRecord_sch]

/-! ## MQ and the credit -/

/-- R93, R94: MQ within its depth and the credit within the bucket. -/
def MqCreditOk (x : Scheduler) : Prop := x.mq.length ≤ 8 ∧ x.credit ≤ 32000

theorem SameLineQueues.mqCredit {s t : State} (h : SameLineQueues s t) (hs : MqCreditOk s.sch) : MqCreditOk t.sch := by
  unfold MqCreditOk
  rwa [h.mq, h.credit]

theorem drrVisit_line (p : Params) (x : Scheduler) : (drrVisit p x).vq = x.vq ∧ (drrVisit p x).mq = x.mq ∧
    (drrVisit p x).slot = x.slot ∧ (drrVisit p x).credit = x.credit := by
  unfold drrVisit giveQuantum passTurn
  dsimp only
  repeat' split
  all_goals simp

theorem drrSelect_lineQueues (n : Nat) (s : State) : SameLineQueues s (drrSelect n s) := by
  induction n generalizing s with
  | zero => exact .refl s
  | succ n ih =>
    unfold drrSelect
    dsimp only
    split
    · exact ⟨rfl, rfl, rfl, rfl⟩
    · have hlooked : SameLineQueues s (if shedAt s.sch.shedLevel s.sch.turn.queue then s
          else dropStale s.sch.turn.queue s) := by
        split
        · exact .refl s
        · exact dropStale_lineQueues _ s
      generalize (if shedAt s.sch.shedLevel s.sch.turn.queue then s else dropStale s.sch.turn.queue s) = t at hlooked ⊢
      obtain ⟨hvq, hmq, hslot, hcredit⟩ := drrVisit_line t.params t.sch
      have hvisited : SameLineQueues s (t.modSch (drrVisit t.params)) := hlooked.trans ⟨hvq, hmq, hslot, hcredit⟩
      split
      · exact hvisited
      · exact hvisited.trans (ih _)

theorem selectData_lineQueues (s : State) : SameLineQueues s (selectData s) := by
  unfold selectData
  dsimp only
  split
  · exact (dropStale_lineQueues .i0 s).trans (drrSelect_lineQueues _ _)
  · exact (dropStale_lineQueues .i0 s).trans ⟨rfl, rfl, rfl, rfl⟩

theorem nextUnit_mqCredit {s : State} (h : MqCreditOk s.sch) : MqCreditOk (nextUnit s).1.sch := by
  have data : ∀ i t, MqCreditOk t.sch → MqCreditOk (giveData i t).1.sch := by
    intro i t ht
    obtain ⟨hmq, hcredit⟩ := ht
    unfold giveData
    dsimp only
    split
    · exact ⟨hmq, hcredit⟩
    · split <;> exact ⟨hmq, by simp [payUnit]; omega⟩
  have message : ∀ m n t, MqCreditOk t.sch → MqCreditOk (giveMessage m n t).1.sch := by
    intro m n t ht
    obtain ⟨hmq, hcredit⟩ := ht
    unfold giveMessage
    dsimp only
    split <;> exact ⟨by simpa [payUnit] using hmq, by simp [payUnit]; omega⟩
  obtain ⟨hmq, hcredit⟩ := h
  unfold nextUnit
  split
  · exact ⟨hmq, hcredit⟩
  split
  · exact message _ _ _ ⟨hmq, hcredit⟩
  · rename_i m rest _ hrest
    refine message _ _ _ ⟨?_, hcredit⟩
    rw [hrest, List.length_cons] at hmq
    simp only [State.modSch_sch]
    omega
  · split
    · unfold giveVoice
      dsimp only
      split
      · exact ⟨by simpa [payUnit] using hmq, by simp [payUnit]; omega⟩
      · split
        · exact ⟨hmq, hcredit⟩
        · exact ⟨by simpa [payUnit] using hmq, by simp [payUnit]; omega⟩
    · unfold nextData
      dsimp only
      split
      · exact data _ _ ⟨hmq, hcredit⟩
      · have hselected := (selectData_lineQueues s).mqCredit ⟨hmq, hcredit⟩
        split
        · exact data _ _ hselected
        · exact hselected

theorem pullUnit_sch (s : State) :
    (pullUnit s).sch = if s.inRun then (nextUnit s).1.sch else s.sch := by
  unfold pullUnit
  split
  · split <;> rename_i heq <;> rw [heq] <;> simp
  · simp

theorem mqCredit_schKept : SchKept (fun s => MqCreditOk s.sch) where
  same h hs := by rwa [h.sch]
  mq h hs := by
    rw [h.sch]
    exact ⟨h.mq hs.1, hs.2⟩
  lineDown {s t} h hs := by
    rw [h.sch]
    refine ⟨Nat.zero_le _, ?_⟩
    unfold emptyLineQueues restartProgress
    dsimp only
    split <;> exact hs.2
  mode m s t h _ _ _ hs := (setShedLevel_lineQueues _ t).mqCredit (h ▸ hs)
  params start entries s t h _ _ _ hs := (tellScheduler_lineQueues _ t).mqCredit (h ▸ hs)
  closed p s hs := by
    rw [closeRecord_sch]
    exact hs
  admitted i f s hs := (admitFrame_lineQueues i f s).mqCredit hs
  swept i s hs := (dropStale_lineQueues i s).mqCredit hs
  boundary p s hs := by
    rw [boundaryStep_sch]
    exact hs
  pulled s hs := by
    rw [pullUnit_sch]
    split
    · exact nextUnit_mqCredit hs
    · exact hs
  credited n s hs := ⟨hs.1, Nat.min_le_left _ _⟩
  arrived n f s hs := by simpa using hs
  sampled one two s hs := by simpa using hs
  openedLine p stream target idle s _ _ _ _ hs := hs
  openedIntercom idle s _ hs := hs
  lineReset s hs := by
    refine ⟨Nat.zero_le _, ?_⟩
    simp only [resetLineScope, schedulerLineReset, State.modSch_sch]
    unfold emptyLineQueues restartProgress
    dsimp only
    split <;> exact hs.2
  trafficReset s _ := ⟨Nat.zero_le _, Nat.zero_le _⟩
  voiceReset s hs := hs
  monitorReset s hs := hs
  partReset s := ⟨Nat.zero_le _, Nat.zero_le _⟩
  powerOn := ⟨Nat.zero_le _, Nat.zero_le _⟩

/-! ## Requests, bursts and intervals -/

/-- R159: the request queue within its depth. -/
def RequestsOk (s : State) : Prop := s.agent.queue.length ≤ 4

theorem homeArrival_requests (f : Bytes) (right : Bool) {s : State} (h : RequestsOk s) : RequestsOk (homeArrival f right s) := by
  have classified : (classifyFrame f s).agent = s.agent := by simp
  unfold homeArrival managementArrival
  split
  · exact h
  split
  · exact h
  split
  · exact h
  split
  · split
    · exact h
    split
    · rename_i hroom
      have hdepth : s.agent.queue.length < 4 := hroom
      simp only [RequestsOk, joinRequest, offerNotice_frame, State.modEvt_agent, State.modAgent_agent, List.length_append,
        List.length_singleton]
      omega
    · exact h
  · rwa [RequestsOk, classified]

theorem requests_preserved : Preserved RequestsOk where
  queue s q h := h
  powerOn q := Nat.zero_le _
  take d s _ h := by
    cases d
    case partReset => exact Nat.zero_le _
    all_goals simpa [RequestsOk, runDue] using h
  outside c f s hf h := by
    cases c <;> cases hf
    case homeFrameArrival f right => exact homeArrival_requests f right h
    all_goals simpa [RequestsOk, tickStep, tickState] using h
  effect c s t e h := by
    have written : ∀ u, Written s u → u.agent.queue = s.agent.queue := by
      intro u w
      cases w <;> simp [writeParams_agent]
    cases e
    case writeTable w | writeOn w => simpa [RequestsOk, written _ w] using h
    all_goals simpa [RequestsOk, setPartitionTo] using h
  pop s r q hq h := by
    have hlen : q.length + 1 ≤ 4 := by simpa [RequestsOk, hq] using h
    exact Nat.le_of_succ_le hlen
  reply f s h := by simpa [RequestsOk] using h

/-- R45: the burst history within its depth. -/
def BurstsOk (s : State) : Prop := s.track.history.length ≤ 8

theorem length_addBurst (h : List Burst) (b : Burst) (hlen : h.length ≤ 8) : (addBurst h b).length ≤ 8 := by
  unfold addBurst Config.historyDepth
  split <;> simp <;> omega

theorem trackReport_bursts (bs : List ReportedBurst) {s : State} (h : BurstsOk s) : BurstsOk (trackReport bs s) := by
  have tracked : ∀ b t, BurstsOk t → BurstsOk (trackBurst b t) := by
    intro b t ht
    unfold trackBurst
    split
    · split <;> exact ht
    · split
      · simpa [BurstsOk] using ht
      · exact ht
  have taken : ∀ t b, BurstsOk t → BurstsOk (takeBurst t b) := by
    intro t b ht
    have hadded : BurstsOk ((t.modTrack fun x => { x with history := addBurst x.history b }).countLine fun c =>
        { c with bursts := satInc c.bursts }) := length_addBurst _ b ht
    unfold takeBurst
    split
    · split
      · rename_i hlast _
        have hpos := List.length_pos_of_mem (List.mem_of_getLast? hlast)
        have hlen : t.track.history.length ≤ 8 := ht
        simp only [BurstsOk, State.modTrack_track, List.length_append, List.length_dropLast, List.length_singleton]
        omega
      · exact tracked b _ hadded
    · exact tracked b _ hadded
  have missed : ∀ c t, BurstsOk t → BurstsOk (missTest c t) := by
    intro c t ht
    unfold missTest
    split
    · exact ht
    · split
      · dsimp only
        split
        · simp [BurstsOk]
        · exact ht
      · exact ht
  have folded : ∀ (l : List Burst) t, BurstsOk t → BurstsOk (l.foldl takeBurst t) := by
    intro l
    induction l with
    | nil => exact fun _ ht => ht
    | cons b l ih => exact fun t ht => ih _ (taken t b ht)
  exact missed _ _ (folded _ s h)

theorem BurstsOk.of_track {s t : State} (h : BurstsOk s) (ht : t.track.history = s.track.history) : BurstsOk t := by
  rwa [BurstsOk, ht]

theorem installProtection_history (d : Direction) (p : Protection) (s : State) :
    (installProtection d p s).track.history = s.track.history := by
  unfold installProtection
  dsimp only
  split <;> simp

theorem retrainFromRun_history (c : Cause) (s : State) : (retrainFromRun c s).track.history = s.track.history := by
  unfold retrainFromRun
  split <;> simp [leaveRun, clearSchedules]

theorem offerFailed_history (n : Nat) (o : OwnOffer) (s : State) : (offerFailed n o s).track.history = s.track.history := by
  unfold offerFailed marginRetrain
  dsimp only
  split <;> simp [retrainFromRun_history]

theorem declineAnswer_history (n : Byte) (s : State) : (declineAnswer n s).track.history = s.track.history := by
  unfold declineAnswer
  repeat' split
  all_goals simp [offerFailed_history]

theorem runDue_history {d : Due} (hpart : d ≠ .partReset) (s : State) : (runDue d s).track.history = s.track.history := by
  cases d <;> simp only [runDue]
  case partReset => exact absurd rfl hpart
  case silenceExpiry => exact retrainFromRun_history _ s
  case secondTick =>
    unfold secondStep orderRetrain
    dsimp only
    split <;> simp [retrainFromRun_history]
  case offerDeadline =>
    unfold offerDeadlineStep
    split <;> simp [offerFailed_history]
  case offerSwitch =>
    unfold offerSwitchStep switchOffer
    split
    · dsimp only
      split <;> simp [installProtection_history]
    · rfl
    · rfl
  case farChangeSwitch =>
    unfold farChangeStep switchFarChange
    split
    · dsimp only
      split <;> simp [installProtection_history]
    · rfl
    · rfl
  case guard => simp [guardCountdown]
  case arrival a =>
    cases a
    case message k tag body =>
      unfold arrivalStep messageStep
      dsimp only
      repeat' split
      all_goals simp [declineAnswer_history]
    all_goals simp [arrivalStep]
  all_goals simp

theorem ageHistory_length (c : Word32) (h : List Burst) : (ageHistory c h).length ≤ h.length := List.length_filter_le _ _

theorem bursts_preserved : Preserved BurstsOk where
  queue s q h := h
  powerOn q := Nat.zero_le _
  take d s _ h := by
    by_cases hpart : d = .partReset
    · subst hpart
      exact Nat.zero_le _
    · exact BurstsOk.of_track (s := s.setDue (s.due.erase d)) h (runDue_history hpart _)
  outside c f s hf h := by
    cases c <;> cases hf
    case trained r =>
      refine h.of_track ?_
      unfold trainedStep enterRun
      repeat' split
      all_goals simp [clearSchedules]
    case signalLost =>
      refine h.of_track ?_
      unfold signalLostStep
      split <;> simp [retrainFromRun_history]
    case frameReport r =>
      unfold frameReportStep
      split
      · exact h
      · exact trackReport_bursts _ h
      · exact trackReport_bursts _ h
      · exact h
    case marginReport ratios =>
      unfold marginReportStep
      split
      · have haged : BurstsOk (decideProtection s) := (ageHistory_length _ _).trans h
        exact haged.of_track (by simp)
      · exact h
    all_goals exact h.of_track (by simp [tickStep, tickState])
  effect c s t e h := by
    have written : ∀ u, Written s u → u.track.history = s.track.history := by
      intro u w
      cases w <;> simp
    cases e
    case writeTable w | writeOn w => exact h.of_track (by simpa using written _ w)
    case stop =>
      refine h.of_track ?_
      unfold stopLine
      dsimp only
      split <;> simp [leaveRun, clearSchedules]
    case retrainRun => exact h.of_track (retrainFromRun_history _ s)
    case resetLine => exact Nat.zero_le _
    all_goals exact h.of_track (by simp)
  pop s _ q _ h := h
  reply f s h := h.of_track (by simp)

end Sys2Proof.Machine
end

section
/-! PROOFS. The seconds, the residency counters and the interval history, which only a 1 s tick, the close of an interval and the
resets change (R138, R141, R144); and with them the depths (R45, R82, R83, R93, R94, R106, R144, R159). -/

namespace Sys2Proof.Machine

/-- The seconds, the performance counters and the interval history. -/
def Monitor.tally (m : Monitor) : Nat × PerfCounters × List Interval := (m.seconds, m.perf, m.history)

theorem Monitor.tally_eq_iff {m n : Monitor} :
    m.tally = n.tally ↔ m.seconds = n.seconds ∧ m.perf = n.perf ∧ m.history = n.history := by
  simp [Monitor.tally]

/-! ## What leaves the tally as it is -/

section
variable (s : State)

@[simp] theorem State.countLine_tally (f) : (s.countLine f).mon.tally = s.mon.tally := rfl
@[simp] theorem State.countTraffic_tally (f) : (s.countTraffic f).mon.tally = s.mon.tally := rfl
@[simp] theorem State.countCls_tally (f) : (s.countCls f).mon.tally = s.mon.tally := rfl
@[simp] theorem State.countSch_tally (f) : (s.countSch f).mon.tally = s.mon.tally := rfl
@[simp] theorem State.countVoice_tally (f) : (s.countVoice f).mon.tally = s.mon.tally := rfl
@[simp] theorem State.countPort_tally (p f) : (s.countPort p f).mon.tally = s.mon.tally := rfl
@[simp] theorem State.countCall_tally (p f) : (s.countCall p f).mon.tally = s.mon.tally := rfl
@[simp] theorem State.modInterval_tally (f) : (s.modInterval f).mon.tally = s.mon.tally := rfl

theorem Quiet.tally {s t : State} (h : Quiet s t) : t.mon.tally = s.mon.tally := by rw [h.mon]; rfl

@[simp] theorem raise_tally (e : Event) : (raise e s).mon.tally = s.mon.tally := (raise_quiet e s).tally
@[simp] theorem offerNotice_tally : (offerNotice s).mon.tally = s.mon.tally := (offerNotice_quiet s).tally
@[simp] theorem enterCondition_tally (c : Condition) : (enterCondition c s).mon.tally = s.mon.tally :=
  (enterCondition_quiet c s).tally
@[simp] theorem seeMessage_tally (b : Bool) (k : MsgKind) : (seeMessage b k s).mon.tally = s.mon.tally :=
  (seeMessage_quiet b k s).tally
@[simp] theorem recompute_tally : (recompute s).mon.tally = s.mon.tally := by
  rw [(recompute_quiet s).tally]
  rfl

@[simp] theorem mqOffer_tally (m : Message) : (mqOffer m s).mon.tally = s.mon.tally := by
  unfold mqOffer
  repeat' split
  all_goals simp

@[simp] theorem cutbackTest_tally : (cutbackTest s).mon.tally = s.mon.tally := by
  rcases cutbackTest_cases s with ⟨heq, -⟩ | ⟨-, -, heq⟩ <;> rw [heq]
  simp [sendCutback]

@[simp] theorem leaveRun_tally (dest : LineState) : (leaveRun dest s).mon.tally = s.mon.tally := by
  simp [leaveRun, schedulerLineDown]

@[simp] theorem raiseRetrain_tally (c : Cause) : (raiseRetrain c s).mon.tally = s.mon.tally := by simp [raiseRetrain]

@[simp] theorem retrainFromRun_tally (c : Cause) : (retrainFromRun c s).mon.tally = s.mon.tally := by
  unfold retrainFromRun
  split <;> simp [enterTraining]

@[simp] theorem stopLine_tally : (stopLine s).mon.tally = s.mon.tally := by
  unfold stopLine
  dsimp only
  split <;> simp

@[simp] theorem trainingFailed_tally (n : Nat) : (trainingFailed n s).mon.tally = s.mon.tally := by simp [trainingFailed]

@[simp] theorem enterRun_tally (r : TrainedRecord) (lv : Dirs Level) : (enterRun r lv s).mon.tally = s.mon.tally := by
  simp [enterRun]

@[simp] theorem trackBurst_tally (b : Burst) : (trackBurst b s).mon.tally = s.mon.tally := by
  unfold trackBurst
  split <;> split <;> simp

@[simp] theorem takeBurst_tally (b : Burst) : (takeBurst s b).mon.tally = s.mon.tally := by
  unfold takeBurst
  split
  · split <;> simp
  · simp

@[simp] theorem missTest_tally (c : Word32) : (missTest c s).mon.tally = s.mon.tally := by
  unfold missTest
  split
  · rfl
  · split
    · dsimp only
      split <;> simp
    · rfl

@[simp] theorem trackReport_tally (bs : List ReportedBurst) : (trackReport bs s).mon.tally = s.mon.tally := by
  simp only [trackReport, missTest_tally]
  exact foldl_keep (fun t : State => t.mon.tally) _ (fun t b => takeBurst_tally t b) _ s

@[simp] theorem installProtection_tally (d : Direction) (p : Protection) :
    (installProtection d p s).mon.tally = s.mon.tally := by
  unfold installProtection
  dsimp only
  split <;> simp

@[simp] theorem offerFailed_tally (n : Nat) (o : OwnOffer) : (offerFailed n o s).mon.tally = s.mon.tally := by
  unfold offerFailed marginRetrain
  dsimp only
  split <;> simp

@[simp] theorem switchOffer_tally (o : OwnOffer) : (switchOffer o s).mon.tally = s.mon.tally := by
  unfold switchOffer
  dsimp only
  split <;> simp

@[simp] theorem switchFarChange_tally (f : FarPending) : (switchFarChange f s).mon.tally = s.mon.tally := by
  unfold switchFarChange
  dsimp only
  split <;> simp

@[simp] theorem switchCutback_tally (c : CutbackOut) : (switchCutback c s).mon.tally = s.mon.tally := by simp [switchCutback]

@[simp] theorem countAnswer_tally (n : Byte) : (countAnswer n s).mon.tally = s.mon.tally := by
  unfold countAnswer
  split <;> simp

@[simp] theorem messageStep_tally (k : MsgKind) (tag : Byte) (body : Bytes) :
    (messageStep k tag body s).mon.tally = s.mon.tally := by
  unfold messageStep takeAnswer declineAnswer farOffer declineOffer acceptOffer cutbackAnswer farQueryStep countMalformed
  repeat' split
  all_goals simp

@[simp] theorem completeDigit_tally (p : PortId) : (completeDigit p s).mon.tally = s.mon.tally := by
  unfold completeDigit
  dsimp only
  split
  · simp [State.modPort]
  · split <;> simp [State.modPort]

@[simp] theorem raiseRingDone_tally (p : PortId) (n : Nat) : (raiseRingDone p n s).mon.tally = s.mon.tally := by
  simp [raiseRingDone]

@[simp] theorem liftPort_tally (p : PortId) : (liftPort p s).mon.tally = s.mon.tally := by simp [liftPort]

@[simp] theorem acceptOffHook_tally (p : PortId) : (acceptOffHook p s).mon.tally = s.mon.tally := by
  unfold acceptOffHook breakEnds
  repeat' split
  all_goals simp

@[simp] theorem acceptHook_tally (p : PortId) : (acceptHook p s).mon.tally = s.mon.tally := by
  unfold acceptHook acceptOnHook
  dsimp only
  split
  · rfl
  · split
    · simp
    · split <;> simp

@[simp] theorem loseFeed_tally : (loseFeed s).mon.tally = s.mon.tally := by
  unfold loseFeed feedLossClose
  dsimp only
  split <;> split <;> simp

@[simp] theorem setPort2Feed_tally (on : Bool) : (setPort2Feed on s).mon.tally = s.mon.tally := by
  unfold setPort2Feed
  repeat' split
  all_goals simp

@[simp] theorem vqOffer_tally (f : VqFrame) : (vqOffer f s).mon.tally = s.mon.tally := by
  unfold vqOffer vqDrop countVqDrop
  dsimp only
  split <;> simp

@[simp] theorem formFrame_tally (p : PortId) : (formFrame p s).mon.tally = s.mon.tally := by
  unfold formFrame
  dsimp only
  repeat' split
  all_goals simp

@[simp] theorem takePlayout_tally (p : PortId) : (takePlayout p s).mon.tally = s.mon.tally := by
  unfold takePlayout
  dsimp only
  repeat' split
  all_goals simp

@[simp] theorem stopRing_tally (p : PortId) : (stopRing p s).mon.tally = s.mon.tally := by
  unfold stopRing
  split <;> simp

/-! ## Queues and units -/

@[simp] theorem dropStale_tally (i : Ix4) : (dropStale i s).mon.tally = s.mon.tally := by
  unfold dropStale
  split <;> simp

@[simp] theorem staleSweep_tally : (staleSweep s).mon.tally = s.mon.tally :=
  foldl_keep (fun t : State => t.mon.tally) _ (fun t i => dropStale_tally t i) _ s

@[simp] theorem setShedLevel_tally (n : Nat) : (setShedLevel n s).mon.tally = s.mon.tally := by
  have flushed : ∀ (t : State) i,
      (if shedAt n i && !shedAt s.sch.shedLevel i then flushShed i t else t).mon.tally = t.mon.tally := by
    intro t i
    split <;> simp [flushShed]
  exact foldl_keep (fun t : State => t.mon.tally) _ flushed _ _

@[simp] theorem enterMode_tally (m : Mode) : (enterMode m s).mon.tally = s.mon.tally := by
  unfold enterMode
  dsimp only
  split <;> simp

@[simp] theorem acceptPin_tally (p : PinId) : (acceptPin p s).mon.tally = s.mon.tally := by
  unfold acceptPin
  dsimp only
  split
  · rfl
  · rcases workOutMode_cases (s.setSupply (s.supply.setPin p { s.supply.pin p with accepted := some _, stable := 0 }))
      with heq | ⟨m, -, heq⟩ <;> rw [heq] <;> simp

@[simp] theorem writeParams_tally (start count : Nat) (entries : List Bytes) :
    (writeParams start count entries s).mon.tally = s.mon.tally := by
  have rate : ∀ (wrote : Nat → Bool) (t : State), (tellRate wrote t).mon.tally = t.mon.tally := by
    intro wrote t
    unfold tellRate
    repeat' split
    all_goals simp
  have scheduler : ∀ (wrote : Nat → Bool) (t : State), (tellScheduler wrote t).mon.tally = t.mon.tally := by
    intro wrote t
    refine (foldl_keep (fun u : State => u.mon.tally) _ (fun u i => ?_) _ _).trans ?_
    · split <;> simp [applyLimit]
    · split <;> simp
  have loading : ∀ (wrote : Nat → Bool) (t : State), (tellLoading wrote t).mon.tally = t.mon.tally := by
    intro wrote t
    unfold tellLoading
    split <;> simp
  have phone : ∀ (wrote : Nat → Bool) (t : State), (tellPhone wrote t).mon.tally = t.mon.tally := by
    intro wrote t
    unfold tellPhone
    split <;> simp
  simp [writeParams, phone, loading, scheduler, rate]

@[simp] theorem joinRequest_tally (f : Bytes) : (joinRequest f s).mon.tally = s.mon.tally := by simp [joinRequest]

@[simp] theorem homeArrival_tally (f : Bytes) (right : Bool) : (homeArrival f right s).mon.tally = s.mon.tally := by
  have admitted : ∀ i (t : State), (admitFrame i f t).mon.tally = t.mon.tally := by
    intro i t
    unfold admitFrame
    dsimp only
    repeat' split
    all_goals simp
  have classified : (classifyFrame f s).mon.tally = s.mon.tally := by
    unfold classifyFrame handUpstream
    dsimp only
    split <;> simp [admitted]
  unfold homeArrival managementArrival
  repeat' split
  all_goals simp [classified]

@[simp] theorem finishSending_tally : (finishSending s).mon.tally = s.mon.tally := by
  unfold finishSending mgmtSent homeSent emitHome
  dsimp only
  repeat' split
  all_goals simp

@[simp] theorem receiveUnit_tally (u : Bytes) (damaged : Bool) : (receiveUnit u damaged s).mon.tally = s.mon.tally := by
  have counted : ∀ lane x (t : State), (countTaken lane x t).mon.tally = t.mon.tally := by
    intro lane x t
    cases lane <;> simp [countTaken]
  have handed : ∀ f (t : State), (handMessage f t).mon.tally = t.mon.tally := by
    intro f t
    unfold handMessage countMalformed State.makeDue
    dsimp only
    repeat' split
    all_goals simp
  have on : ∀ lane f (t : State), (handOn lane f t).mon.tally = t.mon.tally := by
    intro lane f t
    unfold handOn State.makeDue
    repeat' split
    all_goals simp [handed]
  unfold receiveUnit
  dsimp only
  repeat' split
  all_goals simp [on, counted]

@[simp] theorem selectData_tally : (selectData s).mon.tally = s.mon.tally := by
  have visits : ∀ n (t : State), (drrSelect n t).mon.tally = t.mon.tally := by
    intro n
    induction n with
    | zero => exact fun t => rfl
    | succ n ih =>
      intro t
      unfold drrSelect
      dsimp only
      split
      · simp
      · split <;> split <;> simp [ih]
  unfold selectData
  dsimp only
  split <;> simp [visits]

@[simp] theorem pullUnit_tally : (pullUnit s).mon.tally = s.mon.tally := by
  have message : ∀ m n (t : State), (giveMessage m n t).1.mon.tally = t.mon.tally := by
    intro m n t
    unfold giveMessage
    dsimp only
    split <;> simp
  have data : ∀ i (t : State), (giveData i t).1.mon.tally = t.mon.tally := by
    intro i t
    unfold giveData
    split
    · rfl
    · dsimp only
      split <;> simp
  have voice : ∀ t : State, (giveVoice t).1.mon.tally = t.mon.tally := by
    intro t
    unfold giveVoice
    dsimp only
    repeat' split
    all_goals simp
  have next : (nextUnit s).1.mon.tally = s.mon.tally := by
    unfold nextUnit nextData
    dsimp only
    repeat' split
    all_goals simp [message, data, voice]
  unfold pullUnit answerUnit
  split
  · split <;> rename_i heq <;> rw [heq] at next <;> simpa using next
  · simp

end

/-! ## The parts of a step -/

theorem runDue_tally {d : Due} (hpart : d ≠ .partReset) (hsecond : d ≠ .secondTick) (hclose : d ≠ .intervalClose)
    (s : State) : (runDue d s).mon.tally = s.mon.tally := by
  cases d <;> simp only [runDue]
  case trainingTimeout =>
    unfold trainingTimeoutStep
    split <;> simp
  case holdoffExpiry =>
    unfold holdoffExpiryStep
    split <;> simp [enterTraining]
  case silenceExpiry => simp
  case pin p => simp
  case breakPulses p =>
    unfold breakPulsesStep
    split <;> simp
  case hangUp p =>
    unfold hangUpStep
    split <;> simp
  case interdigit p =>
    unfold interdigitStep
    split <;> simp
  case ringPhase p =>
    unfold ringPhaseStep
    split
    · rfl
    · split <;> simp
  case hook p => simp
  case pacing => simp [pacingStep]
  case secondTick => exact absurd rfl hsecond
  case intervalClose => exact absurd rfl hclose
  case guard d => simp
  case offerDeadline =>
    unfold offerDeadlineStep
    split <;> simp
  case offerSwitch =>
    unfold offerSwitchStep
    split <;> simp
  case farChangeSwitch =>
    unfold farChangeStep
    split <;> simp
  case cutbackSwitch =>
    unfold cutbackSwitchStep
    split <;> simp
  case arrival a =>
    cases a with
    | data f =>
      simp only [arrivalStep, downstream]
      repeat' split
      all_goals simp
    | voice n f =>
      simp only [arrivalStep, voiceArrives]
      repeat' split
      all_goals simp
    | message k tag body => simp [arrivalStep]
  case frameBoundary p => simp [boundaryStep]
  case partReset => exact absurd rfl hpart

theorem outside_tally {c : Instr} {f : State → State} (hf : outsideOf c = some f) (s : State) :
    (f s).mon.tally = s.mon.tally := by
  cases c <;> cases hf
  case msTick a b => simp
  case trained r =>
    unfold trainedStep
    split
    · split <;> simp
    · rfl
  case trainFailed n =>
    unfold trainFailedStep
    split <;> simp
  case signalLost =>
    unfold signalLostStep
    split
    · simp [Monitor.tally_eq_iff]
    · rfl
  case frameReport r =>
    have damage : ∀ n (m : Monitor), (addDamage n m).tally = m.tally := fun n m => rfl
    unfold frameReportStep reportInRun
    split <;> simp [damage]
  case marginReport ratios =>
    unfold marginReportStep loadingMargins buildOffer sendOffer
    dsimp only
    repeat' split
    all_goals simp
  case unitPull => simp
  case receivedUnit u damaged => simp
  case homeFrameArrival f right => simp
  case homeFrameSent => simp
  case sampleFrame one two =>
    have taken : ∀ p x (t : State), (takeSample p x t).mon.tally = t.mon.tally := by
      intro p x t
      unfold takeSample
      dsimp only
      repeat' split
      all_goals simp
    simp [sampleStep, taken]

/-- An invariant of the tally is kept by every step when the second, the close of an interval and the reset value keep it;
the second may rely on another invariant. -/
theorem tally_preserved {I : State → Prop} {P : Nat × PerfCounters × List Interval → Prop} (hI : Preserved I)
    (hdue : ∀ s l, I s → I (s.setDue l)) (hreset : P Monitor.reset.tally)
    (hsecond : ∀ s, I s → P s.mon.tally → P (secondStep s).mon.tally)
    (hclose : ∀ s, P s.mon.tally → P (closeInterval s).mon.tally) : Preserved fun s => I s ∧ P s.mon.tally where
  queue s q h := ⟨hI.queue s q h.1, h.2⟩
  powerOn q := ⟨hI.powerOn q, hreset⟩
  take d s hd h := by
    obtain ⟨hi, hp⟩ := h
    refine ⟨hI.take d s hd hi, ?_⟩
    by_cases hpart : d = .partReset
    · subst hpart
      exact hreset
    by_cases hsec : d = .secondTick
    · subst hsec
      exact hsecond _ (hdue s _ hi) hp
    by_cases hint : d = .intervalClose
    · subst hint
      exact hclose _ hp
    rw [runDue_tally hpart hsec hint]
    exact hp
  outside c f s hf h := ⟨hI.outside c f s hf h.1, by rw [outside_tally hf]; exact h.2⟩
  effect c s t e h := by
    obtain ⟨hi, hp⟩ := h
    refine ⟨hI.effect c s t e hi, ?_⟩
    have written : ∀ u, Written s u → u.mon.tally = s.mon.tally := by
      intro u w
      cases w <;> simp [Monitor.tally_eq_iff]
    cases e
    case resetMonitor => exact hreset
    case writeTable w | writeOn w => simpa [written _ w] using hp
    case close p =>
      unfold closeRecord
      split <;> simpa using hp
    all_goals simpa [enterTraining, setPartitionTo] using hp
  pop s r q hq h := ⟨hI.pop s r q hq h.1, by simpa using h.2⟩
  reply f s h := ⟨hI.reply f s h.1, by simpa using h.2⟩

end Sys2Proof.Machine
end

section
/-! PROOFS. The depths and the store, and the residency sums (R45, R82, R83, R93, R94, R106, R141, R144, R159, R164). -/

namespace Sys2Proof.Machine

/-! ## The second's tally -/

theorem beginSecond_tally (s : State) : ∃ es ses,
    (beginSecond s).mon.tally = (satInc s.mon.seconds, { s.mon.perf with es := es, ses := ses }, s.mon.history) := by
  unfold beginSecond classifySecond
  dsimp only
  split
  · exact ⟨_, _, by rw [raise_tally]; rfl⟩
  · exact ⟨_, _, rfl⟩

theorem takeAvailability_tally (ses : Bool) (s : State) : ∃ uas,
    (takeAvailability ses s).mon.tally = (s.mon.seconds, { s.mon.perf with uas := uas }, s.mon.history) := by
  have counted : ∀ m : Monitor, ∃ uas, (countUas m).tally = (m.seconds, { m.perf with uas := uas }, m.history) := by
    intro m
    unfold countUas
    split <;> exact ⟨_, rfl⟩
  have state : (availabilityAt ses s).2.tally = s.mon.tally := by
    unfold availabilityAt updateAvailability updateRuns
    repeat' split
    all_goals rfl
  obtain ⟨uas, huas⟩ := counted (availabilityAt ses s).2
  obtain ⟨hsec, hperf, hhist⟩ := Monitor.tally_eq_iff.mp state
  refine ⟨uas, ?_⟩
  unfold takeAvailability
  dsimp only
  rw [hsec, hperf, hhist] at huas
  split
  · rw [raise_tally]
    exact huas
  · exact huas

theorem secondStep_tally (s : State) : (secondStep s).mon.tally =
    (countResidency (takeAvailability (isSes s) (beginSecond s))).mon.tally := by
  have reported : ∀ t : State, (farReport t).mon.tally = t.mon.tally := by
    intro t
    unfold farReport
    dsimp only
    repeat' split
    all_goals simp
  have ordered : ∀ b (t : State), (orderRetrain b t).mon.tally = t.mon.tally := by
    intro b t
    unfold orderRetrain
    split <;> simp
  have counted : ∀ t : State, (countSecond t).mon.tally = (countResidency t).mon.tally := fun t =>
    (countTimeWatches_quiet _).tally
  simp [secondStep, reported, ordered, counted]

/-! ## The residency counters -/

/-- R141: the sums of a tally. -/
def ResidencySums (n : Nat × PerfCounters × List Interval) : Prop :=
  n.1 < counterMax →
    n.2.1.inOff + n.2.1.inTraining + n.2.1.inRun + n.2.1.inHoldoff = n.1 ∧
    n.2.1.inMains + n.2.1.inLifeline + n.2.1.inReserve = n.1 ∧
    n.2.1.boundSupply + n.2.1.boundProvider + n.2.1.boundLine = n.2.1.inRun ∧
    n.2.1.impulseCost ≤ n.2.1.inRun

theorem residencyOk_iff {s : State} : ResidencyOk s ↔ ResidencySums s.mon.tally := Iff.rfl

theorem satInc_of_lt {n : Nat} (h : n < counterMax) : satInc n = n + 1 := by
  unfold satInc
  omega

/-- A tick counts one second in one counter of each residency set. -/
theorem countResidency_sums {s : State} {n : Nat} (hbound : s.inRun = true → s.rate.binding ≠ .none)
    (hsums : ResidencySums (n, s.mon.perf, s.mon.history)) (hseconds : s.mon.seconds = satInc n) :
    ResidencySums (countResidency s).mon.tally := by
  intro hlt
  have htally : (countResidency s).mon.tally = (satInc n, (countResidency s).mon.perf, s.mon.history) := by
    rw [← hseconds]
    rfl
  rw [htally] at hlt ⊢
  have hn : n < counterMax := by
    unfold satInc at hlt
    omega
  obtain ⟨hline, hmode, hbinding, hcost⟩ := hsums hn
  dsimp only at hline hmode hbinding hcost
  have inc : ∀ k, k ≤ n → satInc k = k + 1 := fun k hk => satInc_of_lt (by omega)
  have hone := inc n le_rfl
  cases hstate : s.line.state
  case run =>
    have hrun : s.inRun = true := by simp [State.inRun, hstate]
    cases hb : s.rate.binding
    case none => exact absurd hb (hbound hrun)
    all_goals
      simp only [countResidency, State.modMon_mon, hstate, hrun, hb, Bool.true_and, if_true]
      split <;> cases s.supply.mode <;> simp (disch := omega) only [inc] <;> omega
  all_goals
    have hrun : s.inRun = false := by simp [State.inRun, hstate]
    simp only [countResidency, State.modMon_mon, hstate, hrun, Bool.false_and, Bool.false_eq_true, if_false]
    cases s.supply.mode <;> simp (disch := omega) only [inc] <;> omega

theorem RateOk.binding_ne_none {s : State} (h : RateOk s) (hrun : s.inRun = true) : s.rate.binding ≠ .none := by
  rw [h, rateRecord]
  simp only [hrun, if_true, bindingOf]
  split
  · simp
  · split <;> simp

theorem secondStep_residency {s : State} (hrate : RateOk s) (h : ResidencySums s.mon.tally) :
    ResidencySums (secondStep s).mon.tally := by
  obtain ⟨es, ses, hbegun⟩ := beginSecond_tally s
  obtain ⟨uas, htaken⟩ := takeAvailability_tally (isSes s) (beginSecond s)
  simp only [Monitor.tally, Prod.mk.injEq] at hbegun htaken
  obtain ⟨hseconds, hperf, -⟩ := hbegun
  obtain ⟨hseconds', hperf', -⟩ := htaken
  rw [secondStep_tally]
  refine countResidency_sums (n := s.mon.seconds) ?_ ?_ (hseconds'.trans hseconds)
  · have hbound := hrate.binding_ne_none
    simpa [State.inRun] using hbound
  · rw [hperf', hperf]
    exact h

theorem RateOk.preserved : Preserved RateOk where
  queue s q h := h
  powerOn q := reset_rateOk
  take d s _ h := rateOk_lineKept.runDue d (rateOk_lineKept.quiet (by constructor <;> simp) h)
  outside c f s hf h := rateOk_lineKept.outside (fun _ _ => trivial) hf h
  effect c s t e h := rateOk_lineKept.effect e h
  pop s r q _ h := rateOk_lineKept.quiet (by constructor <;> simp) h
  reply f s h := rateOk_lineKept.quiet (by constructor <;> simp) h

theorem residency_preserved : Preserved fun s => RateOk s ∧ ResidencySums s.mon.tally := by
  refine tally_preserved RateOk.preserved (fun s l h => h) (fun _ => by decide) (fun s => secondStep_residency) fun s h => ?_
  unfold closeInterval
  split
  · exact h
  · exact h

/-- Settles O12: a 1 s tick counts one second in one counter of each set, and nothing else changes the counters but the
resets, which bring them and the seconds to 0. -/
theorem residencySumsToTheSeconds : Obligations.ResidencySumsToTheSeconds := fun _ _ hrate hs h =>
  (residency_preserved.step ⟨hrate, hs⟩ h).2

/-! ## The depths -/

theorem Preserved.trivial : Preserved fun _ => True := by constructor <;> intros <;> exact True.intro

theorem secondStep_history (s : State) : (secondStep s).mon.history = s.mon.history := by
  obtain ⟨es, ses, hbegun⟩ := beginSecond_tally s
  obtain ⟨uas, htaken⟩ := takeAvailability_tally (isSes s) (beginSecond s)
  calc (secondStep s).mon.history
      = (takeAvailability (isSes s) (beginSecond s)).mon.history := (Monitor.tally_eq_iff.mp (secondStep_tally s)).2.2
    _ = (beginSecond s).mon.history := congrArg (·.2.2) htaken
    _ = s.mon.history := congrArg (·.2.2) hbegun

theorem history_preserved : Preserved fun s => True ∧ s.mon.tally.2.2.length ≤ 16 := by
  refine tally_preserved (P := fun n => n.2.2.length ≤ 16) .trivial (fun _ _ _ => True.intro) (by decide)
    (fun s _ h => ?_) fun s h => ?_
  · show (secondStep s).mon.history.length ≤ 16
    rw [secondStep_history]
    exact h
  · unfold closeInterval
    split
    · exact List.length_take_le _ _
    · exact h

theorem depthsOk_step {s t : State} (hs : DepthsOk s) (h : step s = .next t) : DepthsOk t := by
  obtain ⟨hmq, hcredit, hhome, hmgmt, hrequests, hbursts, hhistory, hdigits⟩ := hs
  obtain ⟨hmq', hcredit'⟩ := mqCredit_schKept.preserved.step ⟨hmq, hcredit⟩ h
  obtain ⟨hmgmt', hhome'⟩ := egress_eventKept.preserved.step ⟨hmgmt, hhome⟩ h
  exact ⟨hmq', hcredit', hhome', hmgmt', requests_preserved.step hrequests h, bursts_preserved.step hbursts h,
    (history_preserved.step ⟨trivial, hhistory⟩ h).2, digitsOk_preserved.step hdigits h⟩

/-- Settles O5: each depth, the store and the home port as invariants of their own. -/
theorem stepKeepsTheDepthsAndTheStore : Obligations.StepKeepsTheDepthsAndTheStore :=
  ⟨fun _ _ => depthsOk_step, fun _ _ => storeOk_step, fun _ _ hs h => homePort_eventKept.preserved.step hs h⟩

end Sys2Proof.Machine
end

section
/-! PROOFS. What only some commands change: the time base, the mode, the parameters and the partition (R134, R136, R137, R163,
R164, R176). -/

namespace Sys2Proof.Machine

/-! ## The four frames -/

theorem runDue_time (d : Due) (s : State) : (runDue d s).time = s.time := by
  cases d <;> simp [runDue, partResetStep, resetPartState]

theorem outside_time {c : Instr} {f : State → State} (hf : outsideOf c = some f) (htick : ∀ a b, c ≠ .msTick a b) (s : State) :
    (f s).time = s.time := by
  cases c <;> cases hf
  case msTick a b => exact absurd rfl (htick a b)
  all_goals simp

theorem effect_time {c : Instr} {s t : State} (e : Effect s c t) : t.time = s.time := by
  have written : ∀ u x, Written s u → (setCursor (some x) u).time = s.time := by
    intro u x w
    cases w <;> simp
  cases e
  case writeTable w | writeOn w => exact written _ _ w
  all_goals simp [resetTrafficScope, resetVoiceScope, resetMonitorScope, resetLineScope]

theorem time_kept {c : Instr} (htick : ∀ a b, c ≠ .msTick a b) (x : TimeBase) :
    KeptBy (fun _ => True) c (fun s => s.time = x) where
  close := trivial
  take d s _ _ h := (runDue_time d _).trans h
  outside f hf s h := (outside_time hf htick s).trans h
  handler row f hf r s h := (effect_time (handler_effect hf r s)).trans h
  pop s r q _ h := h
  reply f s h := by simpa using h

theorem runDue_mode {d : Due} (hpin : ∀ p, d ≠ .pin p) (s : State) : (runDue d s).supply.mode = s.supply.mode := by
  cases d
  case pin p => exact absurd rfl (hpin p)
  case partReset => rfl
  all_goals simp [runDue]

theorem outside_mode {c : Instr} {f : State → State} (hf : outsideOf c = some f) (s : State) :
    (f s).supply.mode = s.supply.mode := by
  cases c <;> cases hf
  all_goals simp [tickStep, tickState, tickSupply]

theorem effect_mode {c : Instr} {s t : State} (e : Effect s c t) : t.supply.mode = s.supply.mode := by
  have written : ∀ u x, Written s u → (setCursor (some x) u).supply.mode = s.supply.mode := by
    intro u x w
    cases w <;> simp
  cases e
  case writeTable w | writeOn w => exact written _ _ w
  all_goals simp [resetTrafficScope, resetVoiceScope, resetMonitorScope, resetLineScope]

theorem mode_kept (c : Instr) (m : Mode) : KeptBy (fun d => ∀ p, d ≠ .pin p) c (fun s => s.supply.mode = m) where
  close := nofun
  take d s hd _ h := (runDue_mode hd _).trans h
  outside f hf s h := (outside_mode hf s).trans h
  handler row f hf r s h := (effect_mode (handler_effect hf r s)).trans h
  pop s r q _ h := h
  reply f s h := by simpa using h

theorem homeArrival_params (f : Bytes) (right : Bool) (s : State) : (homeArrival f right s).params = s.params :=
  (homeArrival_stirs f right s).params

theorem runDue_params {d : Due} (hpart : d ≠ .partReset) (s : State) : (runDue d s).params = s.params := by
  cases d
  case partReset => exact absurd rfl hpart
  all_goals simp [runDue]

theorem outside_params {c : Instr} {f : State → State} (hf : outsideOf c = some f) (s : State) : (f s).params = s.params := by
  cases c <;> cases hf
  case homeFrameArrival f right => exact homeArrival_params f right s
  all_goals simp [tickStep, tickState]

theorem params_kept {c : Instr} (htable : c ≠ .writeTable) (hon : c ≠ .writeOn) (p : Params) :
    KeptBy (· ≠ .partReset) c (fun s => s.params = p) where
  close := nofun
  take d s hd _ h := (runDue_params hd _).trans h
  outside f hf s h := (outside_params hf s).trans h
  handler row f hf r s h := by
    have he := handler_effect hf r s
    generalize (f r s).state = t at he
    subst h
    cases he
    case writeTable => exact absurd rfl htable
    case writeOn => exact absurd rfl hon
    all_goals simp [setCursor, setPartitionTo]
  pop s r q _ h := h
  reply f s h := by simpa using h

theorem partition_kept {c : Instr} (hset : c ≠ .setPartition) (n : Nat) :
    KeptBy (· ≠ .partReset) c (fun s => s.agent.partition = n) where
  close := nofun
  take d s hd _ h := by
    cases d
    case partReset => exact absurd rfl hd
    all_goals simpa [runDue] using h
  outside f hf s h := by
    cases c <;> cases hf
    case homeFrameArrival f right => exact (homeArrival_stirs f right s).partition.trans h
    all_goals simpa [tickStep, tickState] using h
  handler row f hf r s h := by
    have he := handler_effect hf r s
    generalize (f r s).state = t at he
    subst h
    have written : ∀ u x, Written s u → (setCursor (some x) u).agent.partition = s.agent.partition := by
      intro u x w
      cases w <;> simp [setCursor, writeParams_agent]
    cases he
    case writeTable w | writeOn w => exact written _ _ w
    case setPartition => exact absurd rfl hset
    all_goals simp [setCursor]
  pop s r q _ h := h
  reply f s h := by simpa using h

/-! ## The ranges -/

theorem clampTo_bounds {lo hi : Int} (h : lo ≤ hi) (b : Bytes) : lo ≤ clampTo lo hi b ∧ clampTo lo hi b ≤ hi := by
  unfold clampTo
  omega

theorem ParamsOk.store {p : Params} (h : ParamsOk p) (i : Nat) (b : Bytes) : ParamsOk (p.store i b) := by
  unfold Params.store
  split
  case h_1 => exact { h with trainTimeout := clampNat_bounds (by decide) b }
  case h_2 => exact { h with holdoff := clampNat_bounds (by decide) b }
  case h_3 => exact { h with silenceCount := clampNat_bounds (by decide) b }
  case h_4 => exact { h with reloadEnable := (clampNat_bounds (by decide) b).2 }
  case h_5 => exact { h with mLow := clampTo_bounds (by decide) b }
  case h_6 => exact { h with mTarget := clampTo_bounds (by decide) b }
  case h_7 => exact { h with mDrop := clampTo_bounds (by decide) b }
  case h_8 => exact { h with cadenceTol := clampNat_bounds (by decide) b }
  case h_9 => exact { h with guardMargin := (clampNat_bounds (by decide) b).2 }
  case h_10 => exact { h with providerCap := clampNat_bounds (by decide) b }
  case h_11 => exact { h with voiceShare := clampNat_bounds (by decide) b }
  case h_12 =>
    refine { h with supplyCap := fun m => ?_ }
    cases m
    exacts [clampNat_bounds (by decide) b, h.supplyCap .lifeline, h.supplyCap .reserve]
  case h_13 =>
    refine { h with supplyCap := fun m => ?_ }
    cases m
    exacts [h.supplyCap .mains, clampNat_bounds (by decide) b, h.supplyCap .reserve]
  case h_14 =>
    refine { h with supplyCap := fun m => ?_ }
    cases m
    exacts [h.supplyCap .mains, h.supplyCap .lifeline, clampNat_bounds (by decide) b]
  case h_15 =>
    refine { h with loadCeiling := fun m => ?_ }
    cases m
    exacts [(clampNat_bounds (by decide) b).2, h.loadCeiling .lifeline, h.loadCeiling .reserve]
  case h_16 =>
    refine { h with loadCeiling := fun m => ?_ }
    cases m
    exacts [h.loadCeiling .mains, (clampNat_bounds (by decide) b).2, h.loadCeiling .reserve]
  case h_17 =>
    refine { h with loadCeiling := fun m => ?_ }
    cases m
    exacts [h.loadCeiling .mains, h.loadCeiling .lifeline, (clampNat_bounds (by decide) b).2]
  case h_18 =>
    refine { h with shed := fun m => ?_ }
    cases m
    exacts [(clampNat_bounds (by decide) b).2, h.shed .lifeline, h.shed .reserve]
  case h_19 =>
    refine { h with shed := fun m => ?_ }
    cases m
    exacts [h.shed .mains, (clampNat_bounds (by decide) b).2, h.shed .reserve]
  case h_20 =>
    refine { h with shed := fun m => ?_ }
    cases m
    exacts [h.shed .mains, h.shed .lifeline, (clampNat_bounds (by decide) b).2]
  case h_21 =>
    refine { h with port2Feed := fun m => ?_ }
    cases m
    exacts [(clampNat_bounds (by decide) b).2, h.port2Feed .lifeline, h.port2Feed .reserve]
  case h_22 =>
    refine { h with port2Feed := fun m => ?_ }
    cases m
    exacts [h.port2Feed .mains, (clampNat_bounds (by decide) b).2, h.port2Feed .reserve]
  case h_23 =>
    refine { h with port2Feed := fun m => ?_ }
    cases m
    exacts [h.port2Feed .mains, h.port2Feed .lifeline, (clampNat_bounds (by decide) b).2]
  case h_24 => exact { h with defaultQueue := (clampNat_bounds (by decide) b).2 }
  case h_25 =>
    refine { h with qLimit := fun i => ?_ }
    cases i
    exacts [clampNat_bounds (by decide) b, h.qLimit .i1, h.qLimit .i2, h.qLimit .i3]
  case h_26 =>
    refine { h with qLimit := fun i => ?_ }
    cases i
    exacts [h.qLimit .i0, clampNat_bounds (by decide) b, h.qLimit .i2, h.qLimit .i3]
  case h_27 =>
    refine { h with qLimit := fun i => ?_ }
    cases i
    exacts [h.qLimit .i0, h.qLimit .i1, clampNat_bounds (by decide) b, h.qLimit .i3]
  case h_28 =>
    refine { h with qLimit := fun i => ?_ }
    cases i
    exacts [h.qLimit .i0, h.qLimit .i1, h.qLimit .i2, clampNat_bounds (by decide) b]
  case h_29 =>
    refine { h with qWeight := fun d => ?_ }
    cases d
    exacts [clampNat_bounds (by decide) b, h.qWeight .q2, h.qWeight .q3]
  case h_30 =>
    refine { h with qWeight := fun d => ?_ }
    cases d
    exacts [h.qWeight .q1, clampNat_bounds (by decide) b, h.qWeight .q3]
  case h_31 =>
    refine { h with qWeight := fun d => ?_ }
    cases d
    exacts [h.qWeight .q1, h.qWeight .q2, clampNat_bounds (by decide) b]
  case h_32 => exact { h with ageLimit := clampNat_bounds (by decide) b }
  case h_33 => exact { h with hookDebounce := clampNat_bounds (by decide) b }
  case h_34 => exact { h with flashMax := clampNat_bounds (by decide) b }
  case h_35 => exact { h with interdigit := clampNat_bounds (by decide) b }
  case h_36 => exact { h with jitterTarget := clampNat_bounds (by decide) b }
  case h_37 => exact { h with sesThreshold := clampNat_bounds (by decide) b }
  case h_41 => exact { h with noticeInterval := (clampNat_bounds (by decide) b).2 }
  case h_42 => exact { h with farReportEvery := clampNat_bounds (by decide) b }
  all_goals exact { h with }

theorem ParamsOk.storeParams {p : Params} (h : ParamsOk p) (start : Nat) (entries : List Bytes) :
    ParamsOk (storeParams p start entries) := by
  induction entries generalizing p start with
  | nil => exact h
  | cons b rest ih => exact ih (h.store start b) (start + 1)

theorem params_preserved : Preserved fun s => ParamsOk s.params where
  queue s q h := h
  powerOn q := reset_paramsOk
  take d s _ h := by
    by_cases hpart : d = .partReset
    · subst hpart
      exact reset_paramsOk
    · rw [runDue_params hpart]
      exact h
  outside c f s hf h := by
    rw [outside_params hf]
    exact h
  effect c s t e h := by
    have written : ∀ u x, Written s u → ParamsOk (setCursor (some x) u).params := by
      intro u x w
      cases w
      case params start _ entries _ _ =>
        have hstored := h.storeParams start entries
        simpa [State.params_eq, setCursor, writeParams_agent] using hstored
      all_goals exact h
    cases e
    case writeTable w | writeOn w => exact written _ _ w
    all_goals simpa [setCursor, setPartitionTo] using h
  pop s r q _ h := h
  reply f s h := by simpa using h

/-- Settles O16: each register is left as it is by every part of a step that is not its own. -/
theorem whatOnlySomeCommandsChange : Obligations.WhatOnlySomeCommandsChange :=
  ⟨⟨fun _ s _ htick hon h => (time_kept htick s.time).exec hon (fun _ _ => trivial) rfl h,
    fun c s _ hpin hon h => (mode_kept c s.supply.mode).exec hon (fun _ hd p he => hpin p (he ▸ hd)) rfl h,
    fun _ s _ hpart htable hwrite hon h =>
      (params_kept htable hwrite s.params).exec hon (fun _ hd he => hpart (he ▸ hd)) rfl h,
    fun _ s _ hpart hset hon h =>
      (partition_kept hset s.agent.partition).exec hon (fun _ hd he => hpart (he ▸ hd)) rfl h⟩,
    fun _ _ hs h => params_preserved.step hs h⟩

end Sys2Proof.Machine
end

section
/-! PROOFS. The data queues under shedding, limits, staleness and admission (R86 to R90): what each operation leaves of each
queue, of the data frame in progress and of the deficits. -/

namespace Sys2Proof.Machine

@[simp] theorem Quad.get_set_same {α : Type} (x : Quad α) (i : Ix4) (v : α) : (x.set i v).get i = v := by cases i <;> rfl

theorem Quad.get_set_of_ne {α : Type} (x : Quad α) {i j : Ix4} (v : α) (h : j ≠ i) : (x.set i v).get j = x.get j := by
  cases i <;> cases j <;> first | rfl | exact absurd rfl h

theorem Quad.get_set {α : Type} (x : Quad α) (i j : Ix4) (v : α) :
    (x.set i v).get j = if j = i then v else x.get j := by
  split
  · subst_vars
    simp
  · exact x.get_set_of_ne v ‹_›

theorem Tri.get_set {α : Type} (x : Tri α) (d e : Drr) (v : α) : (x.set d v).get e = if e = d then v else x.get e := by
  cases d <;> cases e <;> rfl

theorem Ix4.mem_all (i : Ix4) : i ∈ Ix4.all := by cases i <;> decide

theorem Drr.queue_drr (d : Drr) : d.queue.drr = some d := by cases d <;> rfl

theorem Ix4.drr_eq_some {i : Ix4} {d : Drr} : i.drr = some d ↔ d.queue = i := by cases i <;> cases d <;> decide

theorem occupancy_append (a b : List FrameRec) : occupancy (a ++ b) = occupancy a + occupancy b := by simp [occupancy]

theorem occupancy_cons (f : FrameRec) (q : List FrameRec) : occupancy (f :: q) = f.units + occupancy q := by
  simp [occupancy]

theorem occupancy_sublist {a b : List FrameRec} (h : List.Sublist a b) : occupancy a ≤ occupancy b :=
  (h.map FrameRec.units).sum_le_sum fun _ _ => Nat.zero_le _

theorem filter_true {α : Type} (x : Option α) : x.filter (fun _ => true) = x := by cases x <;> rfl

/-! ## Limits (R88) -/

theorem trimNewest_suffix (limit : Nat) (q : List FrameRec) : trimNewest limit q <:+ q := by
  induction q with
  | nil => exact List.suffix_rfl
  | cons f rest ih =>
    unfold trimNewest
    split
    · exact List.suffix_rfl
    · exact ih.trans (List.suffix_cons f rest)

theorem occupancy_trimNewest (limit : Nat) (q : List FrameRec) : occupancy (trimNewest limit q) ≤ limit := by
  induction q with
  | nil => simp [trimNewest, occupancy]
  | cons f rest ih =>
    unfold trimNewest
    split
    · assumption
    · exact ih

theorem occupancy_reverse (q : List FrameRec) : occupancy q.reverse = occupancy q := by simp [occupancy]

/-- R88: what stays under a limit is the oldest frames, -/
theorem keptWithin_prefix (limit : Nat) (q : List FrameRec) : keptWithin limit q <+: q := by
  have h := trimNewest_suffix limit q.reverse
  simpa [keptWithin] using List.reverse_prefix.mpr h

/-- within the limit. -/
theorem occupancy_keptWithin (limit : Nat) (q : List FrameRec) : occupancy (keptWithin limit q) ≤ limit := by
  rw [keptWithin, occupancy_reverse]
  exact occupancy_trimNewest limit _

theorem applyLimit_sch (i : Ix4) (s : State) :
    (applyLimit i s).sch = { s.sch with
      queues := s.sch.queues.set i (keptWithin (s.params.qLimit.get i) (s.sch.queues.get i))
      inProgress := if s.sch.progressIn i && (keptWithin (s.params.qLimit.get i) (s.sch.queues.get i)).isEmpty &&
        !(s.sch.queues.get i).isEmpty then none else s.sch.inProgress } := rfl

/-! ## Walking the queues -/

/-- A step of a walk of the queues at one of them: the queue becomes `g` of it, and a data frame in progress there is
taken away when `c` of it holds; `g` and `c` may use what the walk keeps, which is `κ`. -/
structure QueueStep {β : Type} (κ : State → β) (g : β → Ix4 → List FrameRec → List FrameRec)
    (c : β → Ix4 → List FrameRec → Bool) (f : State → Ix4 → State) : Prop where
  keeps : ∀ t i, κ (f t i) = κ t
  queue : ∀ t i j, (f t i).sch.queues.get j = if j = i then g (κ t) i (t.sch.queues.get i) else t.sch.queues.get j
  progress : ∀ t i, (f t i).sch.inProgress =
    t.sch.inProgress.filter fun j => !(decide (j = i) && c (κ t) i (t.sch.queues.get i))

section
variable {β : Type} {κ : State → β} {g : β → Ix4 → List FrameRec → List FrameRec} {c : β → Ix4 → List FrameRec → Bool}
  {f : State → Ix4 → State}

theorem QueueStep.foldl_queue (h : QueueStep κ g c f) {l : List Ix4} (hl : l.Nodup) (s : State) (j : Ix4) :
    (l.foldl f s).sch.queues.get j = if j ∈ l then g (κ s) j (s.sch.queues.get j) else s.sch.queues.get j := by
  induction l generalizing s with
  | nil => rfl
  | cons i l ih =>
    obtain ⟨hi, hl⟩ := List.nodup_cons.mp hl
    rw [List.foldl_cons, ih hl, h.keeps, h.queue]
    by_cases hj : j = i
    · subst hj
      simp [hi]
    · simp [hj]

theorem QueueStep.foldl_progress (h : QueueStep κ g c f) {l : List Ix4} (hl : l.Nodup) (s : State) :
    (l.foldl f s).sch.inProgress =
      s.sch.inProgress.filter fun j => !(decide (j ∈ l) && c (κ s) j (s.sch.queues.get j)) := by
  induction l generalizing s with
  | nil =>
    show s.sch.inProgress = _
    simp [filter_true]
  | cons i l ih =>
    obtain ⟨hi, hl⟩ := List.nodup_cons.mp hl
    rw [List.foldl_cons, ih hl, h.keeps, h.progress, Option.filter_filter]
    cases s.sch.inProgress with
    | none => rfl
    | some j =>
      congr 1
      funext k
      rw [h.queue]
      by_cases hk : k = i
      · subst hk
        simp [hi]
      · simp [hk]

theorem QueueStep.all_queue (h : QueueStep κ g c f) (s : State) (j : Ix4) :
    (Ix4.all.foldl f s).sch.queues.get j = g (κ s) j (s.sch.queues.get j) := by
  rw [h.foldl_queue (by decide), if_pos j.mem_all]

theorem QueueStep.all_progress (h : QueueStep κ g c f) (s : State) :
    (Ix4.all.foldl f s).sch.inProgress = s.sch.inProgress.filter fun j => !c (κ s) j (s.sch.queues.get j) := by
  rw [h.foldl_progress (by decide)]
  simp [Ix4.mem_all]

end

/-! ## The limits of a write (R88) -/

/-- What stays of a queue under the limits that a write names. -/
def limitedTo (wrote : Nat → Bool) (p : Params) (i : Ix4) (q : List FrameRec) : List FrameRec :=
  if wrote (24 + i.num) then keptWithin (p.qLimit.get i) q else q

/-- A limit that a write names leaves nothing of a queue. -/
def cutByLimit (wrote : Nat → Bool) (p : Params) (i : Ix4) (q : List FrameRec) : Bool :=
  wrote (24 + i.num) && (keptWithin (p.qLimit.get i) q).isEmpty && !q.isEmpty

theorem limits_queueStep (wrote : Nat → Bool) :
    QueueStep State.params (limitedTo wrote) (cutByLimit wrote) fun t i => if wrote (24 + i.num) then applyLimit i t else t where
  keeps t i := by split <;> simp
  queue t i j := by
    unfold limitedTo
    split
    · rw [applyLimit_sch, Quad.get_set]
    · split <;> simp_all
  progress t i := by
    unfold cutByLimit
    split
    · rename_i hw
      rw [applyLimit_sch]
      cases hp : t.sch.inProgress with
      | none => simp [Scheduler.progressIn, hp]
      | some j =>
        by_cases hj : j = i <;> simp [Scheduler.progressIn, hp, hj, hw, Option.filter]
        split <;> split <;> simp_all
    · rename_i hw
      simp [hw, filter_true]

/-! ## Shedding (R90) -/

/-- R90: a queue is shed at a level and was not at another. -/
def newlyShed (old level : Nat) (i : Ix4) : Bool := shedAt level i && !shedAt old i

theorem flushShed_sch (i : Ix4) (s : State) :
    (flushShed i s).sch = { s.sch with
      queues := s.sch.queues.set i []
      inProgress := if s.sch.progressIn i then none else s.sch.inProgress
      deficit := match i.drr with
        | some d => s.sch.deficit.set d 0
        | none => s.sch.deficit } := rfl

theorem shedding_queueStep (old level : Nat) :
    QueueStep (fun _ => ()) (fun _ i q => if newlyShed old level i then [] else q) (fun _ i _ => newlyShed old level i)
      fun t i => if shedAt level i && !shedAt old i then flushShed i t else t where
  keeps _ _ := rfl
  queue t i j := by
    show (if newlyShed old level i then flushShed i t else t).sch.queues.get j = _
    split
    · rw [flushShed_sch, Quad.get_set]
    · split <;> simp_all
  progress t i := by
    show (if newlyShed old level i then flushShed i t else t).sch.inProgress = _
    split
    · rename_i hw
      rw [flushShed_sch]
      cases hp : t.sch.inProgress with
      | none => simp [Scheduler.progressIn, hp]
      | some j => by_cases hj : j = i <;> simp [Scheduler.progressIn, hp, hj, hw, Option.filter]
    · rename_i hw
      simp [hw, filter_true]

theorem setShedLevel_queue (level : Nat) (s : State) (i : Ix4) :
    (setShedLevel level s).sch.queues.get i = if newlyShed s.sch.shedLevel level i then [] else s.sch.queues.get i :=
  (shedding_queueStep s.sch.shedLevel level).all_queue _ i

theorem setShedLevel_progress (level : Nat) (s : State) :
    (setShedLevel level s).sch.inProgress = s.sch.inProgress.filter fun i => !newlyShed s.sch.shedLevel level i :=
  (shedding_queueStep s.sch.shedLevel level).all_progress _

theorem setShedLevel_level (level : Nat) (s : State) : (setShedLevel level s).sch.shedLevel = level := by
  refine foldl_keep (fun t : State => t.sch.shedLevel) _ (fun t i => ?_) Ix4.all _
  split <;> rfl

/-! ## Staleness (R89) -/

/-- R89: what a test for stale heads leaves of a queue that is not in progress. -/
def freshFrom (now : Word32) (ageLimit : Nat) (q : List FrameRec) : List FrameRec :=
  q.dropWhile fun f => f.stale now ageLimit

theorem dropStale_sch (i : Ix4) (s : State) :
    (dropStale i s).sch =
      if s.sch.progressIn i then s.sch
      else { s.sch with queues := s.sch.queues.set i (freshFrom s.time.ms s.params.ageLimit (s.sch.queues.get i)) } := by
  unfold dropStale
  split <;> rfl

end Sys2Proof.Machine
end

section
/-! PROOFS. What every step keeps of the data queues: the limits, the pool and the shed queues, and the one data frame in progress
(R86 to R90, R96 to R98). -/

namespace Sys2Proof.Machine

/-! ## Selecting a data frame (R97) -/

/-- Each queue of `y` is what is left of the same queue of `x` when some of its oldest frames have gone, and the shedding
level is the same. -/
structure HeadsGone (x y : Scheduler) : Prop where
  queue : ∀ i, y.queues.get i <:+ x.queues.get i
  level : y.shedLevel = x.shedLevel

theorem HeadsGone.refl (x : Scheduler) : HeadsGone x x := ⟨fun _ => List.suffix_rfl, rfl⟩

theorem HeadsGone.trans {x y z : Scheduler} (h : HeadsGone x y) (k : HeadsGone y z) : HeadsGone x z :=
  ⟨fun i => (k.queue i).trans (h.queue i), k.level.trans h.level⟩

theorem HeadsGone.of_same {x y : Scheduler} (hq : y.queues = x.queues) (hl : y.shedLevel = x.shedLevel) : HeadsGone x y :=
  ⟨fun i => by rw [hq], hl⟩

theorem HeadsGone.mem {x y : Scheduler} (h : HeadsGone x y) {i : Ix4} {f : FrameRec} (hf : f ∈ y.queues.get i) :
    f ∈ x.queues.get i := (h.queue i).subset hf

theorem HeadsGone.empty {x y : Scheduler} (h : HeadsGone x y) {i : Ix4} (hi : x.queues.get i = []) : y.queues.get i = [] :=
  List.suffix_nil.mp (hi ▸ h.queue i)

theorem dropStale_headsGone (i : Ix4) (s : State) : HeadsGone s.sch (dropStale i s).sch := by
  rw [dropStale_sch]
  split
  · exact .refl _
  · refine ⟨fun j => ?_, rfl⟩
    rw [Quad.get_set]
    split
    · subst_vars
      exact List.dropWhile_suffix _
    · exact List.suffix_rfl

theorem dropStale_progress (i : Ix4) (s : State) : (dropStale i s).sch.inProgress = s.sch.inProgress := by
  rw [dropStale_sch]
  split <;> rfl

theorem drrVisit_queues (p : Params) (x : Scheduler) :
    (drrVisit p x).queues = x.queues ∧ (drrVisit p x).shedLevel = x.shedLevel := by
  unfold drrVisit giveQuantum passTurn
  dsimp only
  repeat' split
  all_goals exact ⟨rfl, rfl⟩

theorem giveQuantum_queues (p : Params) (x : Scheduler) : (giveQuantum p x).queues = x.queues ∧
    (giveQuantum p x).turn = x.turn ∧ (giveQuantum p x).inProgress = x.inProgress := by
  unfold giveQuantum
  split <;> exact ⟨rfl, rfl, rfl⟩

/-- A visit puts the head of the queue whose turn it is in progress, or no frame. -/
theorem drrVisit_progress {p : Params} {x : Scheduler} (hx : x.inProgress = none) {i : Ix4}
    (h : (drrVisit p x).inProgress = some i) : i = x.turn.queue ∧ x.queues.get i ≠ [] ∧ shedAt x.shedLevel i = false := by
  obtain ⟨hqueues, hturn, hprogress⟩ := giveQuantum_queues p x
  unfold drrVisit at h
  split at h
  · simp [passTurn, hx] at h
  · rename_i hidle
    rw [Bool.not_eq_true, idleQueue, Bool.or_eq_false_iff] at hidle
    dsimp only at h
    split at h
    · simp [passTurn, hprogress, hx] at h
    · split at h
      · cases h
        rw [hturn]
        exact ⟨rfl, by simpa using hidle.2, hidle.1⟩
      · simp [passTurn, hprogress, hx] at h

/-- What a selection from a state leaves: heads gone, and when a frame is put in progress it is the head of an unshed queue. -/
structure Selects (s t : State) : Prop where
  heads : HeadsGone s.sch t.sch
  chosen : ∀ i, t.sch.inProgress = some i → t.sch.queues.get i ≠ [] ∧ shedAt s.sch.shedLevel i = false

theorem drrSelect_selects (n : Nat) {s : State} (h : s.sch.inProgress = none) : Selects s (drrSelect n s) := by
  induction n generalizing s with
  | zero => exact ⟨.refl _, fun i hi => by simp [drrSelect, h] at hi⟩
  | succ n ih =>
    unfold drrSelect
    dsimp only
    split
    · exact ⟨.of_same rfl rfl, fun i hi => by simp [h] at hi⟩
    · have hlooked : HeadsGone s.sch (if shedAt s.sch.shedLevel s.sch.turn.queue then s
          else dropStale s.sch.turn.queue s).sch ∧ (if shedAt s.sch.shedLevel s.sch.turn.queue then s
          else dropStale s.sch.turn.queue s).sch.inProgress = none := by
        split
        · exact ⟨.refl _, h⟩
        · exact ⟨dropStale_headsGone _ s, (dropStale_progress _ s).trans h⟩
      generalize (if shedAt s.sch.shedLevel s.sch.turn.queue then s else dropStale s.sch.turn.queue s) = t at hlooked ⊢
      obtain ⟨hheads, hnone⟩ := hlooked
      obtain ⟨hqueues, hlevel⟩ := drrVisit_queues t.params t.sch
      have hvisited : HeadsGone s.sch (t.modSch (drrVisit t.params)).sch := hheads.trans (.of_same hqueues hlevel)
      split
      · refine ⟨hvisited, fun i hi => ?_⟩
        obtain ⟨-, hne, hunshed⟩ := drrVisit_progress hnone hi
        exact ⟨by rwa [State.modSch_sch, hqueues], hheads.level ▸ hunshed⟩
      · rename_i hsome
        obtain ⟨hrest, hchosen⟩ := ih (s := t.modSch (drrVisit t.params)) (by simpa using hsome)
        exact ⟨hvisited.trans hrest, fun i hi => ⟨(hchosen i hi).1, hvisited.level ▸ (hchosen i hi).2⟩⟩

theorem selectData_selects {s : State} (h : s.sch.inProgress = none) : Selects s (selectData s) := by
  have hheads := dropStale_headsGone .i0 s
  have hnone := (dropStale_progress .i0 s).trans h
  unfold selectData
  dsimp only
  split
  · obtain ⟨hrest, hchosen⟩ := drrSelect_selects 64 hnone
    exact ⟨hheads.trans hrest, fun i hi => ⟨(hchosen i hi).1, hheads.level ▸ (hchosen i hi).2⟩⟩
  · rename_i hne
    refine ⟨hheads.trans (.of_same rfl rfl), fun i hi => ?_⟩
    cases hi
    exact ⟨by simpa using hne, rfl⟩

/-! ## The limits, the pool and the shed queues -/

/-- No queue of `y` takes more room than the same queue of `x`, an empty queue stays empty, and the shedding level is the
same. -/
structure NoMoreRoom (x y : Scheduler) : Prop where
  room : ∀ i, occupancy (y.queues.get i) ≤ occupancy (x.queues.get i)
  empty : ∀ i, x.queues.get i = [] → y.queues.get i = []
  level : y.shedLevel = x.shedLevel

theorem HeadsGone.noMoreRoom {x y : Scheduler} (h : HeadsGone x y) : NoMoreRoom x y :=
  ⟨fun i => occupancy_sublist (h.queue i).sublist, fun _ => h.empty, h.level⟩

theorem NoMoreRoom.trans {x y z : Scheduler} (h : NoMoreRoom x y) (k : NoMoreRoom y z) : NoMoreRoom x z :=
  ⟨fun i => (k.room i).trans (h.room i), fun i hi => k.empty i (h.empty i hi), k.level.trans h.level⟩

theorem NoMoreRoom.of_same {x y : Scheduler} (hq : y.queues = x.queues) (hl : y.shedLevel = x.shedLevel) : NoMoreRoom x y :=
  (HeadsGone.of_same hq hl).noMoreRoom

theorem poolOccupancy_le {a b : Quad (List FrameRec)} (h : ∀ i, occupancy (a.get i) ≤ occupancy (b.get i)) :
    poolOccupancy a ≤ poolOccupancy b := by
  have h0 := h .i0
  have h1 := h .i1
  have h2 := h .i2
  have h3 := h .i3
  simp only [poolOccupancy, Quad.get] at *
  omega

theorem QueuesOk.within {s t : State} (h : QueuesOk s) (hq : NoMoreRoom s.sch t.sch)
    (hparams : t.agent.params = s.agent.params) (hmode : t.supply.mode = s.supply.mode) : QueuesOk t where
  limit i := by
    rw [State.params, hparams]
    exact (hq.room i).trans (h.limit i)
  pool := (poolOccupancy_le hq.room).trans h.pool
  shed i hi := hq.empty i (h.shed i (hq.level ▸ hi))
  level := by
    rw [hq.level, h.level, State.params, State.params, hparams, hmode]

/-- The queue whose frame in progress is to start again. -/
def restartHead : List FrameRec → List FrameRec
  | [] => []
  | f :: rest => { f with sent := 0 } :: rest

theorem restartProgress_queue (x : Scheduler) (i : Ix4) : (restartProgress x).queues.get i =
    if x.inProgress = some i then restartHead (x.queues.get i) else x.queues.get i := by
  unfold restartProgress
  split
  · rename_i h
    simp [h]
  · rename_i j h
    rw [Quad.get_set, h]
    by_cases hij : i = j
    · subst hij
      cases x.queues.get i <;> simp [restartHead]
    · simp [hij, Ne.symm hij]

theorem restartProgress_rest (x : Scheduler) : (restartProgress x).inProgress = none ∧
    (restartProgress x).shedLevel = x.shedLevel := by
  unfold restartProgress
  split <;> simp_all

theorem restartHead_eq_nil {q : List FrameRec} : restartHead q = [] ↔ q = [] := by cases q <;> simp [restartHead]

theorem occupancy_restartHead (q : List FrameRec) : occupancy (restartHead q) = occupancy q := by
  cases q <;> simp [restartHead, occupancy, FrameRec.units]

theorem restartProgress_noMoreRoom (x : Scheduler) : NoMoreRoom x (emptyLineQueues (restartProgress x)) where
  room i := by
    show occupancy ((restartProgress x).queues.get i) ≤ _
    rw [restartProgress_queue]
    split
    · rw [occupancy_restartHead]
    · exact le_rfl
  empty i hi := by
    show (restartProgress x).queues.get i = []
    rw [restartProgress_queue]
    split
    · rwa [restartHead_eq_nil]
    · exact hi
  level := (restartProgress_rest x).2

theorem giveData_noMoreRoom (i : Ix4) (s : State) : NoMoreRoom s.sch (giveData i s).1.sch := by
  unfold giveData
  dsimp only
  split
  · exact .of_same rfl rfl
  · rename_i f rest hq
    split
    · refine ⟨fun j => ?_, fun j hj => ?_, rfl⟩
      · simp only [State.countSch_sch, State.modSch_sch, payUnit, Quad.get_set]
        split
        · subst_vars
          rw [hq, occupancy_cons]
          omega
        · exact le_rfl
      · simp only [State.countSch_sch, State.modSch_sch, payUnit, Quad.get_set]
        split
        · subst_vars
          simp [hq] at hj
        · exact hj
    · refine ⟨fun j => ?_, fun j hj => ?_, rfl⟩
      · simp only [State.countSch_sch, State.modSch_sch, payUnit, Quad.get_set]
        split
        · subst_vars
          rw [hq]
          simp [occupancy, FrameRec.units]
        · exact le_rfl
      · simp only [State.countSch_sch, State.modSch_sch, payUnit, Quad.get_set]
        split
        · subst_vars
          simp [hq] at hj
        · exact hj

/-- What a unit given from elsewhere than a data queue leaves of the data queues. -/
structure SameQueues (x y : Scheduler) : Prop where
  queues : y.queues = x.queues
  progress : y.inProgress = x.inProgress
  level : y.shedLevel = x.shedLevel

theorem SameQueues.noMoreRoom {x y : Scheduler} (h : SameQueues x y) : NoMoreRoom x y := .of_same h.queues h.level

theorem giveMessage_sameQueues (m : Message) (n : Nat) (s : State) : SameQueues s.sch (giveMessage m n s).1.sch := by
  unfold giveMessage
  dsimp only
  split <;> constructor <;> simp [payUnit]

theorem giveVoice_sameQueues (s : State) : SameQueues s.sch (giveVoice s).1.sch := by
  unfold giveVoice
  dsimp only
  split
  · constructor <;> simp [payUnit]
  · split <;> constructor <;> simp [payUnit]

/-- A pull gives a unit from elsewhere than the data queues, or asks them. -/
theorem nextUnit_cases (s : State) : SameQueues s.sch (nextUnit s).1.sch ∨ nextUnit s = nextData s := by
  unfold nextUnit
  split
  · exact .inl ⟨rfl, rfl, rfl⟩
  split
  · exact .inl (giveMessage_sameQueues _ _ _)
  · rename_i m rest _ _
    obtain ⟨hq, hp, hl⟩ := giveMessage_sameQueues m 0 (s.modSch fun x => { x with mq := rest })
    exact .inl ⟨hq, hp, hl⟩
  · split
    · exact .inl (giveVoice_sameQueues s)
    · exact .inr rfl

theorem nextData_noMoreRoom (s : State) : NoMoreRoom s.sch (nextData s).1.sch := by
  unfold nextData
  split
  · exact giveData_noMoreRoom _ s
  · rename_i hnone
    have hselected := (selectData_selects hnone).heads.noMoreRoom
    dsimp only
    split
    · exact hselected.trans (giveData_noMoreRoom _ _)
    · exact hselected

theorem pullUnit_noMoreRoom (s : State) : NoMoreRoom s.sch (pullUnit s).sch := by
  rw [pullUnit_sch]
  split
  · rcases nextUnit_cases s with h | h
    · exact h.noMoreRoom
    · rw [h]
      exact nextData_noMoreRoom s
  · exact .of_same rfl rfl

theorem occupancy_nil : occupancy [] = 0 := rfl

theorem admitFrame_queuesOk (i : Ix4) (f : Bytes) {s : State} (h : QueuesOk s) : QueuesOk (admitFrame i f s) := by
  have counted : ∀ g, QueuesOk (s.countSch g) := fun g => h.within (.of_same rfl rfl) rfl rfl
  unfold admitFrame
  dsimp only
  split
  · exact counted _
  split
  · exact counted _
  split
  · exact counted _
  rename_i hshed hlimit hpool
  have hone : occupancy [{ bytes := f, arrival := s.time.ms, sent := 0 }] = unitsOf f.length := by
    simp [occupancy, FrameRec.units]
  refine ⟨fun j => ?_, ?_, fun j hj => ?_, h.level⟩
  · simp only [State.countSch_sch, State.modSch_sch, Quad.get_set]
    split
    · subst_vars
      rw [occupancy_append, hone]
      exact Nat.le_of_not_lt hlimit
    · exact h.limit j
  · have hle := Nat.le_of_not_lt hpool
    unfold Config.poolUnits at hle
    simp only [State.countSch_sch, State.modSch_sch]
    cases i <;> simp only [poolOccupancy, Quad.set, Quad.get, occupancy_append, hone] at hle ⊢ <;> omega
  · have hne : j ≠ i := fun he => hshed (he ▸ hj)
    simp only [State.countSch_sch, State.modSch_sch, Quad.get_set, if_neg hne]
    exact h.shed j hj

theorem setShedLevel_room (n : Nat) (s : State) (i : Ix4) :
    occupancy ((setShedLevel n s).sch.queues.get i) ≤ occupancy (s.sch.queues.get i) := by
  rw [setShedLevel_queue]
  split
  · exact Nat.zero_le _
  · exact le_rfl

theorem setShedLevel_shed {n : Nat} {s : State} (h : ∀ i, shedAt s.sch.shedLevel i = true → s.sch.queues.get i = []) {i : Ix4}
    (hi : shedAt n i = true) : (setShedLevel n s).sch.queues.get i = [] := by
  rw [setShedLevel_queue]
  split
  · rfl
  · rename_i hold
    exact h i (by simpa [newlyShed, hi] using hold)

theorem onlyAt_shed (m : Mode) : OnlyAt (modeIndex 17 m) fun p => p.shed.get m := by
  intro p j b hj
  unfold Params.store
  cases m <;> split <;> first | rfl | exact absurd rfl hj

theorem onlyAt_qLimit (i : Ix4) : OnlyAt (24 + i.num) fun p => p.qLimit.get i := by
  intro p j b hj
  unfold Params.store
  cases i <;> split <;> first | rfl | exact absurd rfl hj

/-- R90: the scheduler told of a written shedding level alone. -/
def toldShed (wrote : Nat → Bool) (s : State) : State :=
  if wrote (modeIndex 17 s.supply.mode) then setShedLevel (s.params.shed.get s.supply.mode) s else s

theorem toldShed_params (wrote : Nat → Bool) (s : State) : (toldShed wrote s).params = s.params := by
  unfold toldShed
  split <;> simp

theorem tellScheduler_eq (wrote : Nat → Bool) (s : State) :
    tellScheduler wrote s =
      Ix4.all.foldl (fun t i => if wrote (24 + i.num) then applyLimit i t else t) (toldShed wrote s) := rfl

theorem tellScheduler_queue (wrote : Nat → Bool) (s : State) (i : Ix4) :
    (tellScheduler wrote s).sch.queues.get i = limitedTo wrote s.params i ((toldShed wrote s).sch.queues.get i) := by
  rw [tellScheduler_eq, (limits_queueStep wrote).all_queue, toldShed_params]

theorem tellScheduler_progress (wrote : Nat → Bool) (s : State) : (tellScheduler wrote s).sch.inProgress =
    (toldShed wrote s).sch.inProgress.filter fun i => !cutByLimit wrote s.params i ((toldShed wrote s).sch.queues.get i) := by
  rw [tellScheduler_eq, (limits_queueStep wrote).all_progress, toldShed_params]

theorem tellScheduler_level (wrote : Nat → Bool) (s : State) :
    (tellScheduler wrote s).sch.shedLevel = (toldShed wrote s).sch.shedLevel := by
  rw [tellScheduler_eq]
  refine foldl_keep (fun t : State => t.sch.shedLevel) _ (fun t i => ?_) Ix4.all _
  split <;> rfl

theorem limitedTo_prefix (wrote : Nat → Bool) (p : Params) (i : Ix4) (q : List FrameRec) : limitedTo wrote p i q <+: q := by
  unfold limitedTo
  split
  · exact keptWithin_prefix _ q
  · exact List.prefix_rfl

theorem tellScheduler_queuesOk {start : Nat} {entries : List Bytes} {s t : State} (hsch : t.sch = s.sch)
    (hmode : t.supply.mode = s.supply.mode) (hparams : t.agent.params = storeParams s.agent.params start entries)
    (h : QueuesOk s) : QueuesOk (tellScheduler (wroteParam start entries.length) t) := by
  have hshed : ∀ i, shedAt t.sch.shedLevel i = true → t.sch.queues.get i = [] := hsch ▸ h.shed
  have htold : ∀ i, occupancy ((toldShed (wroteParam start entries.length) t).sch.queues.get i) ≤
      occupancy (s.sch.queues.get i) := by
    intro i
    rw [← hsch]
    unfold toldShed
    split
    · exact setShedLevel_room _ t i
    · exact le_rfl
  have hroom : ∀ i, occupancy ((tellScheduler (wroteParam start entries.length) t).sch.queues.get i) ≤
      occupancy (s.sch.queues.get i) := by
    intro i
    rw [tellScheduler_queue]
    exact (occupancy_sublist (limitedTo_prefix _ _ i _).sublist).trans (htold i)
  refine ⟨fun i => ?_, (poolOccupancy_le hroom).trans h.pool, fun i hi => ?_, ?_⟩
  · by_cases hw : wroteParam start entries.length (24 + i.num) = true
    · rw [tellScheduler_queue, limitedTo, if_pos hw]
      simpa using occupancy_keptWithin (t.params.qLimit.get i) ((toldShed _ t).sch.queues.get i)
    · have hlimit := (onlyAt_qLimit i).storeParams (start := start) (entries := entries) (by simpa using hw) s.agent.params
      have hle := (hroom i).trans (h.limit i)
      simpa [hparams, hlimit] using hle
  · rw [tellScheduler_level] at hi
    have hempty : (toldShed (wroteParam start entries.length) t).sch.queues.get i = [] := by
      unfold toldShed at hi ⊢
      split
      · rename_i hw
        rw [if_pos hw, setShedLevel_level] at hi
        exact setShedLevel_shed hshed hi
      · rename_i hw
        rw [if_neg hw] at hi
        exact hshed i hi
    rw [tellScheduler_queue, hempty]
    exact List.prefix_nil.mp (limitedTo_prefix _ _ i [])
  · rw [tellScheduler_level]
    unfold toldShed
    split
    · simp [setShedLevel_level]
    · rename_i hw
      have hlevel := (onlyAt_shed t.supply.mode).storeParams (start := start) (entries := entries) (by simpa using hw)
        s.agent.params
      simp [hsch, h.level, hparams, ← hmode, hlevel]

theorem enterMode_shed_queuesOk {m : Mode} {s t : State} (hsch : t.sch = s.sch) (hmode : t.supply.mode = m)
    (hparams : t.agent.params = s.agent.params) (h : QueuesOk s) :
    QueuesOk (setShedLevel (t.params.shed.get m) t) := by
  have hroom : ∀ i, occupancy ((setShedLevel (t.params.shed.get m) t).sch.queues.get i) ≤ occupancy (s.sch.queues.get i) :=
    fun i => hsch ▸ setShedLevel_room _ t i
  refine ⟨fun i => ?_, (poolOccupancy_le hroom).trans h.pool, fun i hi => ?_, ?_⟩
  · have hle := (hroom i).trans (h.limit i)
    simpa [hparams] using hle
  · rw [setShedLevel_level] at hi
    exact setShedLevel_shed (hsch ▸ h.shed) hi
  · simp [setShedLevel_level, hmode]

theorem queuesOk_schKept : SchKept QueuesOk where
  same e h := h.within (by rw [e.sch]; exact .of_same rfl rfl) e.params e.mode
  mq e h := h.within (by rw [e.sch]; exact .of_same rfl rfl) e.params e.mode
  lineDown {s t} e h := h.within (e.sch ▸ restartProgress_noMoreRoom s.sch) e.params e.mode
  mode m s t hsch _ hmode hparams h := enterMode_shed_queuesOk hsch hmode hparams h
  params start entries s t hsch _ hmode hparams h := tellScheduler_queuesOk hsch hmode hparams h
  closed p s h := h.within (by rw [closeRecord_sch]; exact .of_same rfl rfl) (by simp) (by simp)
  admitted i f s h := admitFrame_queuesOk i f h
  swept i s h := h.within (dropStale_headsGone i s).noMoreRoom (by simp) (by simp)
  boundary p s h := h.within (by rw [boundaryStep_sch]; exact .of_same rfl rfl) (by simp) (by simp)
  pulled s h := h.within (pullUnit_noMoreRoom s) (by simp) (by simp)
  credited n s h := h.within (.of_same rfl rfl) rfl rfl
  arrived n f s h := h.within (.of_same (by simp) (by simp)) (by simp) (by simp)
  sampled one two s h := h.within (.of_same (by simp) (by simp)) (by simp) (by simp)
  openedLine p stream target idle s _ _ _ _ h := h.within (.of_same rfl rfl) rfl rfl
  openedIntercom idle s _ h := h.within (.of_same rfl rfl) rfl rfl
  lineReset s h := h.within (restartProgress_noMoreRoom s.sch) rfl rfl
  trafficReset s h := ⟨fun i => by cases i <;> exact Nat.zero_le _, Nat.zero_le _, fun i _ => by cases i <;> rfl, h.level⟩
  voiceReset s h := h.within (.of_same rfl rfl) rfl rfl
  monitorReset s h := h.within (.of_same rfl rfl) rfl rfl
  partReset s := ⟨fun i => by cases i <;> exact Nat.zero_le _, Nat.zero_le _, fun i _ => by cases i <;> rfl, rfl⟩
  powerOn := reset_queuesOk

/-! ## The data frame in progress -/

theorem ProgressOk.of_same {s t : State} (h : ProgressOk s) (e : SameQueues s.sch t.sch) : ProgressOk t := by
  obtain ⟨hstarted, hbehind, hhead⟩ := h
  constructor
  · rw [e.queues, e.progress]
    exact hstarted
  · rw [e.queues]
    exact hbehind
  · rw [e.queues, e.progress]
    exact hhead

/-- Frames have gone from the queues of `x`: what is left of a queue in progress is its oldest frames, or nothing is in progress
there any more. -/
structure FramesGone (x y : Scheduler) : Prop where
  mem : ∀ i f, f ∈ y.queues.get i → f ∈ x.queues.get i
  kept : ∀ i, y.inProgress = some i → x.inProgress = some i ∧ y.queues.get i <+: x.queues.get i ∧
    (x.queues.get i ≠ [] → y.queues.get i ≠ [])
  lost : ∀ i, x.inProgress = some i → y.inProgress ≠ some i → y.queues.get i = []

theorem ProgressOk.framesGone {s t : State} (h : ProgressOk s) (e : FramesGone s.sch t.sch) : ProgressOk t where
  started i f hf hsent := by
    by_contra hne
    rw [e.lost i (h.started i f (e.mem i f hf) hsent) hne] at hf
    exact List.not_mem_nil hf
  behind i f rest hq g hg := by
    have hmem : g ∈ t.sch.queues.get i := hq ▸ List.mem_cons_of_mem f hg
    by_contra hsent
    have hin := h.started i g (e.mem i g hmem) (Nat.pos_of_ne_zero hsent)
    by_cases ht : t.sch.inProgress = some i
    · obtain ⟨-, ⟨more, hmore⟩, -⟩ := e.kept i ht
      rw [hq, List.cons_append] at hmore
      exact hsent (h.behind i f (rest ++ more) hmore.symm g (List.mem_append_left _ hg))
    · rw [e.lost i hin ht] at hq
      cases hq
  head i hi := by
    obtain ⟨hin, ⟨more, hmore⟩, hne⟩ := e.kept i hi
    obtain ⟨f, rest, hq, hpos, hlt⟩ := h.head i hin
    have hne := hne (by simp [hq])
    obtain ⟨g, tail, hg⟩ := List.exists_cons_of_ne_nil hne
    rw [hg, hq, List.cons_append] at hmore
    obtain ⟨rfl, -⟩ := List.cons.inj hmore
    exact ⟨g, tail, hg, hpos, hlt⟩

theorem HeadsGone.framesGone {x y : Scheduler} (h : HeadsGone x y) (hx : x.inProgress = none) (hy : y.inProgress = none) :
    FramesGone x y :=
  ⟨fun _ _ => h.mem, fun i hi => by simp [hy] at hi, fun i hi => by simp [hx] at hi⟩

theorem dropStale_framesGone (i : Ix4) (s : State) : FramesGone s.sch (dropStale i s).sch where
  mem _ _ := (dropStale_headsGone i s).mem
  kept j hj := by
    rw [dropStale_progress] at hj
    have hq : (dropStale i s).sch.queues.get j = s.sch.queues.get j := by
      rw [dropStale_sch]
      split
      · rfl
      · rename_i hne
        have hij : j ≠ i := fun he => hne (by simp [Scheduler.progressIn, hj, he])
        exact Quad.get_set_of_ne _ _ hij
    rw [hq]
    exact ⟨hj, List.prefix_rfl, id⟩
  lost j hj hne := absurd ((dropStale_progress i s).trans hj) hne

theorem setShedLevel_framesGone (n : Nat) (s : State) : FramesGone s.sch (setShedLevel n s).sch := by
  refine ⟨fun i f hf => ?_, fun i hi => ?_, fun i hi hne => ?_⟩
  · rw [setShedLevel_queue] at hf
    split at hf
    · exact absurd hf List.not_mem_nil
    · exact hf
  · rw [setShedLevel_progress, Option.filter_eq_some_iff] at hi
    obtain ⟨hi, hnew⟩ := hi
    rw [setShedLevel_queue, if_neg (by simpa using hnew)]
    exact ⟨hi, List.prefix_rfl, id⟩
  · rw [setShedLevel_queue, if_pos]
    by_contra hold
    exact hne (by rw [setShedLevel_progress, Option.filter_eq_some_iff]; exact ⟨hi, by simpa using hold⟩)

theorem tellScheduler_framesGone (wrote : Nat → Bool) (s : State) :
    FramesGone (toldShed wrote s).sch (tellScheduler wrote s).sch := by
  refine ⟨fun i f hf => ?_, fun i hi => ?_, fun i hi hne => ?_⟩
  · rw [tellScheduler_queue] at hf
    exact (limitedTo_prefix _ _ i _).subset hf
  · rw [tellScheduler_progress, Option.filter_eq_some_iff] at hi
    obtain ⟨hi, hcut⟩ := hi
    rw [tellScheduler_queue]
    refine ⟨hi, limitedTo_prefix _ _ i _, fun hq => ?_⟩
    unfold limitedTo
    split
    · rename_i hw
      simpa [cutByLimit, hw, hq] using hcut
    · exact hq
  · have hcut : cutByLimit wrote s.params i ((toldShed wrote s).sch.queues.get i) = true := by
      by_contra hcut
      exact hne (by rw [tellScheduler_progress, Option.filter_eq_some_iff]; exact ⟨hi, by simpa using hcut⟩)
    simp only [cutByLimit, Bool.and_eq_true, List.isEmpty_iff] at hcut
    obtain ⟨⟨hw, hnil⟩, -⟩ := hcut
    rw [tellScheduler_queue, limitedTo, if_pos hw, hnil]

theorem ProgressOk.toldShed {s : State} (h : ProgressOk s) (wrote : Nat → Bool) : ProgressOk (toldShed wrote s) := by
  unfold Machine.toldShed
  split
  · exact h.framesGone (setShedLevel_framesGone _ s)
  · exact h

theorem ProgressOk.restarted {s t : State} (h : ProgressOk s) (e : t.sch = emptyLineQueues (restartProgress s.sch)) :
    ProgressOk t := by
  have hnone : t.sch.inProgress = none := by
    rw [e]
    exact (restartProgress_rest s.sch).1
  have hunsent : ∀ i f, f ∈ t.sch.queues.get i → f.sent = 0 := by
    intro i f hf
    rw [e] at hf
    change f ∈ (restartProgress s.sch).queues.get i at hf
    rw [restartProgress_queue] at hf
    split at hf
    · obtain ⟨g, rest, hq, -⟩ := h.head i ‹_›
      rw [hq, restartHead, List.mem_cons] at hf
      rcases hf with rfl | hf
      · rfl
      · exact h.behind i g rest hq f hf
    · rename_i hne
      by_contra hsent
      exact hne (h.started i f hf (Nat.pos_of_ne_zero hsent))
  refine ⟨fun i f hf hpos => ?_, fun i f rest hq g hg => hunsent i g (hq ▸ List.mem_cons_of_mem f hg), fun i hi => ?_⟩
  · exact absurd (hunsent i f hf) (Nat.ne_of_gt hpos)
  · rw [hnone] at hi
    cases hi

theorem ProgressOk.unsent {s : State} (h : ProgressOk s) (hnone : s.sch.inProgress = none) {i : Ix4} {f : FrameRec}
    (hf : f ∈ s.sch.queues.get i) : f.sent = 0 := by
  by_contra hsent
  have hin := h.started i f hf (Nat.pos_of_ne_zero hsent)
  rw [hnone] at hin
  cases hin

/-- A frame that a unit may be given of: it is the head of the queue in progress, and no other frame of any queue has been
started. -/
structure GiveOk (i : Ix4) (s : State) : Prop where
  progress : s.sch.inProgress = some i
  head : ∃ f rest, s.sch.queues.get i = f :: rest ∧ ∀ g ∈ rest, g.sent = 0
  others : ∀ j, j ≠ i → ∀ g ∈ s.sch.queues.get j, g.sent = 0

theorem GiveOk.giveData {i : Ix4} {s : State} (h : GiveOk i s) : ProgressOk (giveData i s).1 := by
  obtain ⟨hprogress, ⟨f, rest, hq, hrest⟩, hothers⟩ := h
  unfold Machine.giveData
  simp only [hq]
  split
  · refine ⟨fun j g hg hpos => ?_, fun j g tail hj x hx => ?_, fun j hj => ?_⟩
    · simp only [State.countSch_sch, State.modSch_sch, payUnit, Quad.get_set] at hg
      split at hg
      · exact absurd (hrest g hg) (Nat.ne_of_gt hpos)
      · exact absurd (hothers j ‹_› g hg) (Nat.ne_of_gt hpos)
    · simp only [State.countSch_sch, State.modSch_sch, payUnit, Quad.get_set] at hj
      split at hj
      · exact hrest x (hj ▸ List.mem_cons_of_mem g hx)
      · exact hothers j ‹_› x (hj ▸ List.mem_cons_of_mem g hx)
    · cases hj
  · rename_i hmore
    refine ⟨fun j g hg hpos => ?_, fun j g tail hj x hx => ?_, fun j hj => ?_⟩
    · simp only [State.countSch_sch, State.modSch_sch, payUnit, Quad.get_set] at hg ⊢
      split at hg
      · subst_vars
        exact hprogress
      · exact absurd (hothers j ‹_› g hg) (Nat.ne_of_gt hpos)
    · simp only [State.countSch_sch, State.modSch_sch, payUnit, Quad.get_set] at hj
      split at hj
      · obtain ⟨-, rfl⟩ := List.cons.inj hj
        exact hrest x hx
      · exact hothers j ‹_› x (hj ▸ List.mem_cons_of_mem g hx)
    · simp only [State.countSch_sch, State.modSch_sch, payUnit, hprogress, Option.some.injEq] at hj ⊢
      subst hj
      refine ⟨_, rest, Quad.get_set_same _ _ _, Nat.succ_pos _, ?_⟩
      exact Nat.lt_of_not_le hmore

theorem ProgressOk.giveOk {s : State} (h : ProgressOk s) {i : Ix4} (hi : s.sch.inProgress = some i) : GiveOk i s := by
  obtain ⟨f, rest, hq, -⟩ := h.head i hi
  refine ⟨hi, ⟨f, rest, hq, h.behind i f rest hq⟩, fun j hj g hg => ?_⟩
  by_contra hsent
  have hin := h.started j g hg (Nat.pos_of_ne_zero hsent)
  rw [hi, Option.some.injEq] at hin
  exact hj hin.symm

theorem nextData_progressOk {s : State} (h : ProgressOk s) : ProgressOk (nextData s).1 := by
  unfold nextData
  split
  · exact (h.giveOk ‹_›).giveData
  · rename_i hnone
    obtain ⟨hheads, hchosen⟩ := selectData_selects hnone
    have hunsent : ∀ i f, f ∈ (selectData s).sch.queues.get i → f.sent = 0 := fun i f hf => h.unsent hnone (hheads.mem hf)
    dsimp only
    split
    · rename_i i hi
      obtain ⟨f, rest, hq⟩ := List.exists_cons_of_ne_nil (hchosen i hi).1
      exact GiveOk.giveData ⟨hi, ⟨f, rest, hq, fun g hg => hunsent i g (hq ▸ List.mem_cons_of_mem f hg)⟩,
        fun j _ g hg => hunsent j g hg⟩
    · exact h.framesGone (hheads.framesGone hnone ‹_›)

theorem admitFrame_progressOk (i : Ix4) (f : Bytes) {s : State} (h : ProgressOk s) : ProgressOk (admitFrame i f s) := by
  have counted : ∀ g, ProgressOk (s.countSch g) := fun g => h.of_same ⟨rfl, rfl, rfl⟩
  unfold admitFrame
  dsimp only
  split
  · exact counted _
  split
  · exact counted _
  split
  · exact counted _
  refine ⟨fun j g hg hpos => ?_, fun j g rest hq x hx => ?_, fun j hj => ?_⟩
  · simp only [State.countSch_sch, State.modSch_sch, Quad.get_set] at hg ⊢
    split at hg
    · subst_vars
      rcases List.mem_append.mp hg with hg | hg
      · exact h.started _ g hg hpos
      · rw [List.mem_singleton.mp hg] at hpos
        exact absurd hpos (Nat.lt_irrefl 0)
    · exact h.started j g hg hpos
  · simp only [State.countSch_sch, State.modSch_sch, Quad.get_set] at hq
    split at hq
    · subst_vars
      cases hold : s.sch.queues.get j with
      | nil =>
        rw [hold, List.nil_append] at hq
        cases hq
        exact absurd hx List.not_mem_nil
      | cons y l =>
        rw [hold, List.cons_append] at hq
        obtain ⟨-, rfl⟩ := List.cons.inj hq
        rcases List.mem_append.mp hx with hx | hx
        · exact h.behind j y l hold x hx
        · rw [List.mem_singleton.mp hx]
    · exact h.behind j g rest hq x hx
  · obtain ⟨g, rest, hq, hpos, hlt⟩ := h.head j hj
    simp only [State.countSch_sch, State.modSch_sch, Quad.get_set]
    split
    · subst_vars
      exact ⟨g, _, by rw [hq, List.cons_append], hpos, hlt⟩
    · exact ⟨g, rest, hq, hpos, hlt⟩

theorem ProgressOk.of_empty {t : State} (hq : t.sch.queues = ⟨[], [], [], []⟩) (hp : t.sch.inProgress = none) : ProgressOk t := by
  have hnil : ∀ i, t.sch.queues.get i = [] := fun i => by
    rw [hq]
    cases i <;> rfl
  refine ⟨fun i f hf => ?_, fun i f rest h => ?_, fun i hi => ?_⟩
  · rw [hnil] at hf
    cases hf
  · rw [hnil] at h
    cases h
  · rw [hp] at hi
    cases hi

theorem progressOk_schKept : SchKept ProgressOk where
  same e h := h.of_same (e.sch ▸ ⟨rfl, rfl, rfl⟩)
  mq e h := h.of_same (by rw [e.sch]; exact ⟨rfl, rfl, rfl⟩)
  lineDown e h := h.restarted e.sch
  mode m s t hsch _ _ _ h :=
    (h.of_same (t := t) (hsch ▸ ⟨rfl, rfl, rfl⟩)).framesGone (setShedLevel_framesGone _ t)
  params start entries s t hsch _ _ _ h :=
    ((h.of_same (t := t) (hsch ▸ ⟨rfl, rfl, rfl⟩)).toldShed _).framesGone (tellScheduler_framesGone _ t)
  closed p s h := h.of_same (by rw [closeRecord_sch]; exact ⟨rfl, rfl, rfl⟩)
  admitted i f s h := admitFrame_progressOk i f h
  swept i s h := h.framesGone (dropStale_framesGone i s)
  boundary p s h := h.of_same (by rw [boundaryStep_sch]; exact ⟨rfl, rfl, rfl⟩)
  pulled s h := by
    have answered : ∀ t : State, t.sch = (pullUnit s).sch → ProgressOk t → ProgressOk (pullUnit s) := fun t ht hok =>
      hok.of_same (ht ▸ ⟨rfl, rfl, rfl⟩)
    by_cases hrun : s.inRun = true
    · refine answered (nextUnit s).1 (by rw [pullUnit_sch, if_pos hrun]) ?_
      rcases nextUnit_cases s with he | he
      · exact h.of_same he
      · rw [he]
        exact nextData_progressOk h
    · exact answered s (by rw [pullUnit_sch, if_neg hrun]) h
  credited n s h := h.of_same ⟨rfl, rfl, rfl⟩
  arrived n f s h := h.of_same ⟨by simp, by simp, by simp⟩
  sampled one two s h := h.of_same ⟨by simp, by simp, by simp⟩
  openedLine p stream target idle s _ _ _ _ h := h.of_same ⟨rfl, rfl, rfl⟩
  openedIntercom idle s _ h := h.of_same ⟨rfl, rfl, rfl⟩
  lineReset s h := h.restarted rfl
  trafficReset s _ := .of_empty rfl rfl
  voiceReset s h := h.of_same ⟨rfl, rfl, rfl⟩
  monitorReset s h := h.of_same ⟨rfl, rfl, rfl⟩
  partReset s := .of_empty rfl rfl
  powerOn := reset_progressOk

/-- Settles O9: what each operation of the scheduler leaves of each queue keeps both. -/
theorem dataQueuesKeepTheirRules : Obligations.DataQueuesKeepTheirRules :=
  ⟨fun _ _ hs h => queuesOk_schKept.preserved.step hs h, fun _ _ hs h => progressOk_schKept.preserved.step hs h⟩

end Sys2Proof.Machine
end

section
/-! PROOFS. The calls, VQ and the jitter buffers, which every step keeps to their rules (R91, R92, R117 to R120, R125, R126). -/

namespace Sys2Proof.Machine

/-! ## What can happen to a call -/

/-- What arrivals and playout ticks make of a jitter buffer. -/
inductive BufferMove (target : Nat) : JitterBuffer → JitterBuffer → Prop
  | refl (b : JitterBuffer) : BufferMove target b b
  | arrival (b : JitterBuffer) (h : HeldFrame) : BufferMove target b (bufferArrival b h)
  | tick (b : JitterBuffer) (idle : Byte) : BufferMove target b (playoutTick target idle b).buffer
  | trans {a b c : JitterBuffer} (h : BufferMove target a b) (k : BufferMove target b c) : BufferMove target a c

/-- A call stays what it is; a LINE call keeps its stream and target. -/
inductive CallMove : Call → Call → Prop
  | refl (c : Call) : CallMove c c
  | line {c d : LineCall} (stream : d.stream = c.stream) (target : d.target = c.target)
      (buffer : BufferMove c.target c.buffer d.buffer) : CallMove (.line c) (.line d)

theorem CallMove.trans {a b c : Call} (h : CallMove a b) (k : CallMove b c) : CallMove a c := by
  cases h with
  | refl => exact k
  | line hs ht hb =>
    cases k with
    | refl => exact .line hs ht hb
    | line ks kt kb => exact .line (ks.trans hs) (kt.trans ht) (hb.trans (ht ▸ kb))

theorem CallMove.lineStream {a b : Call} (h : CallMove a b) : b.lineStream = a.lineStream := by
  cases h with
  | refl => rfl
  | line hs => simp [Call.lineStream, hs]

theorem CallMove.intercom_iff {a b : Call} (h : CallMove a b) (n : Nat) : b = .intercom n ↔ a = .intercom n := by
  cases h <;> simp

/-- Every record's call stays what it is. -/
def CallMoves (s t : State) : Prop := ∀ p, CallMove (s.record p).call (t.record p).call

theorem CallMoves.of_voice {s t : State} (h : t.voice = s.voice) : CallMoves s t := fun p => by
  rw [State.record_of_voice h]
  exact .refl _

theorem CallMoves.trans {s t u : State} (h : CallMoves s t) (k : CallMoves t u) : CallMoves s u := fun p => (h p).trans (k p)

theorem CallMoves.setRecord {s : State} {p : PortId} {r : ChannelRecord} (h : CallMove (s.record p).call r.call) :
    CallMoves s (s.setRecord p r) := by
  intro q
  by_cases hqp : q = p
  · subst hqp
    rw [State.setRecord_record_same]
    exact h
  · rw [State.setRecord_record_of_ne s hqp]
    exact .refl _

theorem CallMoves.countCall (p : PortId) (f : CallCounts → CallCounts) (s : State) : CallMoves s (s.countCall p f) :=
  .trans (t := s.setRecord p { s.record p with counts := f (s.record p).counts }) (.setRecord (.refl _)) (.of_voice rfl)

theorem voiceArrives_calls (n : Nat) (f : Bytes) (s : State) : CallMoves s (voiceArrives n f s) := by
  unfold voiceArrives
  dsimp only
  split
  · exact .of_voice rfl
  split
  · exact .of_voice rfl
  split
  · exact .of_voice rfl
  split
  · rename_i hcall
    refine .trans (.setRecord ?_) (.countCall _ _ _)
    rw [hcall]
    exact .line rfl rfl (.arrival _ _)
  · exact .of_voice rfl
  · exact .of_voice rfl

theorem takePlayout_calls (p : PortId) (s : State) : CallMoves s (takePlayout p s) := by
  by_cases h : ∃ c, (s.record p).call = .line c
  · obtain ⟨c, hc⟩ := h
    refine .trans (.setRecord ?_) (.of_voice (takePlayout_voice hc))
    rw [hc]
    exact .line rfl rfl (.tick _ _)
  · rw [takePlayout_of_not_line (not_exists.mp h)]
    exact .of_voice rfl

theorem vqOffer_calls (f : VqFrame) (s : State) : CallMoves s (vqOffer f s) := by
  unfold vqOffer
  dsimp only
  split
  · exact .of_voice rfl
  · exact (CallMoves.countCall f.port (fun c => { c with vqDrops := satInc c.vqDrops }) s).trans
      (.of_voice (by simp [vqDrop, countVqDrop]))

theorem formFrame_calls (p : PortId) (s : State) : CallMoves s (formFrame p s) := by
  unfold formFrame
  dsimp only
  split
  · rename_i c hcall
    have hformed : ∀ c' g, c'.stream = c.stream → c'.target = c.target → c'.buffer = c.buffer →
        CallMoves s ((s.setRecord p { s.record p with call := .line c' }).countCall p g) := by
      intro c' g hs ht hb
      refine .trans (.setRecord ?_) (.countCall _ _ _)
      rw [hcall]
      exact .line hs ht (hb ▸ .refl _)
    split
    · refine CallMoves.trans ?_ (vqOffer_calls _ _)
      refine hformed _ _ ?_ ?_ ?_ <;> rfl
    · refine CallMoves.trans ?_ (.countCall _ _ _)
      refine hformed _ _ ?_ ?_ ?_ <;> rfl
  · exact .of_voice rfl
  · exact .of_voice rfl

theorem boundaryStep_calls (p : PortId) (s : State) : CallMoves s (boundaryStep p s) :=
  (formFrame_calls p s).trans (takePlayout_calls p _)

theorem resetMonitorScope_calls (s : State) : CallMoves s (resetMonitorScope s) := by
  intro p
  cases p <;> exact .refl _

/-- R123: the position of a record after one more sample. -/
def nextPosition (n : Nat) : Nat := if n + 1 == Config.frameSamples then 0 else n + 1

/-- R122, R123: a call after one sample of its port: an intercom's position moves on. -/
inductive CallSampled : Call → Call → Prop
  | moved {a b : Call} (h : CallMove a b) (not : ∀ n, a ≠ .intercom n) : CallSampled a b
  | intercom (n : Nat) : CallSampled (.intercom n) (.intercom (nextPosition n))

theorem recordSample_sampled (r : ChannelRecord) (x : Byte) : CallSampled r.call (recordSample r x).1.call := by
  unfold recordSample
  split
  · rename_i h
    rw [h]
    exact .moved (.refl _) nofun
  · rename_i c h
    rw [h]
    exact .moved (.line rfl rfl (.refl _)) nofun
  · rename_i n h
    rw [h]
    exact .intercom n

theorem takeSample_record (p : PortId) (x : Byte) (s : State) : CallSampled (s.record p).call ((takeSample p x s).record p).call ∧
    ∀ q, q ≠ p → (takeSample p x s).record q = s.record q := by
  have hset : CallSampled (s.record p).call ((s.setRecord p (recordSample (s.record p) x).1).record p).call ∧
      ∀ q, q ≠ p → (s.setRecord p (recordSample (s.record p) x).1).record q = s.record q := by
    rw [State.setRecord_record_same]
    exact ⟨recordSample_sampled _ x, fun q hq => State.setRecord_record_of_ne s hq _⟩
  unfold takeSample
  dsimp only
  split
  · split
    · exact hset
    · refine ⟨?_, fun q hq => ?_⟩
      · simpa [State.record] using hset.1
      · have hq' := hset.2 q hq
        simpa [State.record, Pair.get_set_of_ne _ hq] using hq'
    · exact hset
  · exact hset

theorem sampleStep_sampled (one two : PortFrame) (s : State) (p : PortId) :
    CallSampled (s.record p).call ((sampleStep one two s).record p).call := by
  have taken : ∀ (t : State) x y, t.voice = s.voice →
      CallSampled (s.record p).call ((takeSample .p2 y (takeSample .p1 x t)).record p).call := by
    intro t x y ht
    obtain ⟨hone, htwo⟩ := takeSample_record .p1 x t
    obtain ⟨hsecond, hfirst⟩ := takeSample_record .p2 y (takeSample .p1 x t)
    rw [← State.record_of_voice ht]
    cases p with
    | p1 =>
      rw [hfirst .p1 nofun]
      exact hone
    | p2 =>
      rw [htwo .p2 nofun] at hsecond
      exact hsecond
  exact taken _ _ _ (by simp)

end Sys2Proof.Machine
end

section
/-! PROOFS. The invariants of the calls, VQ and the jitter buffers (R91, R92, R117 to R120, R125, R126). -/

namespace Sys2Proof.Machine

theorem otherPort_ne (p : PortId) : otherPort p ≠ p := by cases p <;> decide

theorem eq_or_eq_otherPort (p q : PortId) : q = p ∨ q = otherPort p := by cases p <;> cases q <;> decide

theorem otherPort_otherPort (p : PortId) : otherPort (otherPort p) = p := by cases p <;> rfl

/-! ## Closing a record -/

theorem freeRecord_record (p : PortId) (s : State) : (freeRecord p s).record p = { s.record p with call := .free } ∧
    ∀ q, q ≠ p → (freeRecord p s).record q = s.record q :=
  ⟨by simp [freeRecord, vqRemove, State.record], fun q hq => by simp [freeRecord, vqRemove, State.record, Pair.get_set_of_ne _ hq]⟩

/-- R120: what a close leaves of each call: FREE, or what it was when neither it nor an intercom's partner is closed. -/
theorem closeRecord_call (p q : PortId) (s : State) :
    ((closeRecord p s).record q).call = .free ∨
      ((closeRecord p s).record q).call = (s.record q).call ∧ q ≠ p ∧ ∀ n, (s.record p).call ≠ .intercom n := by
  have free := fun p s => (freeRecord_record p s).1
  have other := fun p s => (freeRecord_record p s).2
  by_cases hqp : q = p
  · subst hqp
    refine .inl ?_
    unfold closeRecord
    split
    · assumption
    · rw [free]
    · rw [other _ _ _ (otherPort_ne q).symm, free]
  · have hq := (eq_or_eq_otherPort p q).resolve_left hqp
    unfold closeRecord
    split
    · rename_i h
      exact .inr ⟨rfl, hqp, fun n hn => by simp [State.record] at hn; simp [hn] at h⟩
    · rename_i h
      exact .inr ⟨by rw [other p s q hqp], hqp, fun n hn => by simp [State.record] at hn; simp [hn] at h⟩
    · refine .inl ?_
      rw [hq, free]

/-! ## The calls (R118, R119) -/

theorem CallsOk.of_moves {s t : State} (h : CallsOk s) (hm : CallMoves s t) : CallsOk t where
  linked p n hn := ((hm (otherPort p)).intercom_iff n).mpr (h.linked p n (((hm p).intercom_iff n).mp hn))
  distinct m n hone htwo := h.distinct m n ((hm .p1).lineStream ▸ hone) ((hm .p2).lineStream ▸ htwo)
  stream p m hm' := h.stream p m ((hm p).lineStream ▸ hm')

theorem CallSampled.lineStream {a b : Call} (h : CallSampled a b) : b.lineStream = a.lineStream := by
  cases h with
  | moved h => exact h.lineStream
  | intercom n => rfl

theorem CallsOk.sampled {s t : State} (h : CallsOk s) (hs : ∀ p, CallSampled (s.record p).call (t.record p).call) : CallsOk t where
  linked p n hn := by
    have hp := hs p
    have ho := hs (otherPort p)
    rw [hn] at hp
    generalize ha : (s.record p).call = a at hp
    cases hp with
    | moved hm hnot => exact absurd ((hm.intercom_iff n).mp rfl) (hnot n)
    | intercom m =>
      rw [h.linked p m ha] at ho
      generalize (t.record (otherPort p)).call = b at ho
      cases ho with
      | moved _ hnot => exact absurd rfl (hnot m)
      | intercom => rfl
  distinct m n hone htwo := h.distinct m n ((hs .p1).lineStream ▸ hone) ((hs .p2).lineStream ▸ htwo)
  stream p m hm := h.stream p m ((hs p).lineStream ▸ hm)

theorem CallsOk.closed {s : State} (h : CallsOk s) (p : PortId) : CallsOk (closeRecord p s) := by
  have hstream : ∀ q m, ((closeRecord p s).record q).call.lineStream = some m → (s.record q).call.lineStream = some m := by
    intro q m hm
    rcases closeRecord_call p q s with hq | ⟨hq, -⟩
    · rw [hq] at hm
      cases hm
    · rwa [hq] at hm
  refine ⟨fun q n hq => ?_, fun m n hone htwo => h.distinct m n (hstream .p1 m hone) (hstream .p2 n htwo),
    fun q m hm => h.stream q m (hstream q m hm)⟩
  rcases closeRecord_call p q s with hfree | ⟨hsame, hne, hnot⟩
  · rw [hfree] at hq
    cases hq
  · rw [hsame] at hq
    have hlinked := h.linked q n hq
    have hp : otherPort q = p := by
      have hq := (eq_or_eq_otherPort p q).resolve_left hne
      rw [hq, otherPort_otherPort]
    exact absurd (hp ▸ hlinked) (hnot n)

theorem CallsOk.openedLine {s : State} (h : CallsOk s) {p : PortId} {stream target : Nat} {idle : Byte} (hstream : stream ≤ 15)
    (hother : (s.record (otherPort p)).call.lineStream ≠ some stream) (hfree : (s.record p).call = .free) :
    CallsOk (openLine p stream target idle s) := by
  have hsame : (openLine p stream target idle s).record p =
      { call := .line (LineCall.fresh stream target), idle := idle, counts := CallCounts.zero } :=
    State.setRecord_record_same _ _ _
  have hrest : ∀ q, q ≠ p → (openLine p stream target idle s).record q = s.record q := fun q hq =>
    State.setRecord_record_of_ne s hq _
  have hnot : ∀ n, (s.record (otherPort p)).call ≠ .intercom n := by
    intro n hn
    have hlinked := h.linked (otherPort p) n hn
    rw [otherPort_otherPort, hfree] at hlinked
    cases hlinked
  have hstreams : ∀ q m, ((openLine p stream target idle s).record q).call.lineStream = some m →
      q = p ∧ m = stream ∨ q = otherPort p ∧ (s.record q).call.lineStream = some m := by
    intro q m hm
    rcases eq_or_eq_otherPort p q with rfl | rfl
    · rw [hsame] at hm
      exact .inl ⟨rfl, (Option.some.inj hm).symm⟩
    · rw [hrest _ (otherPort_ne p)] at hm
      exact .inr ⟨rfl, hm⟩
  refine ⟨fun q n hq => ?_, fun m n hone htwo he => ?_, fun q m hm => ?_⟩
  · rcases eq_or_eq_otherPort p q with rfl | rfl
    · rw [hsame] at hq
      cases hq
    · rw [hrest _ (otherPort_ne p)] at hq
      exact absurd hq (hnot n)
  · subst he
    rcases hstreams .p1 m hone with ⟨hp, rfl⟩ | ⟨hp, hs1⟩ <;> rcases hstreams .p2 _ htwo with ⟨hp', hm⟩ | ⟨hp', hs2⟩
    · rw [← hp] at hp'
      cases hp'
    · rw [hp'] at hs2
      exact hother hs2
    · rw [hp, hm] at hs1
      exact hother hs1
    · rw [← hp'] at hp
      cases hp
  · rcases hstreams q m hm with ⟨-, rfl⟩ | ⟨-, hq⟩
    · exact hstream
    · exact h.stream q m hq

theorem CallsOk.of_free {t : State} (h : ∀ p, (t.record p).call = .free) : CallsOk t := by
  refine ⟨fun p n hp => ?_, fun m n hm => ?_, fun p m hp => ?_⟩
  · rw [h p] at hp
    cases hp
  · have h1 : (t.record .p1).call.lineStream = some m := hm
    rw [h .p1] at h1
    cases h1
  · rw [h p] at hp
    cases hp

theorem callsOk_schKept : SchKept CallsOk where
  same e h := h.of_moves (.of_voice e.voice)
  mq e h := h.of_moves (.of_voice e.voice)
  lineDown e h := h.of_moves (.of_voice e.voice)
  mode m s t _ hvoice _ _ h := h.of_moves (.of_voice (by simpa using hvoice))
  params start entries s t _ hvoice _ _ h := h.of_moves (.of_voice (by simpa using hvoice))
  closed p s h := h.closed p
  admitted i f s h := h.of_moves (.of_voice (by simp))
  swept i s h := h.of_moves (.of_voice (by simp))
  boundary p s h := h.of_moves (boundaryStep_calls p s)
  pulled s h := h.of_moves (.of_voice (by simp))
  credited n s h := h.of_moves (.of_voice rfl)
  arrived n f s h := h.of_moves (voiceArrives_calls n f s)
  sampled one two s h := h.sampled (sampleStep_sampled one two s)
  openedLine p stream target idle s hstream _ hfree hother h := h.openedLine hstream hother hfree
  openedIntercom idle s _ h := by
    have hcall : ∀ p, ((openIntercom idle s).record p).call = .intercom 0 := fun p => by cases p <;> rfl
    refine ⟨fun p n hp => ?_, nofun, fun p m hp => ?_⟩
    · rw [hcall] at hp ⊢
      exact hp
    · rw [hcall] at hp
      cases hp
  lineReset s h := h.of_moves (.of_voice rfl)
  trafficReset s h := h.of_moves (.of_voice rfl)
  voiceReset s _ := .of_free fun p => by cases p <;> rfl
  monitorReset s h := h.of_moves (resetMonitorScope_calls s)
  partReset s := .of_free fun p => by cases p <;> rfl
  powerOn := reset_callsOk

/-! ## The jitter buffers (R118, R125, R126) -/

/-- R118, R125, R126: the rules of one jitter buffer. -/
structure BufferOk (b : JitterBuffer) : Prop where
  distinct : (b.held.map HeldFrame.seq).Nodup
  window : ∀ e, b.expected = some e → ∀ f ∈ b.held, (f.seq - e).toNat ≤ 7
  empty : b.expected = none → b.held = [] ∧ b.playing = false
  first : ∀ e, b.playing = false → b.expected = some e → ∃ f ∈ b.held, f.seq = e

/-- Eight sequence numbers at most lie 0 to 7 after the expected one. -/
theorem BufferOk.eight {b : JitterBuffer} (h : BufferOk b) : b.held.length ≤ 8 := by
  cases he : b.expected with
  | none => simp [(h.empty he).1]
  | some e =>
    have hnodup : (b.held.map fun f => (f.seq - e).toNat).Nodup := by
      have hdistinct := h.distinct
      have hinj : Function.Injective fun x : BitVec 16 => (x - e).toNat := fun x y hxy => by
        have hsub : x - e = y - e := BitVec.eq_of_toNat_eq hxy
        simpa using congrArg (· + e) hsub
      simpa [List.map_map, Function.comp_def] using hdistinct.map hinj
    have hrange : (b.held.map fun f => (f.seq - e).toNat) ⊆ List.range 8 := by
      intro n hn
      obtain ⟨f, hf, rfl⟩ := List.mem_map.mp hn
      exact List.mem_range.mpr (Nat.lt_succ_of_le (h.window e he f hf))
    simpa using (hnodup.subperm hrange).length_le

theorem bufferOk_fresh : BufferOk JitterBuffer.fresh := ⟨List.nodup_nil, nofun, fun _ => ⟨rfl, rfl⟩, nofun⟩

theorem BufferOk.arrival {b : JitterBuffer} (h : BufferOk b) (f : HeldFrame) : BufferOk (bufferArrival b f) := by
  have resync : BufferOk { playing := false, expected := some f.seq, held := [f], last := none, conceal := 0 } := by
    refine ⟨by simp, fun e he g hg => ?_, nofun, fun e _ he => ⟨f, by simp, Option.some.inj he⟩⟩
    cases he
    rw [List.mem_singleton.mp hg]
    simp
  unfold bufferArrival placeArrival
  cases he : b.expected with
  | none =>
    obtain ⟨hheld, hplaying⟩ := h.empty he
    refine ⟨by simp [hheld], fun e hf g hg => ?_, nofun, fun e _ hf => ⟨f, by simp [hheld], Option.some.inj hf⟩⟩
    cases hf
    simp only [hheld, List.nil_append, List.mem_singleton] at hg
    simp [hg]
  | some e =>
    dsimp only
    by_cases hwindow : (f.seq - e).toNat ≤ 7
    · by_cases hheld : b.held.any (·.seq == f.seq)
      · rw [if_pos hwindow, if_pos hheld]
        exact h
      · rw [if_pos hwindow, if_neg hheld]
        have hnew : f.seq ∉ b.held.map HeldFrame.seq := by simpa using hheld
        refine ⟨?_, fun e' he' g hg => ?_, nofun, fun e' hp he' => ?_⟩
        · simp only [List.map_append, List.map_cons, List.map_nil]
          exact List.nodup_append.mpr ⟨h.distinct, by simp, fun x hx y hy hxy => by
            rw [List.mem_singleton.mp hy] at hxy
            exact hnew (hxy ▸ hx)⟩
        · cases he'
          rcases List.mem_append.mp hg with hg | hg
          · exact h.window e he g hg
          · rw [List.mem_singleton.mp hg]
            exact hwindow
        · cases he'
          obtain ⟨g, hg, hseq⟩ := h.first e hp he
          exact ⟨g, List.mem_append_left _ hg, hseq⟩
    · rw [if_neg hwindow]
      split
      · exact absurd ‹_› (by split <;> simp)
      · exact absurd ‹_› (by split <;> simp)
      · exact h
      · exact resync

/-- One more than the expected number: what is held and is not the expected frame stays in the window. -/
theorem window_succ {x e : BitVec 16} (h : (x - e).toNat ≤ 7) (hne : x ≠ e) : (x - (e + 1)).toNat ≤ 7 := by
  have hpos : (x - e).toNat ≠ 0 := fun h0 => hne (by
    have hz : x - e = 0 := BitVec.eq_of_toNat_eq (by simpa using h0)
    simpa using congrArg (· + e) hz)
  bv_omega

theorem BufferOk.filling {b : JitterBuffer} (h : BufferOk b) {target : Nat} (htarget : 1 ≤ target) (idle : Byte)
    (hplaying : b.playing = false) : BufferOk (tickFilling target idle b).buffer := by
  refine ⟨h.distinct, h.window, fun he => ?_, fun e _ he => h.first e hplaying he⟩
  obtain ⟨hheld, -⟩ := h.empty he
  refine ⟨hheld, ?_⟩
  simp only [tickFilling, hheld, List.length_nil, decide_eq_false_iff_not]
  omega

theorem BufferOk.absent {b : JitterBuffer} (h : BufferOk b) {e : BitVec 16} (he : b.expected = some e)
    (hplaying : b.playing = true) (hheld : ∀ f ∈ b.held, f.seq ≠ e) (idle : Byte) : BufferOk (tickAbsent idle e b).buffer := by
  unfold tickAbsent
  dsimp only
  split
  · exact bufferOk_fresh
  · refine ⟨h.distinct, fun e' he' f hf => ?_, nofun, fun e' hp => ?_⟩
    · cases he'
      exact window_succ (h.window e he f hf) (hheld f hf)
    · rw [hplaying] at hp
      cases hp

theorem BufferOk.playing {b : JitterBuffer} (h : BufferOk b) {e : BitVec 16} (he : b.expected = some e)
    (hplaying : b.playing = true) (idle : Byte) : BufferOk (tickPlaying idle e b).buffer := by
  unfold tickPlaying
  split
  · rename_i f hfind
    have hseq : f.seq = e := by simpa using List.find?_some hfind
    have hleft : ∀ g ∈ b.held.eraseP (·.seq == e), g ∈ b.held ∧ g.seq ≠ e := by
      intro g hg
      refine ⟨List.mem_of_mem_eraseP hg, fun hge => ?_⟩
      have hcount : ∀ l : List HeldFrame, (l.map HeldFrame.seq).Nodup → g ∉ l.eraseP (·.seq == e) := by
        intro l hl
        induction l with
        | nil => simp
        | cons x l ih =>
          simp only [List.map_cons, List.nodup_cons] at hl
          obtain ⟨hx, hl⟩ := hl
          by_cases hxe : x.seq = e
          · rw [List.eraseP_cons_of_pos (by simpa using hxe)]
            exact fun hgl => hx (hxe ▸ hge ▸ List.mem_map_of_mem hgl)
          · rw [List.eraseP_cons_of_neg (by simpa using hxe), List.mem_cons]
            rintro (rfl | hgl)
            · exact hxe hge
            · exact ih hl hgl
      exact hcount b.held h.distinct hg
    refine ⟨?_, fun e' he' g hg => ?_, nofun, fun e' hp => ?_⟩
    · exact h.distinct.sublist ((List.eraseP_sublist).map _)
    · cases he'
      obtain ⟨hmem, hne⟩ := hleft g hg
      exact window_succ (h.window e he g hmem) hne
    · rw [hplaying] at hp
      cases hp
  · rename_i hfind
    refine h.absent he hplaying (fun f hf hseq => ?_) idle
    exact absurd hseq (by simpa using List.find?_eq_none.mp hfind f hf)

theorem BufferOk.tick {b : JitterBuffer} (h : BufferOk b) {target : Nat} (htarget : 1 ≤ target) (idle : Byte) :
    BufferOk (playoutTick target idle b).buffer := by
  unfold playoutTick
  split
  · exact h.playing ‹_› ‹_› idle
  · rename_i hp he
    rw [(h.empty he).2] at hp
    cases hp
  · exact h.filling htarget idle ‹_›

theorem BufferOk.moves {target : Nat} (htarget : 1 ≤ target) {b c : JitterBuffer} (hm : BufferMove target b c) (h : BufferOk b) :
    BufferOk c := by
  induction hm with
  | refl => exact h
  | arrival b f => exact h.arrival f
  | tick b idle => exact h.tick htarget idle
  | trans _ _ ih ik => exact ik (ih h)

/-- R118, R125, R126: the rules of a LINE call's target and buffer. -/
def LineOk (c : LineCall) : Prop := (1 ≤ c.target ∧ c.target ≤ 6) ∧ BufferOk c.buffer

theorem buffersOk_iff {s : State} : BuffersOk s ↔ ∀ p c, (s.record p).call = .line c → LineOk c := by
  refine ⟨fun h p c hc => ⟨h.target p c hc, h.distinct p c hc, fun e => h.window p c e hc, h.empty p c hc,
    fun e => h.first p c e hc⟩, fun h => ?_⟩
  exact ⟨fun p c hc => (h p c hc).2.eight, fun p c hc => (h p c hc).2.distinct, fun p c e hc => (h p c hc).2.window e,
    fun p c hc => (h p c hc).2.empty, fun p c e hc => (h p c hc).2.first e, fun p c hc => (h p c hc).1⟩

theorem CallMove.lineOk {a b : Call} (hm : CallMove a b) (h : ∀ c, a = .line c → LineOk c) : ∀ c, b = .line c → LineOk c := by
  intro d hd
  cases hm with
  | refl => exact h d hd
  | line hs ht hb =>
    cases hd
    obtain ⟨hrange, hbuffer⟩ := h _ rfl
    exact ⟨ht ▸ hrange, BufferOk.moves hrange.1 hb hbuffer⟩

theorem BuffersOk.of_moves {s t : State} (h : BuffersOk s) (hm : CallMoves s t) : BuffersOk t :=
  buffersOk_iff.mpr fun p => (hm p).lineOk (buffersOk_iff.mp h p)

theorem buffersOk_of_free {t : State} (h : ∀ p, (t.record p).call = .free) : BuffersOk t :=
  buffersOk_iff.mpr fun p c hc => by
    rw [h p] at hc
    cases hc

theorem buffersOk_schKept : SchKept fun s => ParamsOk s.params ∧ BuffersOk s where
  same e h := ⟨by rw [State.params, e.params]; exact h.1, h.2.of_moves (.of_voice e.voice)⟩
  mq e h := ⟨by rw [State.params, e.params]; exact h.1, h.2.of_moves (.of_voice e.voice)⟩
  lineDown e h := ⟨by rw [State.params, e.params]; exact h.1, h.2.of_moves (.of_voice e.voice)⟩
  mode m s t _ hvoice _ hparams h := ⟨by simpa [hparams] using h.1, h.2.of_moves (.of_voice (by simpa using hvoice))⟩
  params start entries s t _ hvoice _ hparams h :=
    ⟨by simpa [hparams] using h.1.storeParams start entries, h.2.of_moves (.of_voice (by simpa using hvoice))⟩
  closed p s h := by
    refine ⟨by simpa using h.1, buffersOk_iff.mpr fun q c hc => ?_⟩
    rcases closeRecord_call p q s with hq | ⟨hq, -⟩
    · rw [hq] at hc
      cases hc
    · exact buffersOk_iff.mp h.2 q c (hq ▸ hc)
  admitted i f s h := ⟨by simpa using h.1, h.2.of_moves (.of_voice (by simp))⟩
  swept i s h := ⟨by simpa using h.1, h.2.of_moves (.of_voice (by simp))⟩
  boundary p s h := ⟨by simpa using h.1, h.2.of_moves (boundaryStep_calls p s)⟩
  pulled s h := ⟨by simpa using h.1, h.2.of_moves (.of_voice (by simp))⟩
  credited n s h := ⟨h.1, h.2.of_moves (.of_voice rfl)⟩
  arrived n f s h := ⟨by simpa using h.1, h.2.of_moves (voiceArrives_calls n f s)⟩
  sampled one two s h := by
    refine ⟨by simpa using h.1, buffersOk_iff.mpr fun p c hc => ?_⟩
    have hs := sampleStep_sampled one two s p
    have hp := buffersOk_iff.mp h.2 p
    generalize (s.record p).call = a at hs hp
    generalize ((sampleStep one two s).record p).call = b at hs hc
    cases hs with
    | moved hm => exact hm.lineOk hp c hc
    | intercom n => cases hc
  openedLine p stream target idle s _ hrange _ _ h := by
    obtain ⟨hparams, hbuffers⟩ := h
    refine ⟨hparams, buffersOk_iff.mpr fun q c hc => ?_⟩
    by_cases hqp : q = p
    · subst hqp
      rw [openLine, State.setRecord_record_same] at hc
      cases hc
      refine ⟨?_, bufferOk_fresh⟩
      rcases hrange with rfl | hrange
      · exact hparams.jitterTarget
      · exact hrange
    · rw [openLine, State.setRecord_record_of_ne s hqp] at hc
      exact buffersOk_iff.mp hbuffers q c hc
  openedIntercom idle s _ h := ⟨h.1, buffersOk_iff.mpr fun p c hc => by cases p <;> cases hc⟩
  lineReset s h := ⟨h.1, h.2.of_moves (.of_voice rfl)⟩
  trafficReset s h := ⟨h.1, h.2.of_moves (.of_voice rfl)⟩
  voiceReset s h := ⟨h.1, buffersOk_of_free fun p => by cases p <;> rfl⟩
  monitorReset s h := ⟨h.1, h.2.of_moves (resetMonitorScope_calls s)⟩
  partReset s := ⟨reset_paramsOk, buffersOk_of_free fun p => by cases p <;> rfl⟩
  powerOn := ⟨reset_paramsOk, reset_buffersOk⟩

end Sys2Proof.Machine
end

section
/-! PROOFS. VQ's rules (R91, R92), and with them what every step keeps of the calls, VQ and the jitter buffers. -/

namespace Sys2Proof.Machine

/-- R91, R92: the rules of VQ when the records hold the streams `σ`. -/
structure VqOk (σ : PortId → Option Nat) (vq : List VqFrame) : Prop where
  held : ∀ f ∈ vq, σ f.port = some f.stream
  four : ∀ p, (vqOf vq p).length ≤ 4
  behind : ∀ f rest, vq = f :: rest → ∀ g ∈ rest, g.started = false

/-- The stream of each record. -/
def State.streams (s : State) (p : PortId) : Option Nat := (s.record p).call.lineStream

theorem voiceQueueOk_iff {s : State} : VoiceQueueOk s ↔ VqOk s.streams s.sch.vq :=
  ⟨fun h => ⟨h.held, h.four, h.behind⟩, fun h => ⟨h.held, h.four, h.behind⟩⟩

theorem CallMoves.streams {s t : State} (h : CallMoves s t) : t.streams = s.streams := funext fun p => (h p).lineStream

theorem vqOk_nil (σ : PortId → Option Nat) : VqOk σ [] := ⟨nofun, fun _ => Nat.zero_le 4, nofun⟩

theorem VqOk.sublist {σ τ : PortId → Option Nat} {a b : List VqFrame} (h : VqOk σ a) (hs : List.Sublist b a)
    (hτ : ∀ f ∈ b, τ f.port = σ f.port) : VqOk τ b where
  held f hf := (hτ f hf).trans (h.held f (hs.subset hf))
  four p := (hs.filter _).length_le.trans (h.four p)
  behind f rest hb g hg := by
    subst hb
    cases a with
    | nil => cases hs
    | cons x l => exact h.behind x l rfl g (hs.tail.subset hg)

theorem VqOk.congr {σ τ : PortId → Option Nat} {a : List VqFrame} (h : VqOk σ a) (hτ : τ = σ) : VqOk τ a := hτ ▸ h

/-- R91: of four frames of a record at most one, the oldest of VQ, has been started, so that one can be dropped. -/
theorem VqOk.exists_unstarted {σ : PortId → Option Nat} {vq : List VqFrame} (h : VqOk σ vq) {p : PortId}
    (hlen : 4 ≤ (vqOf vq p).length) : ∃ f ∈ vq, (f.port == p && !f.started) = true := by
  by_contra hnone
  have hstarted : ∀ f ∈ vqOf vq p, f.started = true := by
    intro f hf
    obtain ⟨hmem, hport⟩ := List.mem_filter.mp hf
    by_contra hs
    exact hnone ⟨f, hmem, by rw [hport]; simpa using hs⟩
  cases vq with
  | nil => exact absurd hlen (by simp [vqOf])
  | cons f rest =>
    have hrest : vqOf rest p = [] := List.eq_nil_iff_forall_not_mem.mpr fun g hg => by
      have hg' : g ∈ vqOf (f :: rest) p := (List.Sublist.filter _ (List.sublist_cons_self f rest)).subset hg
      have hfalse := h.behind f rest rfl g (List.mem_filter.mp hg).1
      rw [hstarted g hg'] at hfalse
      cases hfalse
    have hone : (vqOf (f :: rest) p).length ≤ 1 := by
      unfold vqOf at hrest ⊢
      rw [List.filter_cons]
      split <;> simp [hrest]
    omega

theorem dropOldestUnstarted_sublist (p : PortId) (vq : List VqFrame) : List.Sublist (dropOldestUnstarted p vq) vq :=
  List.eraseP_sublist

theorem vqOf_append (a b : List VqFrame) (p : PortId) : vqOf (a ++ b) p = vqOf a p ++ vqOf b p := List.filter_append _ _

theorem length_vqOf_dropOldestUnstarted {p : PortId} {vq : List VqFrame} (h : ∃ f ∈ vq, (f.port == p && !f.started) = true) :
    (vqOf (dropOldestUnstarted p vq) p).length + 1 = (vqOf vq p).length := by
  obtain ⟨f, hf, hp⟩ := h
  obtain ⟨a, l₁, l₂, -, ha, heq, herase⟩ := List.exists_of_eraseP (p := fun f => f.port == p && !f.started) hf hp
  have hport : (a.port == p) = true := (Bool.and_eq_true_iff.mp ha).1
  rw [dropOldestUnstarted, herase, heq, vqOf_append, vqOf_append]
  have hcons : vqOf (a :: l₂) p = a :: vqOf l₂ p := List.filter_cons_of_pos hport
  rw [hcons]
  simp only [List.length_append, List.length_cons]
  omega

theorem VqOk.append {σ : PortId → Option Nat} {vq : List VqFrame} (h : VqOk σ vq) {f : VqFrame}
    (hf : σ f.port = some f.stream) (hnew : f.started = false) (hroom : (vqOf vq f.port).length < 4) : VqOk σ (vq ++ [f]) where
  held g hg := by
    rcases List.mem_append.mp hg with hg | hg
    · exact h.held g hg
    · rw [List.mem_singleton.mp hg]
      exact hf
  four p := by
    rw [vqOf_append, List.length_append]
    by_cases hp : f.port = p
    · subst hp
      have hone : (vqOf [f] f.port).length = 1 := by simp [vqOf]
      omega
    · have hnone : vqOf [f] p = [] := by simp [vqOf, hp]
      rw [hnone]
      exact h.four p
  behind g rest hg x hx := by
    cases vq with
    | nil =>
      cases hg
      exact absurd hx List.not_mem_nil
    | cons y l =>
      obtain ⟨-, rfl⟩ := List.cons.inj hg
      rcases List.mem_append.mp hx with hx | hx
      · exact h.behind y l rfl x hx
      · rw [List.mem_singleton.mp hx]
        exact hnew

theorem VqOk.joined {σ : PortId → Option Nat} {vq : List VqFrame} (h : VqOk σ vq) {f : VqFrame}
    (hf : σ f.port = some f.stream) (hnew : f.started = false) : VqOk σ (vqJoined f vq) := by
  unfold vqJoined
  split
  · exact h.append hf hnew ‹_›
  · rename_i hfull
    have hlen := length_vqOf_dropOldestUnstarted (h.exists_unstarted (Nat.le_of_not_lt hfull))
    have hfour := h.four f.port
    exact (h.sublist (dropOldestUnstarted_sublist f.port vq) fun _ _ => rfl).append hf hnew (by omega)

/-! ## The operations -/

theorem formFrame_voiceQueueOk (p : PortId) {s : State} (h : VoiceQueueOk s) : VoiceQueueOk (formFrame p s) := by
  have hvq := voiceQueueOk_iff.mp h
  by_cases hline : ∃ c, (s.record p).call = .line c
  · obtain ⟨c, hc⟩ := hline
    rw [voiceQueueOk_iff, (formFrame_calls p s).streams, formFrame_sch hc]
    split
    · refine hvq.joined (f := c.formedFrame p) ?_ rfl
      simp [State.streams, LineCall.formedFrame, hc, Call.lineStream]
    · exact hvq
  · rwa [formFrame_of_not_line (not_exists.mp hline)]

theorem giveVoice_vq {s : State} (h : VqOk s.streams s.sch.vq) : VqOk s.streams (giveVoice s).1.sch.vq := by
  unfold giveVoice
  dsimp only
  split
  · exact h.sublist (by simpa [payUnit] using List.eraseP_sublist) fun _ _ => rfl
  · split
    · exact h
    · rename_i f rest hq
      rw [hq] at h
      refine ⟨fun g hg => ?_, fun p => ?_, fun g l hg x hx => ?_⟩
      · simp only [State.modSch_sch, payUnit, List.mem_cons] at hg
        rcases hg with rfl | hg
        · exact h.held f List.mem_cons_self
        · exact h.held g (List.mem_cons_of_mem f hg)
      · have hlen := h.four p
        unfold vqOf at hlen ⊢
        simp only [State.modSch_sch, payUnit, List.filter_cons] at hlen ⊢
        split at hlen <;> simp_all
      · simp only [State.modSch_sch, payUnit] at hg
        obtain ⟨-, rfl⟩ := List.cons.inj hg
        exact h.behind f rest rfl x hx

theorem giveData_vq (i : Ix4) (s : State) : (giveData i s).1.sch.vq = s.sch.vq := by
  unfold giveData
  dsimp only
  split
  · rfl
  · split <;> rfl

theorem giveMessage_vq (m : Message) (n : Nat) (s : State) : (giveMessage m n s).1.sch.vq = s.sch.vq := by
  unfold giveMessage
  dsimp only
  split <;> simp [payUnit]

theorem nextUnit_vq (s : State) : (nextUnit s).1.sch.vq = s.sch.vq ∨ nextUnit s = giveVoice s := by
  unfold nextUnit
  split
  · exact .inl rfl
  split
  · exact .inl (giveMessage_vq _ _ _)
  · exact .inl (giveMessage_vq _ _ _)
  · split
    · exact .inr rfl
    · refine .inl ?_
      unfold nextData
      dsimp only
      split
      · exact giveData_vq _ s
      · split
        · exact (giveData_vq _ _).trans (selectData_lineQueues s).vq
        · exact (selectData_lineQueues s).vq

theorem VoiceQueueOk.of_same {s t : State} (h : VoiceQueueOk s) (hvq : t.sch.vq = s.sch.vq) (hm : CallMoves s t) :
    VoiceQueueOk t := by
  rw [voiceQueueOk_iff, hvq, hm.streams]
  exact voiceQueueOk_iff.mp h

theorem pullUnit_voiceQueueOk {s : State} (h : VoiceQueueOk s) : VoiceQueueOk (pullUnit s) := by
  have hmoves : CallMoves s (pullUnit s) := .of_voice (by simp)
  by_cases hrun : s.inRun = true
  · rcases nextUnit_vq s with he | he
    · exact h.of_same (by rw [pullUnit_sch, if_pos hrun, he]) hmoves
    · rw [voiceQueueOk_iff, hmoves.streams, pullUnit_sch, if_pos hrun, he]
      exact giveVoice_vq (voiceQueueOk_iff.mp h)
  · exact h.of_same (by rw [pullUnit_sch, if_neg hrun]) hmoves

theorem closeRecord_voiceQueueOk (p : PortId) {s : State} (h : VoiceQueueOk s) : VoiceQueueOk (closeRecord p s) := by
  have freed : ∀ p {s : State}, VoiceQueueOk s → VoiceQueueOk (freeRecord p s) := by
    intro p s h
    rw [voiceQueueOk_iff, freeRecord_sch]
    refine (voiceQueueOk_iff.mp h).sublist List.filter_sublist fun f hf => ?_
    have hne : f.port ≠ p := by simpa using (List.mem_filter.mp hf).2
    rw [State.streams, (freeRecord_record p s).2 f.port hne]
    rfl
  unfold closeRecord
  split
  · exact h
  · exact freed p h
  · exact freed _ (freed p h)

theorem VoiceQueueOk.of_free {s t : State} {p : PortId} (h : VoiceQueueOk s) (hfree : (s.record p).call = .free)
    (hvq : t.sch.vq = s.sch.vq) (hrest : ∀ q, q ≠ p → t.streams q = s.streams q) : VoiceQueueOk t := by
  have hvq' := voiceQueueOk_iff.mp h
  rw [voiceQueueOk_iff, hvq]
  refine hvq'.sublist (List.Sublist.refl _) fun f hf => hrest _ fun hp => ?_
  have hheld := hvq'.held f hf
  rw [hp, State.streams, hfree] at hheld
  cases hheld

theorem voiceQueue_schKept : SchKept VoiceQueueOk where
  same e h := h.of_same (by rw [e.sch]) (.of_voice e.voice)
  mq e h := h.of_same (by rw [e.sch]) (.of_voice e.voice)
  lineDown e _ := by
    rw [voiceQueueOk_iff, e.sch]
    exact vqOk_nil _
  mode m s t hsch hvoice _ _ h :=
    h.of_same (by rw [(setShedLevel_lineQueues _ t).vq, hsch]) (.of_voice (by simpa using hvoice))
  params start entries s t hsch hvoice _ _ h :=
    h.of_same (by rw [(tellScheduler_lineQueues _ t).vq, hsch]) (.of_voice (by simpa using hvoice))
  closed p s h := closeRecord_voiceQueueOk p h
  admitted i f s h := h.of_same (admitFrame_lineQueues i f s).vq (.of_voice (by simp))
  swept i s h := h.of_same (dropStale_lineQueues i s).vq (.of_voice (by simp))
  boundary p s h := (formFrame_voiceQueueOk p h).of_same (by simp [boundaryStep]) (takePlayout_calls p _)
  pulled s h := pullUnit_voiceQueueOk h
  credited n s h := h.of_same rfl (.of_voice rfl)
  arrived n f s h := h.of_same (by simp) (voiceArrives_calls n f s)
  sampled one two s h := by
    rw [voiceQueueOk_iff]
    have hstreams : (sampleStep one two s).streams = s.streams := funext fun p => (sampleStep_sampled one two s p).lineStream
    rw [hstreams]
    simpa using voiceQueueOk_iff.mp h
  openedLine p stream target idle s _ _ hfree _ h := h.of_free hfree rfl fun q hq => by
    rw [State.streams, openLine, State.setRecord_record_of_ne s hq]
    rfl
  openedIntercom idle s hfree h := by
    refine VoiceQueueOk.of_free h (hfree .p1) rfl fun q _ => ?_
    rw [State.streams, State.streams, hfree q]
    cases q <;> rfl
  lineReset s _ := by
    rw [voiceQueueOk_iff]
    exact vqOk_nil _
  trafficReset s _ := by
    rw [voiceQueueOk_iff]
    exact vqOk_nil _
  voiceReset s _ := by
    have hnil : (resetVoiceScope s).sch.vq = [] := by
      simp only [resetVoiceScope, resetRecords, vqRemove, State.modSch_sch, List.filter_filter]
      exact List.filter_eq_nil_iff.mpr fun f _ => by cases hp : f.port <;> simp
    rw [voiceQueueOk_iff, hnil]
    exact vqOk_nil _
  monitorReset s h := h.of_same rfl (resetMonitorScope_calls s)
  partReset s := by
    rw [voiceQueueOk_iff]
    exact vqOk_nil _
  powerOn := reset_voiceQueueOk

/-- Settles O10: VQ, the calls and the jitter buffers as three invariants of the scheduler and the records. -/
theorem callsAndVoiceQueueAgree : Obligations.CallsAndVoiceQueueAgree :=
  ⟨fun _ _ hs h => voiceQueue_schKept.preserved.step hs h, fun _ _ hs h => callsOk_schKept.preserved.step hs h,
    fun _ _ hparams hs h => (buffersOk_schKept.preserved.step ⟨hparams, hs⟩ h).2⟩

end Sys2Proof.Machine
end

section
/-! PROOFS. What occurrences bring to the event unit, from one state to another: the flags, the sets and the log, whatever else
has changed (R147 to R150, R153, R154, R156). -/

namespace Sys2Proof.Machine

/-! ## The log's records -/

/-- R148: of the occurrences `es`, in their order, those that write a log record, when the flags set before them are `p`. -/
def written (p : KindSet) : List Event → List Event
  | [] => []
  | e :: es => (if logsNow e.kind (p.has e.kind) then [e] else []) ++ written (p.insert e.kind) es

/-- The flags after occurrences. -/
def marked (p : KindSet) (es : List Event) : KindSet := es.foldl (fun q e => q.insert e.kind) p

theorem written_append (p : KindSet) (es fs : List Event) :
    written p (es ++ fs) = written p es ++ written (marked p es) fs := by
  induction es generalizing p with
  | nil => rfl
  | cons e es ih => simp [written, marked, ih]

theorem marked_append (p : KindSet) (es fs : List Event) : marked p (es ++ fs) = marked (marked p es) fs :=
  List.foldl_append

theorem marked_has (p : KindSet) (es : List Event) (k : Kind) :
    (marked p es).has k = (p.has k || es.any fun e => decide (e.kind = k)) := by
  induction es generalizing p with
  | nil => simp [marked]
  | cons e es ih =>
    show (marked (p.insert e.kind) es).has k = _
    rw [ih, KindSet.has_insert, List.any_cons, Bool.or_assoc]

/-- A kind under a mask joins a set. -/
def insertUnder (m p : KindSet) (k : Kind) : KindSet := if m.has k then p.insert k else p

/-- A set that kinds under a mask join, after occurrences. -/
def joined (m p : KindSet) (es : List Event) : KindSet := es.foldl (fun q e => insertUnder m q e.kind) p

theorem joined_append (m p : KindSet) (es fs : List Event) : joined m p (es ++ fs) = joined m (joined m p es) fs :=
  List.foldl_append

theorem insertUnder_has (m p : KindSet) (k j : Kind) : (insertUnder m p k).has j = (p.has j || (decide (k = j) && m.has j)) := by
  unfold insertUnder
  split
  · rename_i h
    rw [KindSet.has_insert]
    by_cases hkj : k = j
    · subst hkj
      simp [h]
    · simp [hkj]
  · rename_i h
    by_cases hkj : k = j
    · subst hkj
      simp [h]
    · simp [hkj]

theorem joined_has (m p : KindSet) (es : List Event) (k : Kind) :
    (joined m p es).has k = (p.has k || ((es.any fun e => decide (e.kind = k)) && m.has k)) := by
  induction es generalizing p with
  | nil => simp [joined]
  | cons e es ih =>
    show (joined m (insertUnder m p e.kind) es).has k = _
    rw [ih, insertUnder_has, List.any_cons]
    cases p.has k <;> cases decide (e.kind = k) <;> cases m.has k <;> simp

/-! ## Occurrences from one state to another -/

/-- From `s` to `t` the event unit has taken the occurrences `es`, in their order, and nothing else but notices. -/
structure Occurs (es : List Event) (s t : State) : Prop where
  params : t.agent.params = s.agent.params
  partition : t.agent.partition = s.agent.partition
  pending : t.evt.pending = marked s.evt.pending es
  far : t.evt.farPending = joined s.params.farMask s.evt.farPending es
  due : ∀ k : Kind, t.evt.noticeDue.has k = true → (joined s.params.noticeMask s.evt.noticeDue es).has k = true
  paced : s.evt.pacing ≠ .ready → t.evt.pacing = s.evt.pacing ∧ t.evt.noticeDue = joined s.params.noticeMask s.evt.noticeDue es
  asleep : t.evt.asleep = (s.evt.asleep && !es.any fun e => s.params.wakeMask.has e.kind)
  pin : t.evt.wakePin = (s.evt.wakePin || (s.evt.asleep && es.any fun e => s.params.wakeMask.has e.kind))
  age : t.evt.reportAge = s.evt.reportAge
  log : ∃ new : List LogRecord, t.evt.log = new.foldl (joinLog (192 - 16 * s.agent.partition)) s.evt.log ∧
    new.map LogRecord.event = written s.evt.pending es

theorem Occurs.of_evt {s t : State} (hevt : t.evt = s.evt) (hparams : t.agent.params = s.agent.params)
    (hpartition : t.agent.partition = s.agent.partition) : Occurs [] s t where
  params := hparams
  partition := hpartition
  pending := by rw [hevt]; rfl
  far := by rw [hevt]; rfl
  due k hk := by rw [hevt] at hk; exact hk
  paced _ := by rw [hevt]; exact ⟨rfl, rfl⟩
  asleep := by rw [hevt]; simp
  pin := by rw [hevt]; simp
  age := by rw [hevt]
  log := ⟨[], by rw [hevt]; rfl, rfl⟩

theorem Occurs.refl (s : State) : Occurs [] s s := .of_evt rfl rfl rfl

theorem Occurs.params_eq {es : List Event} {s t : State} (h : Occurs es s t) : t.params = s.params := h.params

theorem Occurs.trans {es fs : List Event} {s t u : State} (h : Occurs es s t) (k : Occurs fs t u) : Occurs (es ++ fs) s u where
  params := k.params.trans h.params
  partition := k.partition.trans h.partition
  pending := by rw [k.pending, h.pending, marked_append]
  far := by rw [k.far, h.far, h.params_eq, joined_append]
  due j hj := by
    have hdue := k.due j hj
    rw [joined_has, h.params_eq] at hdue
    rw [joined_append, joined_has]
    cases hn : t.evt.noticeDue.has j with
    | true =>
      rw [h.due j hn]
      rfl
    | false =>
      rw [hn, Bool.false_or] at hdue
      rw [hdue, Bool.or_true]
  paced hp := by
    obtain ⟨hpacing, hdue⟩ := h.paced hp
    obtain ⟨kpacing, kdue⟩ := k.paced (hpacing ▸ hp)
    exact ⟨kpacing.trans hpacing, by rw [kdue, hdue, h.params_eq, joined_append]⟩
  asleep := by
    rw [k.asleep, h.asleep, h.params_eq, List.any_append, Bool.not_or, Bool.and_assoc]
  pin := by
    rw [k.pin, h.pin, h.asleep, h.params_eq, List.any_append]
    cases s.evt.wakePin <;> cases s.evt.asleep <;> cases (es.any fun e => s.params.wakeMask.has e.kind) <;> rfl
  age := k.age.trans h.age
  log := by
    obtain ⟨new, hlog, hnew⟩ := h.log
    obtain ⟨new', hlog', hnew'⟩ := k.log
    refine ⟨new ++ new', ?_, ?_⟩
    · rw [hlog', hlog, h.partition, List.foldl_append]
    · rw [List.map_append, hnew, hnew', written_append, h.pending]

/-- R148, R154: the record that an occurrence writes. -/
def recordOf (e : Event) (s : State) : LogRecord :=
  { stamp := s.mon.seconds, kind := e.kind, line := s.line.state, mode := s.supply.mode, detailA := e.a, detailB := e.b }

/-- An occurrence marks the event unit, and writes its record if its kind is logged now. -/
theorem takeOccurrence_eq (e : Event) (s : State) : (takeOccurrence e s).evt =
    { markEvent e.kind s.params s.evt with
      log := if logsNow e.kind (s.evt.pending.has e.kind) then joinLog (192 - 16 * s.agent.partition) s.evt.log (recordOf e s)
        else s.evt.log
      overwritten := if logsNow e.kind (s.evt.pending.has e.kind) = true ∧ 192 - 16 * s.agent.partition ≤ s.evt.log.length then
          satInc s.evt.overwritten
        else s.evt.overwritten } := by
  unfold takeOccurrence
  dsimp only
  split
  · rename_i hlogs
    show (if s.evt.log.length < 192 - 16 * s.agent.partition then _ else _ : EventUnit) = _
    split
    · rename_i hroom
      have hfull : ¬ 192 - 16 * s.agent.partition ≤ s.evt.log.length := by omega
      simp only [hfull, and_false, if_false, if_true, joinLog, hroom]
      rfl
    · rename_i hroom
      have hfull : 192 - 16 * s.agent.partition ≤ s.evt.log.length := by omega
      simp only [hfull, hlogs, and_true, if_false, if_true, joinLog, hroom]
      rfl
  · rename_i hlogs
    simp only [hlogs, false_and, if_false, Bool.false_eq_true]
    rfl

theorem takeOccurrence_occurs (e : Event) (s : State) : Occurs [e] s (takeOccurrence e s) := by
  have hagent : (takeOccurrence e s).agent = s.agent := (takeOccurrence_quiet e s).agent
  have hevt := takeOccurrence_eq e s
  exact
    { params := by rw [hagent]
      partition := by rw [hagent]
      pending := by rw [hevt]; rfl
      far := by rw [hevt]; rfl
      due := fun k hk => by rw [hevt] at hk; exact hk
      paced := fun _ => by rw [hevt]; exact ⟨rfl, rfl⟩
      asleep := by
        rw [hevt]
        simp only [markEvent, List.any_cons, List.any_nil]
        cases s.evt.asleep <;> cases s.params.wakeMask.has e.kind <;> rfl
      pin := by
        rw [hevt]
        simp only [markEvent, List.any_cons, List.any_nil]
        cases s.evt.asleep <;> cases s.params.wakeMask.has e.kind <;> simp
      age := by rw [hevt]; rfl
      log := by
        rw [hevt]
        by_cases hlogs : logsNow e.kind (s.evt.pending.has e.kind) = true
        · exact ⟨[recordOf e s], by simp [hlogs], by simp [written, hlogs]; rfl⟩
        · exact ⟨[], by simp [hlogs], by simp [written, hlogs]⟩ }

theorem offerNotice_due (s : State) :
    (∀ k : Kind, (offerNotice s).evt.noticeDue.has k = true → s.evt.noticeDue.has k = true) ∧
      (s.evt.pacing ≠ .ready → offerNotice s = s) := by
  unfold offerNotice
  split
  · rename_i howed
    have hready : s.evt.pacing = .ready := by
      simp only [noticeOwed, Bool.and_eq_true, beq_iff_eq] at howed
      exact howed.2
    refine ⟨?_, fun h => absurd hready h⟩
    split
    · intro k hk
      exact absurd (show (0 : KindSet).has k = true from hk) (by simp [KindSet.has])
    · exact fun k hk => hk
  · exact ⟨fun k hk => hk, fun _ => rfl⟩

theorem offerNotice_occurs (s : State) : Occurs [] s (offerNotice s) := by
  have hagent : (offerNotice s).agent = s.agent := (offerNotice_quiet s).agent
  obtain ⟨hpending, hlog, hasleep, hfar, hpin, -, hage⟩ := offerNotice_evt s
  obtain ⟨hdue, hready⟩ := offerNotice_due s
  exact
    { params := by rw [hagent]
      partition := by rw [hagent]
      pending := hpending
      far := hfar
      due := hdue
      paced := fun hp => by rw [hready hp]; exact ⟨rfl, rfl⟩
      asleep := by rw [hasleep]; simp
      pin := by rw [hpin]; simp
      age := hage
      log := ⟨[], hlog, rfl⟩ }

/-! ## What the watches count -/

@[simp] theorem offerNotice_watches (s : State) : (offerNotice s).mon.watches = s.mon.watches := by
  unfold offerNotice
  split
  · split
    · rename_i t ht
      unfold mgmtOffer at ht
      split at ht
      · obtain rfl := Option.some.inj ht
        rfl
      · cases ht
    · rfl
  · rfl

@[simp] theorem takeOccurrence_watches (e : Event) (s : State) : (takeOccurrence e s).mon.watches = s.mon.watches := by
  unfold takeOccurrence
  dsimp only
  split <;> rfl

/-- The hits on the watches whose source `p` holds of: one each. -/
def hitBy (p : WatchSource → Bool) : Ix4 → WatchSource → Nat := fun _ src => if p src then 1 else 0

/-- From `s` to `t` the part has been told of the occurrences `es`, in their order, and a watch of index `i` and source `src`
has been hit `hits i src` times. The only other occurrences are WATCH, each with the index of a watch; what the watches on WATCH
itself count is left open. -/
structure Tells (es : List Event) (hits : Ix4 → WatchSource → Nat) (s t : State) : Prop where
  occurs : ∃ all : List Event, Occurs all s t ∧
    (all.filter fun e => e.kind != .watch) = (es.filter fun e => e.kind != .watch) ∧
    (∀ e ∈ all, e.kind = .watch → e ∈ es ∨ ∃ i : Ix4, e = .withA .watch i.num) ∧ ∀ e ∈ es, e ∈ all
  source : ∀ i, (t.mon.watches.get i).source = (s.mon.watches.get i).source ∧
    (t.mon.watches.get i).threshold = (s.mon.watches.get i).threshold
  count : ∀ i, (s.mon.watches.get i).source ≠ .event .watch →
    (t.mon.watches.get i).count = satInc^[hits i (s.mon.watches.get i).source] (s.mon.watches.get i).count
  crossed : ∀ i, (s.mon.watches.get i).source ≠ .event .watch → 0 < hits i (s.mon.watches.get i).source →
    (s.mon.watches.get i).threshold = (s.mon.watches.get i).count + 1 → (s.mon.watches.get i).count < counterMax →
    t.evt.pending.has .watch = true

/-- Nothing has been told, and no watch hit. -/
abbrev Untold (s t : State) : Prop := Tells [] (fun _ _ => 0) s t

theorem Occurs.has {es : List Event} {s t : State} (h : Occurs es s t) (k : Kind) :
    t.evt.pending.has k = (s.evt.pending.has k || es.any fun e => decide (e.kind = k)) := by
  rw [h.pending, marked_has]

theorem Tells.stays {es : List Event} {hits : Ix4 → WatchSource → Nat} {s t : State} (h : Tells es hits s t) (k : Kind)
    (hk : s.evt.pending.has k = true) : t.evt.pending.has k = true := by
  obtain ⟨all, hall, -⟩ := h.occurs
  rw [hall.has, hk, Bool.true_or]

theorem Tells.set {es : List Event} {hits : Ix4 → WatchSource → Nat} {s t : State} (h : Tells es hits s t) (e : Event)
    (he : e ∈ es) : t.evt.pending.has e.kind = true := by
  obtain ⟨all, hall, -, -, hmem⟩ := h.occurs
  rw [hall.has, List.any_eq_true.mpr ⟨e, hmem e he, by simp⟩, Bool.or_true]

theorem Tells.trans {es fs : List Event} {m n : Ix4 → WatchSource → Nat} {s t u : State} (h : Tells es m s t)
    (k : Tells fs n t u) : Tells (es ++ fs) (fun i src => m i src + n i src) s u where
  occurs := by
    obtain ⟨all, hall, hrest, htold, hmem⟩ := h.occurs
    obtain ⟨all', hall', hrest', htold', hmem'⟩ := k.occurs
    refine ⟨all ++ all', hall.trans hall', by simp [hrest, hrest'], fun e he hw => ?_, fun e he => ?_⟩
    · rcases List.mem_append.mp he with he | he
      · exact (htold e he hw).imp_left (List.mem_append_left _)
      · exact (htold' e he hw).imp_left (List.mem_append_right _)
    · exact List.mem_append.mpr ((List.mem_append.mp he).imp (hmem e) (hmem' e))
  source i := ⟨(k.source i).1.trans (h.source i).1, (k.source i).2.trans (h.source i).2⟩
  count i hi := by
    have hi' : (t.mon.watches.get i).source ≠ .event .watch := by rwa [(h.source i).1]
    rw [k.count i hi', (h.source i).1, h.count i hi, Nat.add_comm, Function.iterate_add_apply]
  crossed i hi hhit hcross hroom := by
    have hi' : (t.mon.watches.get i).source ≠ .event .watch := by rwa [(h.source i).1]
    rcases Nat.eq_zero_or_pos (m i (s.mon.watches.get i).source) with hzero | hpos
    · have hcount := h.count i hi
      rw [hzero, Function.iterate_zero_apply] at hcount
      refine k.crossed i hi' ?_ ?_ (by rw [hcount]; exact hroom)
      · rw [(h.source i).1]
        omega
      · rw [(h.source i).2, hcount, hcross]
    · exact k.stays _ (h.crossed i hi hpos hcross hroom)

theorem Tells.of_hits_at {es : List Event} {m n : Ix4 → WatchSource → Nat} {s t : State} (h : Tells es m s t)
    (hits : ∀ i, (s.mon.watches.get i).source ≠ .event .watch →
      n i (s.mon.watches.get i).source = m i (s.mon.watches.get i).source) : Tells es n s t where
  occurs := h.occurs
  source := h.source
  count i hi := by rw [hits i hi]; exact h.count i hi
  crossed i hi := by rw [hits i hi]; exact h.crossed i hi

theorem Tells.of_hits {es : List Event} {m n : Ix4 → WatchSource → Nat} {s t : State} (h : Tells es m s t)
    (hits : ∀ i src, src ≠ .event .watch → n i src = m i src) : Tells es n s t :=
  h.of_hits_at fun i hi => hits i _ hi

theorem Untold.same {s t : State} (hevt : t.evt = s.evt) (hwatches : t.mon.watches = s.mon.watches)
    (hparams : t.agent.params = s.agent.params) (hpartition : t.agent.partition = s.agent.partition) : Untold s t where
  occurs := ⟨[], .of_evt hevt hparams hpartition, rfl, by simp, by simp⟩
  source i := by rw [hwatches]; exact ⟨rfl, rfl⟩
  count i _ := by rw [hwatches]; rfl
  crossed _ _ h := absurd h (Nat.lt_irrefl 0)

theorem Untold.refl (s : State) : Untold s s := .same rfl rfl rfl rfl

/-- A step that tells of nothing adds nothing to what has been told. -/
theorem Tells.untold {es : List Event} {m : Ix4 → WatchSource → Nat} {s t u : State} (h : Tells es m s t) (k : Untold t u) :
    Tells es m s u := by
  have hjoin := h.trans k
  rw [List.append_nil] at hjoin
  exact hjoin

theorem Untold.then {es : List Event} {m : Ix4 → WatchSource → Nat} {s t u : State} (h : Untold s t) (k : Tells es m t u) :
    Tells es m s u := by
  refine (h.trans k).of_hits fun i src _ => ?_
  rw [Nat.zero_add]

theorem offerNotice_untold (s : State) : Untold s (offerNotice s) where
  occurs := ⟨[], offerNotice_occurs s, rfl, by simp, by simp⟩
  source i := by
    rw [offerNotice_watches]
    exact ⟨rfl, rfl⟩
  count i _ := by
    rw [offerNotice_watches]
    rfl
  crossed _ _ h := absurd h (Nat.lt_irrefl 0)

theorem takeOccurrence_tells (e : Event) (s : State) : Tells [e] (fun _ _ => 0) s (takeOccurrence e s) where
  occurs := ⟨[e], takeOccurrence_occurs e s, rfl, by simp_all, by simp⟩
  source i := by
    rw [takeOccurrence_watches]
    exact ⟨rfl, rfl⟩
  count i _ := by
    rw [takeOccurrence_watches]
    rfl
  crossed _ _ h := absurd h (Nat.lt_irrefl 0)

end Sys2Proof.Machine
end

section
/-! PROOFS. What raising an occurrence, entering a condition and seeing a message tell the part, and the terms of the statements
that follow from it: the log, the flags and the watches (R145 to R148). -/

namespace Sys2Proof.Machine

/-! ## Watches that fire -/

/-- The index of a watch that WATCH tells of may be left out of what has been told. -/
theorem Tells.of_watch {i : Ix4} {m : Ix4 → WatchSource → Nat} {s t : State} (h : Tells [.withA .watch i.num] m s t) :
    Tells [] m s t where
  occurs := by
    obtain ⟨all, hall, hrest, htold, -⟩ := h.occurs
    refine ⟨all, hall, hrest, fun e he hw => .inr ?_, by simp⟩
    rcases htold e he hw with hone | hother
    · exact ⟨i, List.mem_singleton.mp hone⟩
    · exact hother
  source := h.source
  count := h.count
  crossed := h.crossed

theorem watchCrosses_of {w : Watch} (hcross : w.threshold = w.count + 1) (hroom : w.count < counterMax) :
    watchCrosses w = true := by
  have hnext : satInc w.count = w.count + 1 := satInc_of_lt hroom
  simp [watchCrosses, hnext, hcross]

/-- A watch that has counted has been hit once, if WATCH has been told of when it crosses. -/
theorem countWatch_tells {i : Ix4} {s t : State} (h : Untold (countWatch i s) t)
    (hset : watchCrosses (s.mon.watches.get i) = true → t.evt.pending.has .watch = true) :
    Tells [] (fun j _ => if j = i then 1 else 0) s t := by
  have hwatch : ∀ j, (countWatch i s).mon.watches.get j =
      if j = i then { s.mon.watches.get i with count := satInc (s.mon.watches.get i).count } else s.mon.watches.get j :=
    fun j => Quad.get_set _ _ _ _
  have hkept : ∀ j, ((countWatch i s).mon.watches.get j).source = (s.mon.watches.get j).source ∧
      ((countWatch i s).mon.watches.get j).threshold = (s.mon.watches.get j).threshold := by
    intro j
    rw [hwatch]
    split
    · rename_i hj
      subst hj
      exact ⟨rfl, rfl⟩
    · exact ⟨rfl, rfl⟩
  exact
    { occurs := by
        obtain ⟨all, hall, hrest⟩ := h.occurs
        have hcounted : Occurs [] s (countWatch i s) := .of_evt rfl rfl rfl
        exact ⟨all, hcounted.trans hall, hrest⟩
      source := fun j => ⟨(h.source j).1.trans (hkept j).1, (h.source j).2.trans (hkept j).2⟩
      count := fun j hj => by
        have hcount := h.count j (by rwa [(hkept j).1])
        rw [Function.iterate_zero_apply, hwatch] at hcount
        rw [hcount]
        split
        · rename_i hj
          subst hj
          rfl
        · rfl
      crossed := fun j hj hhit hcross hroom => by
        have hji : j = i := by
          by_contra hne
          simp [hne] at hhit
        subst hji
        exact hset (watchCrosses_of hcross hroom) }

/-- What `fireWith` asks of the operation that raises WATCH: once it is ready, it tells of WATCH alone. -/
def RaisesWatch (ready : State → Prop) (r : Event → State → State) : Prop :=
  ∀ (i : Ix4) (s : State), ready s → Untold s (r (.withA .watch i.num) s) ∧ (r (.withA .watch i.num) s).evt.pending.has .watch = true

theorem fireFold_tells {ready : State → Prop} {r : Event → State → State} (hr : RaisesWatch ready r)
    (hready : ∀ s t, (s.evt.pending.has .watch = true → t.evt.pending.has .watch = true) → ready s → ready t)
    (p : WatchSource → Bool) (l : List Ix4) (hl : l.Nodup) (s : State) (hs : ready s) :
    Tells [] (fun i src => if i ∈ l ∧ p src = true then 1 else 0) s (l.foldl (fun t i =>
      let w := t.mon.watches.get i
      if p w.source then
        if watchCrosses w then r (.withA .watch i.num) (countWatch i t) else countWatch i t
      else t) s) := by
  induction l generalizing s with
  | nil => exact (Untold.refl s).of_hits fun i src _ => by simp
  | cons i l ih =>
    obtain ⟨hi, hl⟩ := List.nodup_cons.mp hl
    have hstep : Tells [] (fun j _ => if j = i ∧ p (s.mon.watches.get i).source = true then 1 else 0) s
        (if p (s.mon.watches.get i).source then
          if watchCrosses (s.mon.watches.get i) then r (.withA .watch i.num) (countWatch i s) else countWatch i s
        else s) := by
      split
      · rename_i hp
        refine (?_ : Tells [] (fun j _ => if j = i then 1 else 0) s _).of_hits fun j src _ => by simp [hp]
        split
        · have hraised := hr i (countWatch i s) (hready s _ (fun h => h) hs)
          exact countWatch_tells hraised.1 fun _ => hraised.2
        · rename_i hcross
          exact countWatch_tells (Untold.refl _) fun h => absurd h hcross
      · rename_i hp
        exact (Untold.refl s).of_hits fun j src _ => by simp [hp]
    rw [List.foldl_cons]
    refine (hstep.trans (ih hl _ (hready s _ (hstep.stays _) hs))).of_hits_at fun j _ => ?_
    rcases eq_or_ne j i with rfl | hji
    · simp [hi]
    · simp [hji]

theorem fireWith_tells {ready : State → Prop} {r : Event → State → State} (hr : RaisesWatch ready r)
    (hready : ∀ s t, (s.evt.pending.has .watch = true → t.evt.pending.has .watch = true) → ready s → ready t)
    (p : WatchSource → Bool) (s : State) (hs : ready s) : Tells [] (hitBy p) s (fireWith r p s) := by
  refine (fireFold_tells hr hready p Ix4.all (by decide) s hs).of_hits fun i src _ => ?_
  simp [hitBy, Ix4.mem_all]

/-- `raiseAt` at depth `n` tells of WATCH: at the depth 0, that the chain of R146 never passes, WATCH has been told of. -/
theorem raiseAt_raisesWatch (n : Nat) :
    RaisesWatch (fun s => n = 0 → s.evt.pending.has .watch = true) (raiseAt n) := by
  induction n with
  | zero => exact fun i s hs => ⟨Untold.refl s, hs rfl⟩
  | succ n ih =>
    intro i s _
    have htaken := (takeOccurrence_tells (.withA .watch i.num) s).untold (offerNotice_untold _)
    have hset := htaken.set _ (List.mem_singleton_self _)
    have hfired := fireWith_tells ih (fun _ _ h hs hn => h (hs hn)) (fun src => src == .event .watch)
      (offerNotice (takeOccurrence (.withA .watch i.num) s)) fun _ => hset
    refine ⟨(htaken.of_watch.trans hfired).of_hits fun j src hsrc => ?_, hfired.stays _ hset⟩
    simp [hitBy, hsrc]

theorem raiseAt_ready (n : Nat) (s : State) : n + 1 = 0 → s.evt.pending.has .watch = true := fun h => absurd h (Nat.succ_ne_zero n)

theorem raiseAt_succ (n : Nat) (e : Event) (s : State) : raiseAt (n + 1) e s =
    fireWith (raiseAt n) (fun src => src == .event e.kind) (offerNotice (takeOccurrence e s)) := rfl

theorem raiseAt_tells (n : Nat) (e : Event) (s : State) :
    Tells [e] (hitBy fun src => src == .event e.kind) s (raiseAt (n + 2) e s) := by
  have htaken := (takeOccurrence_tells e s).untold (offerNotice_untold _)
  have hfired := fireWith_tells (raiseAt_raisesWatch (n + 1)) (fun _ _ h hs hn => h (hs hn)) (fun src => src == .event e.kind)
    (offerNotice (takeOccurrence e s)) (raiseAt_ready n _)
  refine ((htaken.trans hfired).of_hits fun i src _ => ?_)
  rw [Nat.zero_add]

/-- R148: raising an occurrence tells of it, and hits the watches on its kind. -/
theorem raise_tells (e : Event) (s : State) : Tells [e] (hitBy fun src => src == .event e.kind) s (raise e s) :=
  raiseAt_tells 3 e s

theorem fire_tells (p : WatchSource → Bool) (s : State) : Tells [] (hitBy p) s (fireWith raise p s) :=
  fireWith_tells (raiseAt_raisesWatch 5) (fun _ _ h hs hn => h (hs hn)) p s (raiseAt_ready 4 s)

theorem enterCondition_tells (c : Condition) (s : State) :
    Tells [] (hitBy fun src => src == .edge c) s (enterCondition c s) := fire_tells _ s

/-- The sources that a message hits. -/
def seenBy (inbound : Bool) (k : MsgKind) : WatchSource → Bool
  | .message a b => a.admits inbound k || b.admits inbound k
  | .event _ => false
  | .edge _ => false
  | .time _ => false

theorem seeMessage_tells (inbound : Bool) (k : MsgKind) (s : State) :
    Tells [] (hitBy (seenBy inbound k)) s (seeMessage inbound k s) := by
  have hfired : seeMessage inbound k s = fireWith raise (seenBy inbound k) s :=
    congrArg (fun p => fireWith raise p s) (funext fun src => by cases src <;> rfl)
  rw [hfired]
  exact fire_tells _ s

/-- The sources that a second hits when the conditions `holds` hold. -/
def timedBy (holds : Condition → Bool) : WatchSource → Bool
  | .time c => holds c
  | .event _ => false
  | .message _ _ => false
  | .edge _ => false

theorem countTimeWatches_tells (s : State) :
    Tells [] (hitBy (timedBy (conditionHolds s))) s (countTimeWatches s) := by
  have hfired : countTimeWatches s = fireWith raise (timedBy (conditionHolds s)) s :=
    congrArg (fun p => fireWith raise p s) (funext fun src => by cases src <;> rfl)
  rw [hfired]
  exact fire_tells _ s

end Sys2Proof.Machine
end

section
/-! PROOFS. The terms of the statements, from what has been told: the log's gain, an occurrence raised, and the watches counted
(R145 to R148, R154). -/

namespace Sys2Proof.Machine

/-! ## The log -/

/-- The kinds logged on set are told of once each. -/
def OnSetOnce (es : List Event) : Prop :=
  (es.filter fun e => e.kind != .watch).Pairwise fun a b => a.kind = b.kind → a.kind.logged ≠ .onSet

theorem OnSetOnce.nil : OnSetOnce [] := List.Pairwise.nil

theorem OnSetOnce.one (e : Event) : OnSetOnce [e] := (List.pairwise_singleton _ e).filter _

theorem logsNow_of_not_onSet {k : Kind} (hk : k.logged ≠ .onSet) (x y : Bool) : logsNow k x = logsNow k y := by
  unfold logsNow
  split
  · rfl
  · rfl
  · exact absurd ‹_› hk

theorem written_of_others (p : KindSet) (all : List Event) (h : OnSetOnce all) :
    ((written p all).filter fun e => e.kind != .watch) =
      all.filter fun e => e.kind != .watch && logsNow e.kind (p.has e.kind) := by
  induction all generalizing p with
  | nil => rfl
  | cons e all ih =>
    have hsame : ∀ f ∈ all, (f.kind != .watch && logsNow f.kind ((p.insert e.kind).has f.kind)) =
        (f.kind != .watch && logsNow f.kind (p.has f.kind)) := by
      intro f hf
      rw [KindSet.has_insert]
      by_cases hfw : f.kind = .watch
      · simp [hfw]
      by_cases hef : e.kind = f.kind
      · have hew : e.kind ≠ .watch := hef ▸ hfw
        have hcons : ((e :: all).filter fun e => e.kind != .watch) = e :: all.filter fun e => e.kind != .watch :=
          List.filter_cons_of_pos (by simp [hew])
        rw [OnSetOnce, hcons, List.pairwise_cons] at h
        have hlogged := h.1 f (List.mem_filter.mpr ⟨hf, by simp [hfw]⟩) hef
        rw [logsNow_of_not_onSet (hef ▸ hlogged)]
      · simp [hef]
    have hrest : OnSetOnce all := h.sublist ((List.sublist_cons_self e all).filter _)
    rw [written, List.filter_append, ih _ hrest, List.filter_congr hsame, List.filter_cons]
    by_cases hew : e.kind = .watch <;> by_cases hlogs : logsNow e.kind (p.has e.kind) = true <;> simp [hew, hlogs]

theorem written_of_watch (p : KindSet) (all : List Event) :
    ((written p all).filter fun e => e.kind == .watch).length ≤ if p.has .watch then 0 else 1 := by
  induction all generalizing p with
  | nil => exact Nat.zero_le _
  | cons e all ih =>
    have hrest := ih (p.insert e.kind)
    rw [KindSet.has_insert] at hrest
    rw [written, List.filter_append, List.length_append]
    by_cases hew : e.kind = .watch
    · have hall : ((written (p.insert e.kind) all).filter fun e => e.kind == .watch).length = 0 := by simpa [hew] using hrest
      rw [hall, hew]
      cases p.has .watch <;> simp [logsNow, Kind.logged, hew]
    · have hnone : ((if logsNow e.kind (p.has e.kind) = true then [e] else []).filter fun e => e.kind == .watch) = [] := by
        split <;> simp [hew]
      simpa [hnone, hew] using hrest

theorem written_subset {p : KindSet} {all : List Event} {e : Event} (h : e ∈ written p all) : e ∈ all := by
  induction all generalizing p with
  | nil => exact h
  | cons f all ih =>
    rcases List.mem_append.mp h with h | h
    · split at h
      · exact List.mem_cons.mpr (.inl (List.mem_singleton.mp h))
      · cases h
    · exact List.mem_cons_of_mem f (ih h)

theorem Tells.logGains {es : List Event} {hits : Ix4 → WatchSource → Nat} {s t : State} (h : Tells es hits s t)
    (honce : OnSetOnce es) : LogGains es s t := by
  obtain ⟨all, hall, hrest, htold, hmem⟩ := h.occurs
  obtain ⟨new, hlog, hnew⟩ := hall.log
  have honce' : OnSetOnce all := by rwa [OnSetOnce, hrest]
  have hothers : (new.filter fun r => r.kind != .watch).map LogRecord.event =
      (written s.evt.pending all).filter fun e => e.kind != .watch := by
    rw [← hnew, List.filter_map]
    rfl
  have hwatches : (new.filter fun r => r.kind == .watch).map LogRecord.event =
      (written s.evt.pending all).filter fun e => e.kind == .watch := by
    rw [← hnew, List.filter_map]
    rfl
  refine ⟨new, hlog, ?_, fun r hr hw => ?_, ?_⟩
  · have hboth : ∀ l : List Event, (l.filter fun e => e.kind != .watch && logsNow e.kind (s.evt.pending.has e.kind)) =
        (l.filter fun e => e.kind != .watch).filter fun e => logsNow e.kind (s.evt.pending.has e.kind) := by
      intro l
      rw [List.filter_filter]
      exact List.filter_congr fun e _ => Bool.and_comm _ _
    rw [hothers, written_of_others _ _ honce', hboth, hboth, hrest]
  · have hin : r.event ∈ all := written_subset (p := s.evt.pending) (hnew ▸ List.mem_map_of_mem hr)
    exact htold _ hin hw
  · rw [← List.length_map (f := LogRecord.event), hwatches]
    exact written_of_watch _ _

theorem Tells.other {es : List Event} {hits : Ix4 → WatchSource → Nat} {s t : State} (h : Tells es hits s t) {k : Kind}
    (hk : ∀ e ∈ es, e.kind ≠ k) (hw : k ≠ .watch) : t.evt.pending.has k = s.evt.pending.has k := by
  obtain ⟨all, hall, hrest, -, -⟩ := h.occurs
  have hnone : (all.any fun e => decide (e.kind = k)) = false := by
    rw [List.any_eq_false]
    intro e he hek
    have hkind : e.kind = k := of_decide_eq_true hek
    have hin : e ∈ es.filter fun e => e.kind != .watch := by
      rw [← hrest, List.mem_filter]
      exact ⟨he, by simp [hkind, hw]⟩
    exact hk e (List.mem_of_mem_filter hin) hkind
  rw [hall.has, hnone, Bool.or_false]

theorem Tells.raised {es : List Event} {hits : Ix4 → WatchSource → Nat} {s t : State} (h : Tells es hits s t)
    (honce : OnSetOnce es) (hquiet : Quiet s t) : Raised es s t where
  quiet := hquiet
  set := h.set
  other _ hk hw := h.other hk hw
  watch := h.stays _
  logged := h.logGains honce

/-! ## The watches -/

theorem Tells.counts {es : List Event} {hits : Ix4 → WatchSource → Nat} {s t : State} (h : Tells es hits s t) {i : Ix4}
    (hi : (s.mon.watches.get i).source ≠ .event .watch) {hit : Prop}
    (hhit : hit → hits i (s.mon.watches.get i).source = 1) (hnot : ¬ hit → hits i (s.mon.watches.get i).source = 0) :
    WatchCounts hit i s t := by
  have hcount := h.count i hi
  have hwatch : t.mon.watches.get i = { s.mon.watches.get i with count := (t.mon.watches.get i).count } := by
    obtain ⟨hsource, hthreshold⟩ := h.source i
    show _ = Watch.mk _ _ _
    rw [← hsource, ← hthreshold]
  refine ⟨fun hyes => ⟨?_, fun hcross hroom => h.crossed i hi ?_ hcross hroom⟩, fun hno => ?_⟩
  · rw [hwatch, hcount, hhit hyes]
    rfl
  · rw [hhit hyes]
    exact Nat.one_pos
  · rw [hwatch, hcount, hnot hno]
    rfl

theorem conditionHolds_iff (s : State) (c : Condition) : conditionHolds s c = true ↔ c.Holds s := by
  have hport : ∀ p : PhonePort, (p.hookCode == 1) = true ↔ p.state = .offHook ∨ p.state = .inBreak := by
    intro p
    unfold PhonePort.hookCode
    split <;> simp_all
  cases c with
  | port1OffHook => exact hport _
  | port2OffHook => exact hport _
  | guardArmed => simp [conditionHolds, Condition.Holds, Option.isSome_iff_ne_none]
  | cadenceLocked => simp [conditionHolds, Condition.Holds, Option.isSome_iff_ne_none]
  | lineRun => simp [conditionHolds, Condition.Holds, State.inRun_iff]
  | bindingSupply => simp [conditionHolds, Condition.Holds]
  | bindingProvider => simp [conditionHolds, Condition.Holds]
  | bindingLine => simp [conditionHolds, Condition.Holds]
  | onBattery => simp [conditionHolds, Condition.Holds]

/-- The conditions that `t` is in and `s` is not. -/
def entered (s t : State) (c : Condition) : Bool := conditionHolds t c && !conditionHolds s c

theorem entered_iff {s t : State} {c : Condition} : entered s t c = true ↔ ¬ c.Holds s ∧ c.Holds t := by
  rw [entered, Bool.and_eq_true, Bool.not_eq_true', ← conditionHolds_iff, ← conditionHolds_iff, Bool.not_eq_true, and_comm]

/-- R146: the watches in EDGE mode count, each once when its condition is entered. -/
theorem Tells.edges {es : List Event} {hits : Ix4 → WatchSource → Nat} {s t : State} (h : Tells es hits s t)
    (hhits : ∀ i c, hits i (.edge c) = if entered s t c then 1 else 0) : EdgesCounted s t := by
  intro i c hsource
  have hhit := hhits i c
  rw [← hsource] at hhit
  refine h.counts (by rw [hsource]; simp) (fun hyes => ?_) fun hno => ?_
  · rw [hhit, if_pos (entered_iff.mpr hyes)]
  · rw [hhit, if_neg fun hent => hno (entered_iff.mp hent)]

theorem MessageSeen.of_tells {es : List Event} {hits : Ix4 → WatchSource → Nat} {inbound : Bool} {k : MsgKind} {s t : State}
    (h : Tells es hits s t)
    (hhits : ∀ i a b, hits i (.message a b) = if a.admits inbound k || b.admits inbound k then 1 else 0) :
    MessageSeen inbound k s t := by
  intro i a b hsource
  have hhit := hhits i a b
  rw [← hsource] at hhit
  refine h.counts (by rw [hsource]; simp) (fun hyes => ?_) fun hno => ?_
  all_goals simp_all

theorem raise_raised (e : Event) (s : State) : Raised [e] s (raise e s) :=
  (raise_tells e s).raised (.one e) (raise_quiet e s)

/-! ## The rate unit -/

/-- The condition that a recomputation of `s` enters. -/
def bindsNow (s : State) (src : WatchSource) : Bool :=
  match (rateRecord s).binding.condition with
  | some c => src == .edge c && decide ((rateRecord s).binding ≠ s.rate.binding)
  | none => false

theorem recompute_tells (s : State) : Tells [] (hitBy (bindsNow s)) s (recompute s) := by
  have hset : Untold s (s.setRate (rateRecord s)) := .same rfl rfl rfl rfl
  unfold recompute
  dsimp only
  cases hcond : (rateRecord s).binding.condition with
  | none => exact hset.of_hits fun i src _ => by simp [hitBy, bindsNow, hcond]
  | some c =>
    dsimp only
    split
    · rename_i heq
      have hnone : ∀ src, bindsNow s src = false := fun src => by rw [bindsNow, hcond]; simp [heq]
      exact hset.of_hits fun i src _ => by simp [hitBy, hnone]
    · rename_i hne
      exact (hset.then (enterCondition_tells c _)).of_hits fun i src _ => by simp [hitBy, bindsNow, hcond, hne]

theorem bindsNow_iff {s : State} {c : Condition} : bindsNow s (.edge c) = true ↔
    (rateRecord s).binding.condition = some c ∧ (rateRecord s).binding ≠ s.rate.binding := by
  unfold bindsNow
  split
  · rename_i d hd
    simp only [hd, Bool.and_eq_true, beq_iff_eq, WatchSource.edge.injEq, Option.some.injEq, decide_eq_true_eq]
    exact and_congr_left fun _ => eq_comm
  · rename_i hnone
    simp [hnone]

theorem binding_condition_iff {b : Binding} {c : Condition} : b.condition = some c ↔
    c = .bindingLine ∧ b = .line ∨ c = .bindingProvider ∧ b = .provider ∨ c = .bindingSupply ∧ b = .supply := by
  cases b <;> simp [Binding.condition, eq_comm]

/-- R66, R146: the condition that a recomputation enters is that of a binding limit changed to another. -/
theorem bindsNow_edge (s : State) (c : Condition) : bindsNow s (.edge c) = entered s (s.setRate (rateRecord s)) c := by
  rw [Bool.eq_iff_iff, bindsNow_iff, binding_condition_iff, entered_iff]
  cases c with
  | bindingSupply => constructor <;> (simp [Condition.Holds]; grind)
  | bindingProvider => constructor <;> (simp [Condition.Holds]; grind)
  | bindingLine => constructor <;> (simp [Condition.Holds]; grind)
  | lineRun => exact ⟨fun h => by simp at h, fun h => absurd h.2 h.1⟩
  | guardArmed => exact ⟨fun h => by simp at h, fun h => absurd h.2 h.1⟩
  | cadenceLocked => exact ⟨fun h => by simp at h, fun h => absurd h.2 h.1⟩
  | onBattery => exact ⟨fun h => by simp at h, fun h => absurd h.2 h.1⟩
  | port1OffHook => exact ⟨fun h => by simp at h, fun h => absurd h.2 h.1⟩
  | port2OffHook => exact ⟨fun h => by simp at h, fun h => absurd h.2 h.1⟩

end Sys2Proof.Machine
end

section
/-! PROOFS. What an occurrence does (R146 to R148, R150, R153, R154, R156). -/

namespace Sys2Proof.Machine

theorem Quiet.conditionHolds {s t : State} (h : Quiet s t) (c : Condition) : conditionHolds t c = conditionHolds s c := by
  cases c <;> simp only [Machine.conditionHolds, State.inRun, h.line, h.rate, h.track, h.supply, h.phone]

/-- A recomputation counts the watches on the binding limit that it enters. -/
theorem recompute_edges (s : State) : EdgesCounted s (recompute s) := by
  refine (recompute_tells s).edges fun i c => ?_
  rw [hitBy, bindsNow_edge, entered, entered, (recompute_quiet s).conditionHolds]

theorem fireFold_of_none {r : Event → State → State} {p : WatchSource → Bool} {l : List Ix4} {s : State}
    (h : ∀ i ∈ l, p (s.mon.watches.get i).source = false) : l.foldl (fun t i =>
      let w := t.mon.watches.get i
      if p w.source then
        if watchCrosses w then r (.withA .watch i.num) (countWatch i t) else countWatch i t
      else t) s = s := by
  induction l with
  | nil => rfl
  | cons i l ih =>
    rw [List.foldl_cons]
    dsimp only
    rw [h i List.mem_cons_self, if_neg Bool.false_ne_true]
    exact ih fun j hj => h j (List.mem_cons_of_mem i hj)

theorem fireWith_of_none {r : Event → State → State} {p : WatchSource → Bool} {s : State}
    (h : ∀ i, p (s.mon.watches.get i).source = false) : fireWith r p s = s := by
  unfold fireWith
  exact fireFold_of_none fun i _ => h i

/-- With no watch on its kind, nothing but the taking of an occurrence and the offer of a notice happens. -/
theorem raise_of_unwatched {e : Event} {s : State} (h : ∀ i, (s.mon.watches.get i).source ≠ .event e.kind) :
    raise e s = offerNotice (takeOccurrence e s) := by
  rw [raise, raiseAt_succ]
  refine fireWith_of_none fun i => ?_
  rw [offerNotice_watches, takeOccurrence_watches]
  exact beq_eq_false_iff_ne.mpr (h i)

/-- Of the watches on a kind, a single one is counted, and raises WATCH when it crosses. -/
theorem fireWith_of_single {r : Event → State → State} {p : WatchSource → Bool} {i : Ix4} {s : State}
    (hkept : ∀ e t j, ((r e t).mon.watches.get j).source = (t.mon.watches.get j).source)
    (hi : p (s.mon.watches.get i).source = true) (hcross : watchCrosses (s.mon.watches.get i) = true)
    (hother : ∀ j, j ≠ i → p (s.mon.watches.get j).source = false) :
    fireWith r p s = r (.withA .watch i.num) (countWatch i s) := by
  obtain ⟨before, after, hall⟩ := List.append_of_mem (Ix4.mem_all i)
  have hnodup : (before ++ i :: after).Nodup := hall ▸ (by decide : Ix4.all.Nodup)
  obtain ⟨-, hcons, hdisjoint⟩ := List.nodup_append.mp hnodup
  have hbefore : i ∉ before := fun h => hdisjoint _ h _ List.mem_cons_self rfl
  have hcounted : ∀ j, ((countWatch i s).mon.watches.get j).source = (s.mon.watches.get j).source := by
    intro j
    show ((s.mon.watches.set i _).get j).source = _
    rw [Quad.get_set]
    split
    · subst_vars
      rfl
    · rfl
  unfold fireWith
  rw [hall, List.foldl_append, fireFold_of_none fun j hj => hother j fun h => hbefore (h ▸ hj), List.foldl_cons]
  simp only [hi, hcross, if_true]
  refine fireFold_of_none fun j hj => ?_
  rw [hkept, hcounted]
  exact hother j fun h => (List.nodup_cons.mp hcons).1 (h ▸ hj)

theorem written_eq_nil {p : KindSet} {all : List Event} (hp : p.has .watch = true) (hall : ∀ e ∈ all, e.kind = .watch) :
    written p all = [] := by
  induction all generalizing p with
  | nil => rfl
  | cons e all ih =>
    have hkind := hall e List.mem_cons_self
    have hset : (p.insert e.kind).has .watch = true := by rw [KindSet.has_insert, hp, Bool.true_or]
    have hsilent : logsNow e.kind (p.has e.kind) = false := by
      rw [hkind, hp]
      rfl
    rw [written, hsilent, ih hset fun f hf => hall f (List.mem_cons_of_mem e hf)]
    rfl

/-- WATCH told of with its flag clear is the newest record. -/
theorem raiseAt_watch_last (n : Nat) (i : Ix4) (s : State) (hclear : s.evt.pending.has .watch = false) :
    ((raiseAt (n + 1) (.withA .watch i.num) s).evt.log.getLast?).map LogRecord.event = some (.withA .watch i.num) := by
  have htaken := (takeOccurrence_occurs (.withA .watch i.num) s).trans (offerNotice_occurs _)
  have hset : (offerNotice (takeOccurrence (.withA .watch i.num) s)).evt.pending.has .watch = true := by
    rw [htaken.has]
    simp [Event.withA]
  have hfired := fireWith_tells (raiseAt_raisesWatch n) (fun _ _ h hs hn => h (hs hn)) (fun src => src == .event .watch)
    (offerNotice (takeOccurrence (.withA .watch i.num) s)) fun _ => hset
  obtain ⟨all, hall, hrest, -, -⟩ := hfired.occurs
  obtain ⟨new, hlog, hnew⟩ := hall.log
  have hwatches : ∀ e ∈ all, e.kind = .watch := fun e he => by
    by_contra hne
    have hin : e ∈ all.filter fun e => e.kind != .watch := List.mem_filter.mpr ⟨he, by simpa using hne⟩
    rw [hrest] at hin
    cases hin
  have hnone : new = [] := by simpa only [written_eq_nil hset hwatches, List.map_eq_nil_iff] using hnew
  have hlast : (raiseAt (n + 1) (.withA .watch i.num) s).evt.log = (takeOccurrence (.withA .watch i.num) s).evt.log := by
    rw [raiseAt_succ]
    rw [hnone, List.foldl_nil, (offerNotice_evt _).2.1] at hlog
    exact hlog
  rw [hlast, takeOccurrence_eq]
  simp [Event.withA, logsNow, Kind.logged, hclear, joinLog, recordOf, LogRecord.event]

theorem Tells.any_eq {e : Event} {hits : Ix4 → WatchSource → Nat} {s t : State} (h : Tells [e] hits s t) {k : Kind}
    (hk : k ≠ .watch ∨ e.kind = .watch) : ∃ all, Occurs all s t ∧ (all.any fun f => decide (f.kind = k)) = decide (k = e.kind) := by
  obtain ⟨all, hall, hrest, htold, hmem⟩ := h.occurs
  refine ⟨all, hall, ?_⟩
  rw [Bool.eq_iff_iff, List.any_eq_true, decide_eq_true_eq]
  constructor
  · rintro ⟨f, hf, hfk⟩
    have hfk := of_decide_eq_true hfk
    by_cases hw : k = .watch
    · exact hw.trans (hk.resolve_left (not_not_intro hw)).symm
    · have hin : f ∈ all.filter fun e => e.kind != .watch := List.mem_filter.mpr ⟨hf, by simp [hfk, hw]⟩
      rw [hrest] at hin
      rw [← hfk, List.mem_singleton.mp (List.mem_of_mem_filter hin)]
  · rintro rfl
    exact ⟨e, hmem e (List.mem_singleton_self e), by simp⟩

theorem raise_joins (e : Event) (s : State) (k : Kind) (hk : k ≠ .watch ∨ e.kind = .watch) :
    let joins : KindSet → KindSet → Bool := fun set mask => set.has k || (decide (k = e.kind) && mask.has k)
    (raise e s).evt.farPending.has k = joins s.evt.farPending s.params.farMask ∧
    ((raise e s).evt.noticeDue.has k = true → joins s.evt.noticeDue s.params.noticeMask = true) ∧
    (s.evt.pacing ≠ .ready → (raise e s).evt.noticeDue.has k = joins s.evt.noticeDue s.params.noticeMask) := by
  obtain ⟨all, hall, hany⟩ := (raise_tells e s).any_eq hk
  have hjoined : ∀ m p : KindSet, (joined m p all).has k = (p.has k || (decide (k = e.kind) && m.has k)) := by
    intro m p
    rw [joined_has, hany]
  refine ⟨by rw [hall.far, hjoined], fun hdue => ?_, fun hp => by rw [(hall.paced hp).2, hjoined]⟩
  have hin := hall.due k hdue
  rwa [hjoined] at hin

theorem raise_wakes (e : Event) (s : State) (hasleep : s.evt.asleep = true) (hmask : s.params.wakeMask.has e.kind = true) :
    (raise e s).evt.asleep = false ∧ (raise e s).evt.wakePin = true := by
  obtain ⟨all, hall, -, -, hmem⟩ := (raise_tells e s).occurs
  have hany : (all.any fun f => s.params.wakeMask.has f.kind) = true :=
    List.any_eq_true.mpr ⟨e, hmem e (List.mem_singleton_self e), hmask⟩
  rw [hall.asleep, hall.pin, hany, hasleep]
  exact ⟨rfl, by simp⟩

theorem raise_counts {e : Event} {s : State} {i : Ix4} (hk : e.kind ≠ .watch)
    (hi : (s.mon.watches.get i).source = .event e.kind) : WatchCounts True i s (raise e s) := by
  refine (raise_tells e s).counts (by simpa [hi] using hk) (fun _ => by simp [hitBy, hi]) fun hno => absurd trivial hno

theorem raise_watch_last {e : Event} {s : State} {i : Ix4} (hi : (s.mon.watches.get i).source = .event e.kind)
    (hk : e.kind ≠ .watch) (hcross : (s.mon.watches.get i).threshold = (s.mon.watches.get i).count + 1)
    (hroom : (s.mon.watches.get i).count < counterMax) (hclear : s.evt.pending.has .watch = false)
    (hother : ∀ j, j ≠ i → (s.mon.watches.get j).source ≠ .event e.kind) :
    ((raise e s).evt.log.getLast?).map LogRecord.event = some (.withA .watch i.num) := by
  have htold := (takeOccurrence_occurs e s).trans (offerNotice_occurs _)
  have hwatches : (offerNotice (takeOccurrence e s)).mon.watches = s.mon.watches := by simp
  have hsingle : raise e s = raiseAt 4 (.withA .watch i.num) (countWatch i (offerNotice (takeOccurrence e s))) := by
    rw [raise, raiseAt_succ]
    refine fireWith_of_single (p := fun src => src == .event e.kind) ?_ ?_ ?_ ?_
    · exact fun e t j => ((raiseAt_tells 2 e t).source j).1
    · rw [hwatches, hi, beq_self_eq_true]
    · rw [hwatches]
      exact watchCrosses_of hcross hroom
    · intro j hj
      rw [hwatches]
      exact beq_eq_false_iff_ne.mpr (hother j hj)
  rw [hsingle]
  refine raiseAt_watch_last 3 i _ ?_
  show (offerNotice (takeOccurrence e s)).evt.pending.has .watch = false
  rw [htold.has, hclear]
  simpa using hk

/-- Settles O21: what raising tells of, with the record and the sets of the one occurrence taken. -/
theorem raisingAnOccurrence : Obligations.RaisingAnOccurrence := by
  refine ⟨raise_raised, ?_, raise_wakes, ?_, raise_joins, ?_, ?_, ?_, fun e s => raise_of_unwatched,
    fun e s i hk hi => raise_counts hk hi,
    fun e s i hk hi hcross hroom hclear hother => raise_watch_last hi hk hcross hroom hclear hother, recompute_edges⟩
  · intro k
    cases k <;> rfl
  · intro e s hmask
    obtain ⟨all, hall, -, -, hmem⟩ := (raise_tells e s).occurs
    rw [hall.far, joined_has, hmask, List.any_eq_true.mpr ⟨e, hmem e (List.mem_singleton_self e), by simp⟩]
    simp
  · intro e s k
    rw [takeOccurrence_eq]
    show (insertUnder s.params.noticeMask s.evt.noticeDue e.kind).has k = _
    rw [insertUnder_has]
    simp only [eq_comm]
  · intro e s hunwatched
    obtain ⟨-, -, -, -, -, hoverwritten, -⟩ := offerNotice_evt (takeOccurrence e s)
    rw [raise_of_unwatched hunwatched, hoverwritten, takeOccurrence_eq]
    rfl
  · intro e s hlogs
    rw [takeOccurrence_eq]
    simp only [hlogs, if_true]
    rfl

end Sys2Proof.Machine
end

section
/-! PROOFS. The line-down event, and the line's three ways out of TRAINING, RUN and HOLDOFF (R8 to R16). -/

namespace Sys2Proof.Machine

/-! ## Quiet steps under an operation on one block -/

section
variable {s t : State} (h : Quiet s t)
include h

theorem Quiet.modLine (f : LinePort → LinePort) : Quiet (s.modLine f) (t.modLine f) := { h with line := congrArg f h.line }

theorem Quiet.modLoad (f : Loading → Loading) : Quiet (s.modLoad f) (t.modLoad f) := { h with load := congrArg f h.load }

theorem Quiet.modTrack (f : Tracker → Tracker) : Quiet (s.modTrack f) (t.modTrack f) := { h with track := congrArg f h.track }

theorem Quiet.modOut (f : Outputs → Outputs) : Quiet (s.modOut f) (t.modOut f) := { h with out := congrArg f h.out }

theorem Quiet.send (c : BusCommand) : Quiet (s.send c) (t.send c) := h.modOut _

theorem Quiet.setRate (r : RateRecord) : Quiet (s.setRate r) (t.setRate r) := { h with rate := rfl }

theorem Quiet.modSch (f : Scheduler → Scheduler) : Quiet (s.modSch f) (t.modSch f) := { h with sch := congrArg f h.sch }

theorem Quiet.setSch (x : Scheduler) : Quiet (s.setSch x) (t.setSch x) := { h with sch := rfl }

/-- An operation on the monitor that neither reads nor changes the watches. -/
theorem Quiet.modMon {f : Monitor → Monitor} (hf : ∀ (m : Monitor) w, f { m with watches := w } = { f m with watches := w }) :
    Quiet (s.modMon f) (t.modMon f) := by
  have hmon : f t.mon = { f s.mon with watches := (f t.mon).watches } := by
    rw [h.mon, hf]
  exact { h with mon := hmon }

theorem Quiet.countLine (f : LineCounters → LineCounters) : Quiet (s.countLine f) (t.countLine f) := h.modMon fun _ _ => rfl

theorem Quiet.countSch (f : SchedulerCounts → SchedulerCounts) : Quiet (s.countSch f) (t.countSch f) :=
  h.modMon (f := fun m => { m with traffic := { m.traffic with sch := f m.traffic.sch } }) fun _ _ => rfl

theorem Quiet.countVoice (f : VoiceCounters → VoiceCounters) : Quiet (s.countVoice f) (t.countVoice f) := h.modMon fun _ _ => rfl

theorem Quiet.modInterval (f : Interval → Interval) : Quiet (s.modInterval f) (t.modInterval f) := h.modMon fun _ _ => rfl

theorem Quiet.rateRecord : rateRecord t = rateRecord s := by
  unfold Machine.rateRecord State.inRun State.params
  rw [h.line, h.load, h.supply, h.agent]

theorem Quiet.schedulerLineDown : Quiet (schedulerLineDown s) (schedulerLineDown t) := by
  unfold Machine.schedulerLineDown
  rw [h.sch]
  exact ((h.setSch _).countVoice _).countSch _

end

/-! ## The line-down event (R14) -/

/-- The state in which the rates are recomputed as the line leaves RUN. -/
def lineDownBefore (dest : LineState) (s : State) : State :=
  schedulerLineDown <|
    ((s.modLine fun l => idleContexts { l with state := dest, silence := none }).modLoad loadingLineDown).modTrack
      clearSchedules

/-- The line-down event enters no condition: outside RUN there is no binding limit. -/
theorem leaveRun_eq {dest : LineState} (h : dest ≠ .run) (s : State) :
    leaveRun dest s = (lineDownBefore dest s).setRate (.outsideRun s.load) := by
  have hrate : rateRecord (lineDownBefore dest s) = .outsideRun s.load := by
    rw [← leaveRun_rate h s, leaveRun, recompute_rate]
    rfl
  show recompute (lineDownBefore dest s) = _
  unfold recompute
  rw [hrate]
  rfl

theorem Quiet.leaveRun {s t : State} (h : Quiet s t) {dest : LineState} (hdest : dest ≠ .run) :
    Quiet (leaveRun dest s) (leaveRun dest t) := by
  rw [leaveRun_eq hdest, leaveRun_eq hdest, h.load]
  exact (((h.modLine _).modLoad _).modTrack _).schedulerLineDown.setRate _

theorem leaveRun_untold {dest : LineState} (h : dest ≠ .run) (s : State) : Untold s (leaveRun dest s) := by
  rw [leaveRun_eq h]
  exact .same rfl rfl rfl rfl

/-- Settles O22, by the line-down event as one record of what each block does. -/
theorem lineDownEvent : Obligations.LineDownEvent := by
  intro s dest hdest
  have hqueues : ∀ i, (leaveRun dest s).sch.queues.get i =
      if s.sch.inProgress = some i then restartHead (s.sch.queues.get i) else s.sch.queues.get i := by
    intro i
    rw [leaveRun_eq hdest]
    exact restartProgress_queue s.sch i
  refine ⟨_, rfl, ?_⟩
  have hsch : (leaveRun dest s).sch =
      { s.sch with queues := (leaveRun dest s).sch.queues, inProgress := none, vq := [], mq := [], slot := none } := by
    rw [leaveRun_eq hdest]
    show emptyLineQueues (restartProgress s.sch) =
      { s.sch with queues := (restartProgress s.sch).queues, inProgress := none, vq := [], mq := [], slot := none }
    unfold restartProgress emptyLineQueues
    split
    · rename_i hnone
      rw [hnone]
    · rfl
  refine ⟨?_, ?_, ?_, ?_, ?_, ?_, ?_, ?_, ?_, ?_, ?_, ?_, ?_, ?_, ?_, ?_, hsch, fun i hi => ?_, fun i hi hq => ?_,
    fun i f rest hi hq => ?_, ?_, ?_, ?_, ?_, ?_⟩
  case refine_17 => rw [hqueues, if_neg hi]
  case refine_18 =>
    rw [hqueues, if_pos hi, hq]
    rfl
  case refine_19 =>
    rw [hqueues, if_pos hi, hq]
    rfl
  all_goals rw [leaveRun_eq hdest]; rfl

end Sys2Proof.Machine
end

section
/-! PROOFS. How a request is executed and a due step taken, as one equation each (log entry 1, R159). -/

namespace Sys2Proof.Machine

theorem exec_request {c : Instr} {row : RequestRow} {h : Request → State → Answer} (hc : handlerOf c = some (row, h))
    (s : State) : exec c s = .next (runRequest row h (settle s)) := by
  cases c <;> cases hc <;> rfl

/-- R159: a request that is asked is executed by its row's handler, and replied to. -/
theorem exec_asked {c : Instr} {row : RequestRow} {h : Request → State → Answer} (hc : handlerOf c = some (row, h))
    {r : Request} {rest : List Request} {s : State} (asked : Asked row r rest s) :
    exec c s = .next (replied r (h r (executing rest s)).status (h r (executing rest s)).body (h r (executing rest s)).state) := by
  have hrow : (agentIdle (settle s) && r.row == row) = true := by rw [asked.idle, asked.row, beq_self_eq_true, Bool.and_self]
  rw [exec_request hc, runRequest, asked.oldest]
  dsimp only
  rw [if_pos hrow]
  rfl

theorem exec_refused {c : Instr} {row : RequestRow} {h : Request → State → Answer} (hc : handlerOf c = some (row, h))
    {r : Request} {rest : List Request} {s : State} (asked : Asked row r rest s) {st : Status}
    (hans : h r (executing rest s) = Answer.refuse st (executing rest s)) :
    exec c s = .next (replied r st [] (executing rest s)) := by
  rw [exec_asked hc asked, hans]
  rfl

theorem exec_accepted {c : Instr} {row : RequestRow} {h : Request → State → Answer} (hc : handlerOf c = some (row, h))
    {r : Request} {rest : List Request} {s : State} (asked : Asked row r rest s) {body : Bytes} {t : State}
    (hans : h r (executing rest s) = Answer.accept body t) : exec c s = .next (replied r .ok body t) := by
  rw [exec_asked hc asked, hans]
  rfl

theorem bodyIs_iff {r : Request} {n : Nat} : bodyIs r n = true ↔ r.HasBody n := by
  unfold bodyIs bodyHeld Request.HasBody
  rw [Bool.and_eq_true, beq_iff_eq, decide_eq_true_eq]
  exact and_congr_right fun h => by rw [h]

/-- A step that is due acts in the state in which it is due no longer. -/
theorem exec_due {c : Instr} {d : Due} (hc : stepsOf c = some [d]) {s : State} (hd : d ∈ s.due) :
    exec c s = .next (runDue d (dueTaken d s)) := by
  have hexec : exec c s = .next (takeDue d s) := by
    cases c <;> cases hc <;> rfl
  rw [hexec, takeDue, if_pos hd]
  rfl

end Sys2Proof.Machine
end

section
/-! PROOFS. The line's three ways out of TRAINING, RUN and HOLDOFF, and its start and stop (R7 to R16). -/

namespace Sys2Proof.Machine

/-! ## Steps that tell of nothing -/

theorem Untold.modLine (s : State) (f : LinePort → LinePort) : Untold s (s.modLine f) := .same rfl rfl rfl rfl
theorem Untold.modLoad (s : State) (f : Loading → Loading) : Untold s (s.modLoad f) := .same rfl rfl rfl rfl
theorem Untold.modTrack (s : State) (f : Tracker → Tracker) : Untold s (s.modTrack f) := .same rfl rfl rfl rfl
theorem Untold.modOut (s : State) (f : Outputs → Outputs) : Untold s (s.modOut f) := .same rfl rfl rfl rfl
theorem Untold.send (s : State) (c : BusCommand) : Untold s (s.send c) := .same rfl rfl rfl rfl
theorem Untold.modSch (s : State) (f : Scheduler → Scheduler) : Untold s (s.modSch f) := .same rfl rfl rfl rfl
theorem Untold.setDue (s : State) (l : List Due) : Untold s (s.setDue l) := .same rfl rfl rfl rfl
theorem Untold.setRate (s : State) (r : RateRecord) : Untold s (s.setRate r) := .same rfl rfl rfl rfl
theorem Untold.setSupply (s : State) (x : Supply) : Untold s (s.setSupply x) := .same rfl rfl rfl rfl
theorem Untold.setPhone (s : State) (x : Phone) : Untold s (s.setPhone x) := .same rfl rfl rfl rfl
theorem Untold.setVoice (s : State) (x : Pair ChannelRecord) : Untold s (s.setVoice x) := .same rfl rfl rfl rfl
theorem Untold.modInterval (s : State) (f : Interval → Interval) : Untold s (s.modInterval f) := .same rfl rfl rfl rfl
theorem Untold.countLine (s : State) (f : LineCounters → LineCounters) : Untold s (s.countLine f) := .same rfl rfl rfl rfl
theorem Untold.countSch (s : State) (f : SchedulerCounts → SchedulerCounts) : Untold s (s.countSch f) := .same rfl rfl rfl rfl
theorem Untold.countVoice (s : State) (f : VoiceCounters → VoiceCounters) : Untold s (s.countVoice f) := .same rfl rfl rfl rfl

/-! ## Training fails (R9, R10) -/

theorem trainingFailed_raised (reason : Nat) (bus : List BusCommand) (u : State) :
    Raised [.withA .trainFail reason] (trainingFailedFrom u bus)
      (trainingFailed reason (u.modOut fun o => { o with commands := o.commands ++ bus })) := by
  let v := ((u.modOut fun o => { o with commands := o.commands ++ bus }).modLine fun l => { l with training := none }).countLine
    fun n => { n with trainFailures := satInc n.trainFailures }
  have hbase : Untold (trainingFailedFrom u bus) v := .same rfl rfl rfl rfl
  have hquiet := (raise_quiet (.withA .trainFail reason) v).modLine fun l => { l with state := .holdoff, holdoff := some 0 }
  exact ((hbase.then (raise_tells (.withA .trainFail reason) v)).untold (.modLine _ _)).raised (.one _) hquiet

theorem trainFailReason_eq (reason : Byte) :
    trainFailReason reason = if reason.toNat = 0 ∨ 3 < reason.toNat then 5 else reason.toNat := by
  have hcode : ∀ n : Nat, n < 256 → (reason = BitVec.ofNat 8 n ↔ reason.toNat = n) := by
    intro n hn
    rw [← BitVec.toNat_inj, BitVec.toNat_ofNat, Nat.mod_eq_of_lt (by omega)]
  unfold trainFailReason
  simp only [show (1 : Byte) = BitVec.ofNat 8 1 from rfl, show (2 : Byte) = BitVec.ofNat 8 2 from rfl,
    show (3 : Byte) = BitVec.ofNat 8 3 from rfl, hcode 1 (by omega), hcode 2 (by omega), hcode 3 (by omega)]
  split_ifs <;> omega

theorem level_ofCode_of_gt {n : Nat} (h : 3 < n) : Level.ofCode n = none := by
  unfold Level.ofCode
  split
  all_goals first | omega | rfl

theorem checkTrained_of_bad {r : TrainedRecord}
    (h : (∃ b ∈ r.rxLoads ++ r.txLoads, 12 < b) ∨ 3 < r.rxLevel ∨ 3 < r.txLevel) : checkTrained r = none := by
  unfold checkTrained
  split
  · rename_i hloads
    rcases h with ⟨b, hb, hlarge⟩ | hlevel | hlevel
    · rw [Bool.and_eq_true, List.all_eq_true, List.all_eq_true] at hloads
      have hsmall : b ≤ 12 := by
        rcases List.mem_append.mp hb with hb | hb
        · exact of_decide_eq_true (hloads.1 b hb)
        · exact of_decide_eq_true (hloads.2 b hb)
      omega
    · rw [level_ofCode_of_gt hlevel]
    · rw [level_ofCode_of_gt hlevel]
      split <;> simp_all
  · rfl

/-- Settles O30, by what a failed attempt brings with each reason. -/
theorem trainingFails : Obligations.TrainingFails := by
  refine ⟨fun reason s hs => ⟨_, rfl, ?_⟩, fun s hdue hs => ⟨_, exec_due rfl hdue, ?_⟩, fun r s hs hbad => ⟨_, rfl, ?_⟩,
    fun r reason s hs => ⟨?_, ?_⟩⟩
  · show Raised _ _ (trainFailedStep reason (settle s))
    rw [trainFailedStep, if_pos hs, trainFailReason_eq]
    have hraised := trainingFailed_raised (if reason.toNat = 0 ∨ 3 < reason.toNat then 5 else reason.toNat) [] (settle s)
    simpa [State.modOut, State.setOut] using hraised
  · show Raised _ _ (trainingTimeoutStep (dueTaken .trainingTimeout s))
    rw [trainingTimeoutStep, if_pos (show (dueTaken .trainingTimeout s).line.state = .training from hs)]
    exact trainingFailed_raised 0 [.halt] (dueTaken .trainingTimeout s)
  · show Raised _ _ (trainedStep r (settle s))
    rw [trainedStep, if_pos hs, checkTrained_of_bad hbad]
    exact trainingFailed_raised 4 [.halt] (settle s)
  · exact congrArg Host.Outcome.next (if_neg hs)
  · exact congrArg Host.Outcome.next (if_neg hs)

/-! ## Leaving RUN (R12 to R16) -/

/-- The state from which LINE-DOWN is followed by the retrain, before RETRAIN is raised. -/
def retrainBefore (u : State) : State :=
  ((enterTraining (State.send (leaveRun .training u) .halt)).countLine fun n =>
    { n with retrains := satInc n.retrains }).modInterval fun r => { r with retrains := satInc r.retrains }

theorem retrainFromRun_eq {s : State} (h : s.line.state = .run) (c : Cause) : retrainFromRun c s =
    raise (.withA .retrain c.code) (retrainBefore (raise (.withA .lineDown c.code) s)) := by
  rw [retrainFromRun, if_pos (State.inRun_iff.mpr h)]
  rfl

theorem retrainBefore_untold (u : State) : Untold u (retrainBefore u) := by
  unfold retrainBefore enterTraining
  exact ((((((leaveRun_untold (by decide) u).untold (.send _ _)).untold (.send _ _)).untold (.modLine _ _)).untold
    (.countLine _ _)).untold (.modInterval _ _))

theorem Quiet.retrainBefore {s t : State} (h : Quiet s t) : Quiet (retrainBefore s) (retrainBefore t) := by
  have hleft := (h.leaveRun (dest := .training) (by decide)).send .halt
  have hceiling : loadCeiling (State.send (Machine.leaveRun .training t) .halt) =
      loadCeiling (State.send (Machine.leaveRun .training s) .halt) := by
    unfold loadCeiling State.params
    rw [hleft.agent, hleft.supply]
  unfold Machine.retrainBefore enterTraining
  rw [hceiling]
  exact (((hleft.send _).modLine _).countLine _).modInterval _

theorem retrainBefore_eq (u : State) : retrainBefore u = retrainedFrom u := by
  have hceiling : loadCeiling (State.send (leaveRun .training u) .halt) = u.params.loadCeiling.get u.supply.mode := by
    rw [leaveRun_eq (by decide)]
    rfl
  have hstate : (leaveRun .training u).line.state = .training := by
    rw [leaveRun_eq (by decide)]
    rfl
  unfold retrainBefore retrainedFrom enterTraining
  rw [hceiling]
  generalize leaveRun .training u = v at hstate
  simp only [State.send, State.countLine, State.modInterval, State.modOut, State.modLine, State.modMon, State.setOut, State.setLine,
    State.setMon, List.append_assoc, List.singleton_append, hstate]

theorem onSetOnce_of_kinds {es : List Event} {ks : List Kind} (h : es.map Event.kind = ks)
    (hks : ks.Pairwise fun a b => a = b → a.logged ≠ .onSet) : OnSetOnce es := by
  subst h
  exact (List.pairwise_map.mp hks).filter _

/-- R13: the line leaves RUN for TRAINING with LINE-DOWN and RETRAIN of the cause. -/
theorem retrainFromRun_raised {s : State} (h : s.line.state = .run) (c : Cause) :
    Raised [.withA .lineDown c.code, .withA .retrain c.code] (retrainedFrom s) (retrainFromRun c s) := by
  have hbase : Untold (retrainedFrom s) s := by
    unfold retrainedFrom
    rw [leaveRun_eq (by decide)]
    exact .same rfl rfl rfl rfl
  have hdown := hbase.then (raise_tells (.withA .lineDown c.code) s)
  have htold := (hdown.untold (retrainBefore_untold _)).trans
    (raise_tells (.withA .retrain c.code) (retrainBefore (raise (.withA .lineDown c.code) s)))
  have hquiet := (raise_quiet (.withA .lineDown c.code) s).retrainBefore.trans (raise_quiet (.withA .retrain c.code) _)
  rw [retrainBefore_eq] at hquiet
  rw [retrainFromRun_eq h]
  exact htold.raised (onSetOnce_of_kinds (ks := [.lineDown, .retrain]) rfl (by decide)) hquiet

theorem raiseRetrain_raised (c : Cause) (u : State) :
    Raised [.withA .retrain c.code] (trainingFromHoldoff u) (raiseRetrain c (enterTraining u)) := by
  have hbase : trainingFromHoldoff u = ((enterTraining u).countLine fun n => { n with retrains := satInc n.retrains }).modInterval
      fun r => { r with retrains := satInc r.retrains } := rfl
  rw [raiseRetrain, ← hbase]
  exact raise_raised _ _

theorem answerRetrain_of_body {r : Request} (hbody : r.HasBody 1) (s : State) :
    (s.line.state = .run → answerRetrain r s = Answer.accept [] (retrainFromRun .ordered s)) ∧
      (s.line.state = .holdoff → answerRetrain r s = Answer.accept [] (raiseRetrain .ordered (enterTraining s))) ∧
      (s.line.state = .training → answerRetrain r s = Answer.accept [] s) ∧
      (s.line.state = .off → answerRetrain r s = Answer.refuse .busy s) := by
  have hlength : ¬ (!bodyIs r 1) = true := by rw [bodyIs_iff.mpr hbody]; decide
  refine ⟨fun h => ?_, fun h => ?_, fun h => ?_, fun h => ?_⟩
  all_goals rw [answerRetrain, if_neg hlength, h]

/-- Settles O31, by what a retrain brings with each cause. -/
theorem leavingRunAndHoldoff : Obligations.LeavingRunAndHoldoff := by
  refine ⟨⟨fun s hs => ⟨_, rfl, ?_⟩, fun s hdue hs => ⟨_, exec_due rfl hdue, ?_⟩, fun r rest s asked hbody hs => ?_, fun s hs => ?_⟩,
    fun s hdue hs => ⟨_, exec_due rfl hdue, ?_⟩, fun r rest s asked hbody => ⟨fun hs => ?_, fun hs => ?_, fun hs => ?_⟩⟩
  · show Raised _ _ (signalLostStep (settle s))
    rw [signalLostStep, if_pos (State.inRun_iff.mpr hs)]
    exact retrainFromRun_raised (s := (settle s).modMon fun m => { m with lossMark := true }) hs .signalLost
  · exact retrainFromRun_raised (s := dueTaken .silenceExpiry s) hs .silent
  · have hans := (answerRetrain_of_body hbody (executing rest s)).1 hs
    exact ⟨_, exec_accepted rfl asked hans, retrainFromRun_raised (s := executing rest s) hs .ordered⟩
  · exact congrArg Host.Outcome.next (if_neg (mt State.inRun_iff.mp hs))
  · show Raised _ _ (holdoffExpiryStep (dueTaken .holdoffExpiry s))
    rw [holdoffExpiryStep, if_pos (show (dueTaken .holdoffExpiry s).line.state = .holdoff from hs)]
    exact raiseRetrain_raised .holdoff _
  · have hans := (answerRetrain_of_body hbody (executing rest s)).2.1 hs
    exact ⟨_, exec_accepted rfl asked hans, raiseRetrain_raised .ordered _⟩
  · exact exec_accepted rfl asked ((answerRetrain_of_body hbody (executing rest s)).2.2.1 hs)
  · exact exec_refused rfl asked ((answerRetrain_of_body hbody (executing rest s)).2.2.2 hs)

/-! ## Start and stop (R7, R15) -/

theorem answerStart_of_body {r : Request} (hbody : r.HasBody 1) (hcode : byteAt r.body 0 = 1) (s : State) :
    answerStart r s = Answer.accept [] (startLine s) := by
  rw [answerStart, if_neg (by rw [bodyIs_iff.mpr hbody]; decide), if_neg (not_not_intro hcode)]

theorem answerStop_of_body {r : Request} (hbody : r.HasBody 1) (s : State) :
    answerStop r s = Answer.accept [] (stopLine s) := by
  rw [answerStop, if_neg (by rw [bodyIs_iff.mpr hbody]; decide)]

/-- Settles O32, by the line state that START and STOP find. -/
theorem startAndStop : Obligations.StartAndStop := by
  intro r rest s hbody
  generalize hu : executing rest s = u
  refine ⟨fun asked hcode hs => ?_, fun asked hcode hs => ?_, fun asked hs => ?_, fun asked hs => ?_⟩
  · refine exec_accepted rfl asked ?_
    rw [answerStart_of_body hbody hcode, hu, startLine, if_pos hs]
    rfl
  · refine exec_accepted rfl asked ?_
    rw [answerStart_of_body hbody hcode, hu, startLine, if_neg hs]
  · refine exec_accepted rfl asked ?_
    rw [answerStop_of_body hbody, hu]
    exact congrArg (Answer.accept []) (if_neg (mt State.inRun_iff.mp hs))
  · have hstop : stopLine u = raise (.withA .lineDown Cause.stopped.code) (leaveRun .off
        ((u.send .halt).modLine fun l => { l with training := none, holdoff := none, silence := none })) :=
      if_pos (State.inRun_iff.mpr hs)
    have hans : answerStop r (executing rest s) = Answer.accept [] (stopLine u) := by rw [answerStop_of_body hbody, hu]
    refine ⟨_, exec_accepted rfl asked hans, ?_⟩
    rw [hstop]
    exact raise_raised _ _

end Sys2Proof.Machine
end

section
/-! PROOFS. Guard starts and anchors (R54 to R57), the setting that a change carries over (R30, R36, R38), and a report's
line time (R4, R56). -/

namespace Sys2Proof.Machine

theorem mul_ceilDiv_bounds {d p : Nat} (hp : 0 < p) : d ≤ p * ceilDiv d p ∧ p * ceilDiv d p < d + p := by
  unfold ceilDiv
  have hdiv := Nat.div_add_mod (d + p - 1) p
  have hmod := Nat.mod_lt (d + p - 1) hp
  omega

/-- The distance to a count that lies before another, as signed and unsigned numbers. -/
theorem toInt_sub_of_before {x sym : Word32} (h : atOrAfter x sym = false) :
    (x - sym).toInt = -((sym - x).toNat : Int) ∧ (sym - x).toNat ≤ 2 ^ 31 ∧ (x - sym).toNat = 2 ^ 32 - (sym - x).toNat := by
  have hfar : 2 ^ 31 ≤ (x - sym).toNat := by
    unfold atOrAfter at h
    exact Nat.le_of_not_lt (of_decide_eq_false h)
  have hneg : (x - sym).toNat = 2 ^ 32 - (sym - x).toNat := by
    bv_omega
  refine ⟨?_, by omega, hneg⟩
  rw [BitVec.toInt_eq_toNat_cond]
  split <;> omega

/-- R56: the first guard start at or after `sym`, of the starts from `x` on, lies within a period of it. -/
theorem guardAtOrAfter_of_before {x sym : Word32} {p : Nat} (hp : 0 < p) (hp' : p < 2 ^ 31) (h : atOrAfter x sym = false) :
    (guardAtOrAfter x p sym - sym).toNat < p ∧
      (p : Int) ∣ (x - sym).toInt - ((guardAtOrAfter x p sym - sym).toNat : Int) := by
  obtain ⟨hint, hle, hnat⟩ := toInt_sub_of_before h
  obtain ⟨hlo, hhi⟩ := mul_ceilDiv_bounds (d := (sym - x).toNat) hp
  have hstart : (guardAtOrAfter x p sym - sym).toNat = p * ceilDiv (sym - x).toNat p - (sym - x).toNat := by
    rw [guardAtOrAfter, h, if_neg Bool.false_ne_true]
    generalize p * ceilDiv (sym - x).toNat p = n at hlo hhi
    bv_omega
  rw [hstart, hint]
  refine ⟨by omega, ⟨-(ceilDiv (sym - x).toNat p : Int), ?_⟩⟩
  have hcast : ((p * ceilDiv (sym - x).toNat p : Nat) : Int) = (p : Int) * (ceilDiv (sym - x).toNat p : Int) := by push_cast; rfl
  rw [mul_neg, ← hcast]
  omega

theorem guardAtOrAfter_of_atOrAfter {x sym : Word32} (p : Nat) (h : atOrAfter x sym = true) : guardAtOrAfter x p sym = x := by
  rw [guardAtOrAfter, if_pos h]

/-- R54, R55: an anchor lies a whole number of periods from its base, at or after `sym` and within a period of it. -/
theorem anchorFrom_spec {base sym : Word32} {p : Nat} (hp : 0 < p) (hp' : p < 2 ^ 32) :
    (anchorFrom base p sym - sym).toNat < p ∧ (p : Int) ∣ (base - sym).toInt - ((anchorFrom base p sym - sym).toNat : Int) := by
  have hpos : (0 : Int) < p := by exact_mod_cast hp
  have hlo := Int.emod_nonneg (base - sym).toInt hpos.ne'
  have hhi := Int.emod_lt_of_pos (base - sym).toInt hpos
  have hplace : (anchorFrom base p sym - sym).toNat = ((base - sym).toInt % (p : Int)).toNat := by
    unfold anchorFrom
    generalize ((base - sym).toInt % (p : Int)) = r at hlo hhi
    have hr : r.toNat < 2 ^ 32 := by omega
    bv_omega
  rw [hplace, Int.toNat_of_nonneg hlo]
  exact ⟨by omega, Int.dvd_self_sub_emod⟩

/-- R30, R36, R38, R57: the setting that a change without one of its own carries. -/
theorem carriedProtection_carriedOver (d : Direction) (sym : Word32) (s : State) :
    CarriedOver d sym s (carriedProtection d sym s) := by
  refine ⟨?_, fun g x hg hx hp hp' => ?_⟩
  · unfold carriedProtection Protection.setting
    dsimp only
    cases (s.load.prot.get d).guard <;> rfl
  · unfold carriedProtection at hg
    dsimp only at hg
    rw [hx] at hg
    obtain ⟨g', -, rfl⟩ := Option.map_eq_some_iff.mp hg
    exact ⟨fun h => guardAtOrAfter_of_atOrAfter _ h, fun h => guardAtOrAfter_of_before hp hp' h⟩

end Sys2Proof.Machine
end

section
/-! PROOFS. The cutback (R37, R38), and what is offered to MQ and to the management egress queue (R83, R84, R93, R159). -/

namespace Sys2Proof.Machine

/-! ## Bits off the highest groups first -/

theorem takeBits_zero (l : List Nat) : takeBits 0 l = l := by
  induction l with
  | nil => rfl
  | cons b l ih =>
    show (b - 0) :: takeBits (0 - b) l = b :: l
    rw [Nat.zero_sub, ih, Nat.sub_zero]

theorem takeBits_sum (need : Nat) (l : List Nat) : (takeBits need l).sum = l.sum - need := by
  induction l generalizing need with
  | nil => simp [takeBits]
  | cons b l ih =>
    rw [takeBits, List.sum_cons, List.sum_cons, ih]
    omega

theorem takeBits_length (need : Nat) (l : List Nat) : (takeBits need l).length = l.length := by
  induction l generalizing need with
  | nil => rfl
  | cons b l ih => rw [takeBits, List.length_cons, List.length_cons, ih]

/-- The bits taken empty the groups above some group, and leave those below it. -/
theorem takeBits_reverse_getD (need : Nat) (l : List Nat) : ∃ k, k ≤ l.length ∧
    (∀ i, i < k → (takeBits need l.reverse).reverse.getD i 0 = l.getD i 0) ∧
    (takeBits need l.reverse).reverse.getD k 0 ≤ l.getD k 0 ∧
    ∀ i, k < i → (takeBits need l.reverse).reverse.getD i 0 = 0 := by
  induction l using List.reverseRecOn generalizing need with
  | nil => exact ⟨0, by simp [takeBits]⟩
  | append_singleton l b ih =>
    have hlast : (takeBits need (l ++ [b]).reverse).reverse = (takeBits (need - b) l.reverse).reverse ++ [b - need] := by
      rw [List.reverse_append, List.reverse_singleton, List.singleton_append, takeBits, List.reverse_cons]
    rw [hlast]
    have hlength : (takeBits (need - b) l.reverse).reverse.length = l.length := by
      rw [List.length_reverse, takeBits_length, List.length_reverse]
    rcases Nat.le_or_le need b with hle | hle
    · rw [Nat.sub_eq_zero_of_le hle, takeBits_zero, List.reverse_reverse]
      refine ⟨l.length, by simp, fun i hi => ?_, ?_, fun i hi => ?_⟩
      · rw [List.getD_append _ _ _ _ hi, List.getD_append _ _ _ _ hi]
      · simp
      · exact List.getD_eq_default _ _ (by simp; omega)
    · obtain ⟨k, hk, hbelow, hat, habove⟩ := ih (need - b)
      rw [Nat.sub_eq_zero_of_le hle]
      refine ⟨k, by simp; omega, fun i hi => ?_, ?_, fun i hi => ?_⟩
      · rw [List.getD_append _ _ _ _ (by omega), List.getD_append _ _ _ _ (by omega), hbelow i hi]
      · rcases Nat.lt_or_ge k l.length with hlt | hge
        · rwa [List.getD_append _ _ _ _ (by omega), List.getD_append _ _ _ _ hlt]
        · rw [List.getD_append_right _ _ _ _ (by omega), show k - _ = 0 by omega]
          exact Nat.zero_le _
      · rcases Nat.lt_or_ge i l.length with hlt | hge
        · rw [List.getD_append _ _ _ _ (by omega), habove i hi]
        · rw [List.getD_append_right _ _ _ _ (by omega)]
          cases hn : i - (takeBits (need - b) l.reverse).reverse.length with
          | zero => rfl
          | succ n => rfl

/-- R38: the cut table meets the ceiling, and loses no bit more than that needs. -/
theorem cutTable_bounds {loads : List Nat} {ceiling : Nat} (h : ceiling < 8 * loads.sum) :
    8 * (cutTable loads ceiling).sum ≤ ceiling ∧ ceiling < 8 * ((cutTable loads ceiling).sum + 1) := by
  have hsum : (cutTable loads ceiling).sum = loads.sum - excessBits loads ceiling := by
    rw [cutTable, List.sum_reverse, takeBits_sum, List.sum_reverse]
  obtain ⟨hlo, hhi⟩ := mul_ceilDiv_bounds (d := 8 * loads.sum - ceiling) (p := 8) (by omega)
  have hexcess : excessBits loads ceiling = ceilDiv (8 * loads.sum - ceiling) 8 := rfl
  rw [hsum, hexcess]
  omega

theorem mqOffer_of_room {m : Message} {s : State} (hrun : s.line.state = .run) (hroom : s.sch.mq.length < 8) :
    mqOffer m s = { s with sch := { s.sch with mq := s.sch.mq ++ [m] } } := by
  rw [mqOffer, State.inRun_iff.mpr hrun]
  exact if_pos hroom

/-- Settles O26, by the bits taken from the highest groups first. -/
theorem cutbackIsBuiltAndSent : Obligations.CutbackIsBuiltAndSent := by
  intro s hmode hrun hover hnone
  have hneeded : cutbackNeeded s = true := by
    have hraw : loadCeiling s < rawOf s.load.txLoads := hover
    simp [cutbackNeeded, hmode, State.inRun_iff.mpr hrun, hraw]
  have htest : cutbackTest s = sendCutback s := by rw [cutbackTest, if_pos hneeded, hnone]
  obtain ⟨k, -, hbelow, hat, habove⟩ := takeBits_reverse_getD (excessBits s.load.txLoads (loadCeiling s)) s.load.txLoads
  obtain ⟨hlo, hhi⟩ := cutTable_bounds hover
  rw [htest]
  refine ⟨cutTable s.load.txLoads (loadCeiling s), k, ?_, hlo, hhi, ?_, hbelow, hat, habove, ?_, ?_, ?_, ?_⟩
  · simp [sendCutback]
  · rw [cutTable, List.length_reverse, takeBits_length, List.length_reverse]
  · simp [sendCutback]
  · simp [sendCutback]
  · refine ⟨carriedProtection .transmit (s.line.symbolCount + 800) s, carriedProtection_carriedOver _ _ _, ?_⟩
    show (mqOffer _ s).out.commands ++ _ = _
    rw [(mqOffer_frame s _).2.2.2.2.2.2.2.2.2.2.2.2.2]
    rfl
  · intro hroom
    show (mqOffer _ s).sch.mq = _
    rw [mqOffer_of_room hrun hroom]
    have hbytes : ∀ l : List Nat, l.flatMap u8 = l.map (BitVec.ofNat 8) := fun l => List.map_eq_flatMap.symm
    rw [hbytes]

end Sys2Proof.Machine
end

section
/-! PROOFS. What is offered to MQ and to the management egress queue (R83, R84, R93, R159), and admission and the class table
(R78, R87). -/

namespace Sys2Proof.Machine

/-! ## MQ (R93) -/

theorem givesWay_iff {c : MsgClass} : c.givesWay = true ↔ c = .report ∨ c = .query := by cases c <;> decide

theorem not_givesWay_iff {c : MsgClass} : c.givesWay = false ↔ c = .load ∨ c = .supply := by cases c <;> decide

theorem dropOldestReport_append {a b : List Message} {x : Message} (ha : ∀ y ∈ a, y.kind.cls.givesWay = false)
    (hx : x.kind.cls.givesWay = true) : dropOldestReport (a ++ x :: b) = some (a ++ b) := by
  induction a with
  | nil => rw [List.nil_append, dropOldestReport, if_pos hx, List.nil_append]
  | cons y a ih =>
    rw [List.cons_append, dropOldestReport, ha y List.mem_cons_self, if_neg Bool.false_ne_true,
      ih fun z hz => ha z (List.mem_cons_of_mem y hz)]
    rfl

theorem dropOldestReport_eq_none {q : List Message} (h : ∀ y ∈ q, y.kind.cls.givesWay = false) : dropOldestReport q = none := by
  induction q with
  | nil => rfl
  | cons y q ih =>
    rw [dropOldestReport, h y List.mem_cons_self, if_neg Bool.false_ne_true, ih fun z hz => h z (List.mem_cons_of_mem y hz)]
    rfl

theorem mqOffer_refused (m : Message) {s : State} (h : s.line.state ≠ .run) :
    mqOffer m s = s.countSch fun c => { c with refused := satInc c.refused } := by
  have hout : s.inRun = false := Bool.eq_false_iff.mpr (mt State.inRun_iff.mp h)
  rw [mqOffer, hout]
  rfl

/-- A message that MQ, full, takes in place of another, or discards. -/
theorem mqOffer_full (m : Message) {s : State} (hrun : s.line.state = .run) (hfull : 8 ≤ s.sch.mq.length) :
    (m.kind.cls.givesWay = true → mqOffer m s = s.countSch fun c => { c with discardedReport := satInc c.discardedReport }) ∧
    (∀ rest, m.kind.cls.givesWay = false → dropOldestReport s.sch.mq = some rest →
      mqOffer m s = (s.modSch fun q => { q with mq := rest ++ [m] }).countSch fun c => { c with evicted := satInc c.evicted }) ∧
    (m.kind.cls.givesWay = false → dropOldestReport s.sch.mq = none →
      mqOffer m s = s.countSch fun c => { c with discardedLoad := satInc c.discardedLoad }) := by
  have hfull' : ¬ s.sch.mq.length < Config.mqDepth := Nat.not_lt.mpr hfull
  have hin : ¬ (!s.inRun) = true := by rw [State.inRun_iff.mpr hrun]; decide
  refine ⟨fun hm => ?_, fun rest hm hdrop => ?_, fun hm hdrop => ?_⟩
  · rw [mqOffer, if_neg hin, if_neg hfull', if_pos hm]
  · rw [mqOffer, if_neg hin, if_neg hfull', hm, if_neg Bool.false_ne_true, hdrop]
  · rw [mqOffer, if_neg hin, if_neg hfull', hm, if_neg Bool.false_ne_true, hdrop]

/-! ## The management egress queue (R83, R84) -/

theorem portTake_of_busy {c : Classifier} {x : Sending} (h : c.sending = some x) : portTake c = c := by
  unfold portTake
  rw [h]

theorem portTake_sending_mgmt {c : Classifier} {f : MgmtFrame} {rest : List MgmtFrame} (h : c.sending = none)
    (hq : c.mgmtQueue = f :: rest) : portTake c = { c with sending := some (.mgmt f) } := by
  unfold portTake
  rw [h, hq]

theorem portTake_sending_home {c : Classifier} {f : Bytes} {rest : List Bytes} (h : c.sending = none)
    (hq : c.mgmtQueue = []) (hh : c.homeQueue = f :: rest) : portTake c = { c with sending := some (.home f) } := by
  unfold portTake
  rw [h, hq, hh]

theorem portTake_of_empty {c : Classifier} (h : c.sending = none) (hq : c.mgmtQueue = []) (hh : c.homeQueue = []) :
    portTake c = c := by
  unfold portTake
  rw [h, hq, hh]

/-- Only what is being sent can change as a free port takes a frame. -/
theorem portTake_eq (c : Classifier) : portTake c = { c with sending := (portTake c).sending } := by
  unfold portTake
  split <;> rfl

theorem mgmtOffer_of_room (f : MgmtFrame) {s : State} (h : s.cls.mgmtQueue.length < 8) :
    mgmtOffer f s = some (s.modCls fun c => portTake { c with mgmtQueue := c.mgmtQueue ++ [f] }) :=
  if_pos h

theorem mgmtOffer_of_full (f : MgmtFrame) {s : State} (h : 8 ≤ s.cls.mgmtQueue.length) : mgmtOffer f s = none :=
  if_neg (Nat.not_lt.mpr h)

theorem finishSending_of_mgmt {s : State} {f : MgmtFrame} (h : s.cls.sending = some (.mgmt f)) :
    finishSending s = mgmtSent f s := by
  rw [finishSending, h]

/-- The state in which a management frame that answers no PART reset has gone, before a waiting reply is offered. -/
def mgmtGone (f : MgmtFrame) (s : State) : State :=
  ((emitHome f.bytes s).countCls fun c => { c with mgmtSent := satInc c.mgmtSent }).modCls fun c =>
    portTake { c with mgmtQueue := c.mgmtQueue.drop 1, sending := none }

theorem mgmtSent_of_reply {f : MgmtFrame} (h : f.partReply = false) (s : State) : mgmtSent f s = offerWaiting (mgmtGone f s) := by
  rw [mgmtSent, h]
  rfl

theorem offerWaiting_of_room {s : State} {g : MgmtFrame} (hg : s.agent.waiting = some g) (hroom : s.cls.mgmtQueue.length < 8) :
    offerWaiting s = (s.modCls fun c => portTake { c with mgmtQueue := c.mgmtQueue ++ [g] }).modAgent fun a =>
      { a with waiting := none } := by
  rw [offerWaiting, hg]
  dsimp only
  rw [mgmtOffer_of_room g hroom]

theorem mgmtGone_mgmtQueue (f : MgmtFrame) (s : State) : (mgmtGone f s).cls.mgmtQueue = s.cls.mgmtQueue.drop 1 :=
  portTake_mgmtQueue _

/-- Settles O23, by MQ's occupancy and the message's class, and by the room in the management egress queue. -/
theorem offeringToTheQueues : Obligations.OfferingToTheQueues := by
  refine ⟨fun m s => ⟨mqOffer_refused m, mqOffer_of_room, fun hrun hfull hm => ?_, fun a x b hrun hfull hm hq ha hx => ?_,
    fun hrun hfull hm hq => ?_⟩, fun f s hroom => ?_, fun f s hfull => ?_, fun f g s hsending hreply hle hne hg => ?_⟩
  · exact (mqOffer_full m hrun hfull).1 (givesWay_iff.mpr hm)
  · refine (mqOffer_full m hrun hfull).2.1 (a ++ b) (not_givesWay_iff.mpr hm) ?_
    rw [hq, dropOldestReport_append (fun y hy => not_givesWay_iff.mpr (ha y hy)) (givesWay_iff.mpr hx)]
  · exact (mqOffer_full m hrun hfull).2.2 (not_givesWay_iff.mpr hm)
      (dropOldestReport_eq_none fun y hy => not_givesWay_iff.mpr (hq y hy))
  · refine ⟨_, mgmtOffer_of_room f hroom, ?_, ?_, fun x hx => ?_, fun hx hq => ?_⟩
    · rw [offerReply, mgmtOffer_of_room f hroom]
    · rw [State.modCls, portTake_eq]
      rfl
    · exact (congrArg Classifier.sending
        (portTake_of_busy (c := { s.cls with mgmtQueue := s.cls.mgmtQueue ++ [f] }) hx)).trans hx
    · exact congrArg Classifier.sending
        (portTake_sending_mgmt (c := { s.cls with mgmtQueue := s.cls.mgmtQueue ++ [f] }) (rest := []) hx (by rw [hq]; rfl))
  · refine ⟨mgmtOffer_of_full f hfull, ?_⟩
    rw [offerReply, mgmtOffer_of_full f hfull]
    rfl
  · have hroom : (mgmtGone f s).cls.mgmtQueue.length < 8 := by
      have hpos := List.length_pos_of_ne_nil hne
      rw [mgmtGone_mgmtQueue, List.length_drop]
      omega
    rw [finishSending_of_mgmt hsending, mgmtSent_of_reply hreply, offerWaiting_of_room (s := mgmtGone f s) hg hroom]
    refine ⟨rfl, ?_⟩
    show (portTake _).mgmtQueue = _
    rw [portTake_mgmtQueue]
    show (mgmtGone f s).cls.mgmtQueue ++ [g] = _
    rw [mgmtGone_mgmtQueue]

/-! ## Admission (R87) and the class table (R78) -/

theorem classWalk_cons_of_matching {f : Bytes} {e : ClassEntry} (h : (e.valid && e.admits f) = true) (rest : List ClassEntry) :
    (e.action = .queue → classWalk f (e :: rest) = ({ e with hits := satInc e.hits } :: rest, .queue e.queue)) ∧
    (e.action = .drop → classWalk f (e :: rest) = ({ e with hits := satInc e.hits } :: rest, .drop)) ∧
    (e.action = .count → classWalk f (e :: rest) =
      ({ e with hits := satInc e.hits } :: (classWalk f rest).1, (classWalk f rest).2)) := by
  refine ⟨fun ha => ?_, fun ha => ?_, fun ha => ?_⟩
  all_goals rw [classWalk, if_pos h, ha]

theorem classWalk_cons_of_not_matching {f : Bytes} {e : ClassEntry} (h : (e.valid && e.admits f) = false)
    (rest : List ClassEntry) : classWalk f (e :: rest) = (e :: (classWalk f rest).1, (classWalk f rest).2) := by
  rw [classWalk, h, if_neg Bool.false_ne_true]

/-- An entry as a walk that passes it leaves it. -/
def walkedPast (f : Bytes) (x : ClassEntry) : ClassEntry := if x.valid && x.admits f then { x with hits := satInc x.hits } else x

/-- Entries that do not match, or match only to count, are passed. -/
theorem classWalk_append {f : Bytes} {before : List ClassEntry} (h : ∀ x ∈ before, x.valid = true → x.admits f = true → x.action = .count)
    (rest : List ClassEntry) : classWalk f (before ++ rest) =
      (before.map (walkedPast f) ++ (classWalk f rest).1, (classWalk f rest).2) := by
  induction before with
  | nil => rfl
  | cons e before ih =>
    have hrest := ih fun x hx => h x (List.mem_cons_of_mem e hx)
    rw [List.cons_append, List.map_cons, List.cons_append]
    cases hmatch : (e.valid && e.admits f) with
    | false =>
      rw [classWalk_cons_of_not_matching hmatch, hrest, walkedPast, hmatch]
      rfl
    | true =>
      obtain ⟨hvalid, hadmits⟩ := Bool.and_eq_true_iff.mp hmatch
      rw [(classWalk_cons_of_matching hmatch _).2.2 (h e List.mem_cons_self hvalid hadmits), hrest, walkedPast, hmatch]
      rfl

/-- Settles O24, by the three tests in their order and the entries that a walk passes. -/
theorem admissionAndClassTable : Obligations.AdmissionAndClassTable := by
  refine ⟨fun i f s => ⟨fun hshed => ?_, fun hshed hover => ?_, fun hshed hlimit hpool => ?_⟩, fun f before rest e hbefore hvalid
    hadmits haction => ?_, fun f table htable => ?_⟩
  · rw [admitFrame]
    exact if_pos hshed
  · rw [admitFrame, hshed, if_neg Bool.false_ne_true]
    rcases hover with hover | hover
    · exact if_pos hover
    · split
      · rfl
      · exact if_pos hover
  · rw [admitFrame, hshed, if_neg Bool.false_ne_true]
    exact (if_neg (Nat.not_lt.mpr hlimit)).trans (if_neg (Nat.not_lt.mpr hpool))
  · rw [classWalk_append hbefore]
    have hmatch : (e.valid && e.admits f) = true := by rw [hvalid, hadmits]; rfl
    obtain ⟨hqueue, hdrop, -⟩ := classWalk_cons_of_matching hmatch rest
    have hdecides : e.action = .queue ∨ e.action = .drop := by
      cases hact : e.action with
      | queue => exact .inl rfl
      | drop => exact .inr rfl
      | count => exact absurd hact haction
    rcases hdecides with hact | hact
    · rw [hqueue hact, if_neg (by rw [hact]; decide)]
      rfl
    · rw [hdrop hact, if_pos hact]
      rfl
  · have hwalk := classWalk_append htable []
    rw [List.append_nil] at hwalk
    rw [hwalk, classWalk, List.append_nil]
    rfl

end Sys2Proof.Machine
end

section
/-! PROOFS. The reload exchange: the answers to own offers, an offer that fails, and the checks of a far-end offer
(R31 to R36, R40, R42, R174). -/

namespace Sys2Proof.Machine

/-- The first arrival that a command picks acts in the state in which it is due no longer. -/
theorem exec_arrival {c : Instr} {p : Due → Bool} (hc : pickOf c = some p) {s : State} {d : Due} (hd : s.due.find? p = some d) :
    exec c s = .next (runDue d (dueTaken d s)) := by
  have hexec : exec c s = .next (takeFirst p s) := by
    cases c <;> cases hc <;> rfl
  rw [hexec, takeFirst, hd]
  show Host.Outcome.next (takeDue d s) = _
  rw [takeDue_of_mem (List.mem_of_find?_eq_some hd)]
  rfl

theorem exec_message {c : Instr} {k : MsgKind} (hc : pickOf c = some (Due.isMessage k)) {s : State} {tag : Byte} {body : Bytes}
    (hd : s.due.find? (Due.isMessage k) = some (.arrival (.message k tag body))) :
    exec c s = .next (messageStep k tag body (dueTaken (.arrival (.message k tag body)) s)) :=
  exec_arrival hc hd

/-! ## Answers to own offers (R31, R32, R42) -/

theorem countAnswer_late {n : Byte} {s : State} (hlast : s.load.lastOffer = some n) (hown : s.load.own = .none) :
    countAnswer n s = s.countLine fun c => { c with lateAnswers := satInc c.lateAnswers } :=
  if_pos ⟨hlast, hown⟩

theorem countAnswer_stray {n : Byte} {s : State} (h : s.load.own = .none → s.load.lastOffer ≠ some n) :
    countAnswer n s = s.countLine fun c => { c with strayAnswers := satInc c.strayAnswers } :=
  if_neg fun hboth => h hboth.2 hboth.1

/-- A message step of LOAD-TAKE by the line state and the body's length. -/
theorem messageStep_loadTake (tag : Byte) (body : Bytes) (s : State) :
    (s.line.state ≠ .run → messageStep .loadTake tag body s = s) ∧
    (s.line.state = .run → body.length ≠ 1 → messageStep .loadTake tag body s = countMalformed s) ∧
    (∀ n, s.line.state = .run → body = [n] → messageStep .loadTake tag body s = takeAnswer n s) := by
  refine ⟨fun h => if_neg (mt State.inRun_iff.mp h), fun h hl => ?_, fun n h hb => ?_⟩
  · exact (if_pos (State.inRun_iff.mpr h)).trans (if_neg hl)
  · subst hb
    exact if_pos (State.inRun_iff.mpr h)

theorem messageStep_loadDecline (tag : Byte) (body : Bytes) (s : State) :
    (s.line.state ≠ .run → messageStep .loadDecline tag body s = s) ∧
    (s.line.state = .run → body.length ≠ 2 → messageStep .loadDecline tag body s = countMalformed s) ∧
    (∀ n reason, s.line.state = .run → body = [n, reason] → messageStep .loadDecline tag body s = declineAnswer n s) := by
  refine ⟨fun h => if_neg (mt State.inRun_iff.mp h), fun h hl => ?_, fun n reason h hb => ?_⟩
  · exact (if_pos (State.inRun_iff.mpr h)).trans (if_neg hl)
  · subst hb
    exact if_pos (State.inRun_iff.mpr h)

theorem takeAnswer_outstanding {o : OwnOffer} {n : Byte} {s : State} (hown : s.load.own = .outstanding o) :
    (o.number = n → 3 ≤ (o.switch - s.line.superframe).toNat → (o.switch - s.line.superframe).toNat ≤ 8 →
      takeAnswer n s = s.modLoad fun l => { l with own := .confirmed o }) ∧
    (o.number ≠ n ∨ (o.switch - s.line.superframe).toNat < 3 ∨ 8 < (o.switch - s.line.superframe).toNat →
      takeAnswer n s = countAnswer n s) := by
  refine ⟨fun hn hlo hhi => ?_, fun h => ?_⟩
  · rw [takeAnswer, hown]
    exact if_pos ⟨hn, hlo, hhi⟩
  · rw [takeAnswer, hown]
    refine if_neg fun hall => ?_
    obtain ⟨hn, hlo, hhi⟩ := hall
    have hdistance : distanceTo s o.switch = (o.switch - s.line.superframe).toNat := rfl
    rcases h with h | h | h
    · exact h hn
    · omega
    · omega

theorem takeAnswer_confirmed {o : OwnOffer} {n : Byte} {s : State} (hown : s.load.own = .confirmed o) :
    (o.number = n → takeAnswer n s = s) ∧ (o.number ≠ n → takeAnswer n s = countAnswer n s) := by
  refine ⟨fun hn => ?_, fun hn => ?_⟩
  · rw [takeAnswer, hown]
    exact if_pos hn
  · rw [takeAnswer, hown]
    exact if_neg hn

theorem takeAnswer_none {n : Byte} {s : State} (hown : s.load.own = .none) : takeAnswer n s = countAnswer n s := by
  rw [takeAnswer, hown]

theorem declineAnswer_held {o : OwnOffer} {n : Byte} {s : State} (hown : s.load.own = .outstanding o ∨ s.load.own = .confirmed o) :
    (o.number = n → declineAnswer n s = offerFailed 1 o s) ∧ (o.number ≠ n → declineAnswer n s = countAnswer n s) := by
  refine ⟨fun hn => ?_, fun hn => ?_⟩
  · rcases hown with hown | hown
    · rw [declineAnswer, hown]
      exact if_pos hn
    · rw [declineAnswer, hown]
      exact if_pos hn
  · rcases hown with hown | hown
    · rw [declineAnswer, hown]
      exact if_neg hn
    · rw [declineAnswer, hown]
      exact if_neg hn

theorem declineAnswer_none {n : Byte} {s : State} (hown : s.load.own = .none) : declineAnswer n s = countAnswer n s := by
  rw [declineAnswer, hown]

/-- Settles O36, by the own record and the number that an answer finds. -/
theorem answersToOwnOffers : Obligations.AnswersToOwnOffers := by
  refine ⟨?takes, ?declines, ?others⟩
  case takes =>
    intro tag n s d hd u
    have hexec := exec_message (c := .loadTake) rfl hd
    obtain ⟨hout, -, hstep⟩ := messageStep_loadTake tag [n] u
    have hrun : s.line.state = .run → exec .loadTake s = .next (takeAnswer n u) := fun h => by
      rw [hexec, hstep n h rfl]
    have hheld : ∀ o, s.load.own = .outstanding o ∨ s.load.own = .confirmed o → countAnswer n u =
        u.countLine fun c => { c with strayAnswers := satInc c.strayAnswers } := fun o ho =>
      countAnswer_stray (s := u) fun hnone => by
        have hnone' : s.load.own = .none := hnone
        simp [hnone'] at ho
    refine ⟨fun o h hown hn hlo hhi => ?_, fun o h hown hn => ?_, fun h hown hlast => ?_, fun h hown hlast => ?_,
      fun o h hown hn => ?_, fun o h hown hn => ?_, fun h => ?_⟩
    · rw [hrun h, (takeAnswer_outstanding (s := u) hown).1 hn hlo hhi]
      rfl
    · rw [hrun h, (takeAnswer_confirmed (s := u) hown).1 hn]
    · rw [hrun h, takeAnswer_none (s := u) hown, countAnswer_late (s := u) hlast hown]
    · rw [hrun h, takeAnswer_none (s := u) hown, countAnswer_stray (s := u) fun _ => hlast]
    · rw [hrun h, (takeAnswer_outstanding (s := u) hown).2 hn, hheld o (.inl hown)]
    · rw [hrun h, (takeAnswer_confirmed (s := u) hown).2 hn, hheld o (.inr hown)]
    · rw [hexec, hout h]
  case declines =>
    intro tag n reason s d hd h u
    have hrun : exec .loadDecline s = .next (declineAnswer n u) := by
      rw [exec_message (c := .loadDecline) rfl hd, (messageStep_loadDecline tag [n, reason] u).2.2 n reason h rfl]
    refine ⟨fun hown hlast => ?_, fun hown hlast => ?_, fun o hown hn => ?_⟩
    · rw [hrun, declineAnswer_none (s := u) hown, countAnswer_late (s := u) hlast hown]
    · rw [hrun, declineAnswer_none (s := u) hown, countAnswer_stray (s := u) fun _ => hlast]
    · rw [hrun, (declineAnswer_held (s := u) hown).2 hn, countAnswer_stray (s := u) fun hnone => ?_]
      have hnone' : s.load.own = .none := hnone
      simp [hnone'] at hown
  case others =>
    intro tag body s malformed
    refine ⟨fun hd h hl => ?_, fun hd h hl => ?_, fun hd h => ?_⟩
    · rw [exec_message (c := .loadTake) rfl hd, (messageStep_loadTake tag body (dueTaken _ s)).2.1 h hl]
      rfl
    · rw [exec_message (c := .loadDecline) rfl hd, (messageStep_loadDecline tag body (dueTaken _ s)).2.1 h hl]
      rfl
    · rw [exec_message (c := .loadDecline) rfl hd, (messageStep_loadDecline tag body (dueTaken _ s)).1 h]

end Sys2Proof.Machine
end

section
/-! PROOFS. An own offer that fails (R32, R33, R40), and the checks of a far-end offer (R35, R36, R55). -/

namespace Sys2Proof.Machine

/-! ## An own offer fails -/

/-- The occurrence of an own offer's failure. -/
def offerFailure (detail : Nat) (o : OwnOffer) : Event := ⟨.offerFailed, some detail, some o.number.toNat⟩

theorem offerFailed_eq (detail : Nat) (o : OwnOffer) (s : State) :
    offerFailed detail o s = marginRetrain (raise (offerFailure detail o) (offerFailedFrom o s)) := rfl

theorem anyFailing_iff {l : Loading} : anyFailing l = true ↔ ∃ gs, l.report = some gs ∧ ∃ x ∈ gs, x.cls.failing = true := by
  unfold anyFailing
  cases l.report with
  | none => simp
  | some gs => simp [List.any_eq_true]

theorem marginRetrain_failed (detail : Nat) (o : OwnOffer) {s : State} (hrun : s.line.state = .run) :
    let t := raise (offerFailure detail o) (offerFailedFrom o s)
    (s.load.failures < 2 ∨ anyFailing s.load = false → offerFailed detail o s = t) ∧
    (2 ≤ s.load.failures → anyFailing s.load = true →
      Raised [.withA .lineDown 3, .withA .retrain 3] (retrainedFrom t) (offerFailed detail o s)) := by
  intro t
  have hload : t.load = (offerFailedFrom o s).load := (raise_quiet _ _).load
  have hline : t.line = s.line := (raise_quiet _ _).line
  have hfailures : t.load.failures = min (s.load.failures + 1) 255 := by rw [hload]; rfl
  have hfailing : anyFailing t.load = anyFailing s.load := by rw [hload]; rfl
  rw [offerFailed_eq, marginRetrain, hfailures, hfailing]
  refine ⟨fun h => if_neg fun hall => ?_, fun hcount hany => ?_⟩
  · obtain ⟨hcount, hany⟩ := hall
    rcases h with h | h
    · omega
    · rw [h] at hany
      cases hany
  · rw [if_pos ⟨by omega, hany⟩]
    exact retrainFromRun_raised (by rw [hline, hrun]) .margin

/-- Settles O35, by the deadline and the decline as one failure, and the retrain that a third one brings. -/
theorem ownOfferFails : Obligations.OwnOfferFails := by
  intro c d o s hcase hrun failing
  have hexec : exec c s = .next (offerFailed (if c = .offerDeadline then 2 else 1) o (dueTaken d s)) := by
    rcases hcase with ⟨rfl, rfl, hd, hown⟩ | ⟨tag, reason, rfl, rfl, hd, hown⟩
    · rw [exec_due rfl hd]
      show Host.Outcome.next (offerDeadlineStep (dueTaken .offerDeadline s)) = _
      rw [offerDeadlineStep, show (dueTaken .offerDeadline s).load.own = .outstanding o from hown]
      rfl
    · rw [exec_message rfl hd, (messageStep_loadDecline tag [o.number, reason] (dueTaken _ s)).2.2 o.number reason hrun rfl,
        (declineAnswer_held (s := dueTaken _ s) hown).1 rfl]
      rfl
  have hfailing : failing ↔ anyFailing (dueTaken d s).load = true := anyFailing_iff.symm
  obtain ⟨hstays, hretrains⟩ := marginRetrain_failed (if c = .offerDeadline then 2 else 1) o (s := dueTaken d s) hrun
  refine ⟨_, raise_raised _ _, fun h => ?_, fun hcount hany => ⟨_, hexec, hretrains hcount (hfailing.mp hany)⟩⟩
  rw [hexec]
  refine congrArg Host.Outcome.next (hstays (h.imp id fun hnot => ?_))
  exact Bool.eq_false_iff.mpr (mt hfailing.mpr hnot)

/-! ## A far-end offer (R35, R36, R55) -/

theorem level_ofCode_isSome {n : Nat} : (Level.ofCode n).isSome = true ↔ n ≤ 3 := by
  constructor
  · intro h
    by_contra hgt
    rw [level_ofCode_of_gt (by omega)] at h
    cases h
  · intro h
    obtain rfl | rfl | rfl | rfl : n = 0 ∨ n = 1 ∨ n = 2 ∨ n = 3 := by omega
    all_goals rfl

/-- R35: what the FORMAT check asks of an offer that reads. -/
structure WellFormed (o : OfferBody) : Prop where
  count : o.changes.length ≤ 8
  range : ∀ c ∈ o.changes, c.1 ≤ 31 ∧ c.2 ≤ 12
  once : (o.changes.map (·.1)).Nodup
  prot : ∀ p, o.prot = some p → p.level ≤ 3 ∧ ∀ g, p.guard = some g → 0 < g.width ∧ g.width < g.period ∧ g.anchorOffset ≤ 99

theorem guardAllowed_iff {g : OfferGuard} : guardAllowed g = true ↔ 0 < g.width ∧ g.width < g.period ∧ g.anchorOffset ≤ 99 := by
  simp [guardAllowed, and_assoc]

/-- The protection part of an offer passes the FORMAT check. -/
def protAllowed : Option OfferProt → Bool
  | none => true
  | some ⟨level, none⟩ => (Level.ofCode level).isSome
  | some ⟨level, some g⟩ => (Level.ofCode level).isSome && guardAllowed g

theorem protAllowed_iff {prot : Option OfferProt} : protAllowed prot = true ↔
    ∀ p, prot = some p → p.level ≤ 3 ∧ ∀ g, p.guard = some g → 0 < g.width ∧ g.width < g.period ∧ g.anchorOffset ≤ 99 := by
  rcases prot with _ | ⟨level, _ | g⟩
  · simp [protAllowed]
  · simp [protAllowed, level_ofCode_isSome]
  · simp [protAllowed, level_ofCode_isSome, guardAllowed_iff]

theorem offerFormat_eq (o : OfferBody) : offerFormat o = (decide (o.changes.length ≤ 8) &&
    o.changes.all (fun c => decide (c.1 ≤ 31) && decide (c.2 ≤ 12)) && decide (o.changes.map (·.1)).Nodup && protAllowed o.prot) := by
  obtain ⟨number, switch, prot, changes⟩ := o
  rcases prot with _ | ⟨level, _ | g⟩
  · rfl
  · exact congrArg (_ && ·) (Bool.and_true _)
  · rfl

theorem offerFormat_iff {o : OfferBody} : offerFormat o = true ↔ WellFormed o := by
  simp only [offerFormat_eq, Bool.and_eq_true, decide_eq_true_eq, List.all_eq_true, protAllowed_iff]
  exact ⟨fun ⟨⟨⟨hcount, hrange⟩, honce⟩, hp⟩ => ⟨hcount, hrange, honce, hp⟩, fun h => ⟨⟨⟨h.count, h.range⟩, h.once⟩, h.prot⟩⟩

theorem byteAt_lt (b : Bytes) (i : Nat) : byteAt b i < 256 := (b.getD i 0).isLt

theorem field16_lt (b : Bytes) (i : Nat) : field16 b i < 65536 := by
  have hhigh := byteAt_lt b i
  have hlow := byteAt_lt b (i + 1)
  unfold field16
  omega

/-- The period of a guard that an offer gives is a two-byte field. -/
theorem readOfferBody_period {body : Bytes} {o : OfferBody} (h : readOfferBody body = some o) {p : OfferProt} {g : OfferGuard}
    (hp : o.prot = some p) (hg : p.guard = some g) : g.period < 65536 := by
  simp only [readOfferBody, Option.ite_none_left_eq_some, Option.some.injEq] at h
  obtain ⟨-, -, rfl⟩ := h
  simp only [Option.ite_none_left_eq_some, Option.some.injEq] at hp
  obtain ⟨-, rfl⟩ := hp
  simp only [Option.ite_none_left_eq_some, Option.some.injEq] at hg
  obtain ⟨-, rfl⟩ := hg
  exact field16_lt _ _

theorem farOffer_refused {body : Bytes} {s : State} {o : OfferBody} (h : readOfferBody body = some o) {r : DeclineReason}
    (hr : offerRefusal o s = some r) : farOffer body s = declineOffer o.number r s := by
  rw [farOffer, h]
  dsimp only
  rw [hr]

theorem farOffer_accepted {body : Bytes} {s : State} {o : OfferBody} (h : readOfferBody body = some o)
    (hr : offerRefusal o s = none) : farOffer body s = acceptOffer o s := by
  rw [farOffer, h]
  dsimp only
  rw [hr]

/-- R35: the first condition that an offer fails. -/
theorem offerRefusal_cases (o : OfferBody) (s : State) :
    (¬ WellFormed o → offerRefusal o s = some .format) ∧
    (WellFormed o → s.load.tx ≠ .none → offerRefusal o s = some .busy) ∧
    (WellFormed o → s.load.tx = .none → distanceTo s o.switch < 4 ∨ 128 < distanceTo s o.switch →
      offerRefusal o s = some .timing) ∧
    (WellFormed o → s.load.tx = .none → ¬ (distanceTo s o.switch < 4 ∨ 128 < distanceTo s o.switch) →
      (s.supply.mode ≠ .mains ∧ loadCeiling s < rawOf (applyChanges s.load.txLoads o.changes) → offerRefusal o s = some .supply) ∧
      (¬ (s.supply.mode ≠ .mains ∧ loadCeiling s < rawOf (applyChanges s.load.txLoads o.changes)) → offerRefusal o s = none)) := by
  have hgood : WellFormed o → ¬ (!offerFormat o) = true := fun h => by rw [offerFormat_iff.mpr h]; decide
  refine ⟨fun h => ?_, fun h htx => ?_, fun h htx htime => ?_, fun h htx htime => ⟨fun hover => ?_, fun hover => ?_⟩⟩
  · have hbad : (!offerFormat o) = true := by
      rw [Bool.not_eq_true']
      exact Bool.eq_false_iff.mpr (mt offerFormat_iff.mp h)
    rw [offerRefusal, if_pos hbad]
  · rw [offerRefusal, if_neg (hgood h), if_pos htx]
  · rw [offerRefusal, if_neg (hgood h), if_neg (not_not_intro htx), if_pos htime]
  · rw [offerRefusal, if_neg (hgood h), if_neg (not_not_intro htx), if_neg htime, if_pos hover]
  · rw [offerRefusal, if_neg (hgood h), if_neg (not_not_intro htx), if_neg htime, if_neg hover]

theorem acceptOffer_eq (o : OfferBody) (s : State) :
    let sym := switchSymbol s.line.symbolCount (distanceTo s o.switch)
    let newProt := o.prot.map (farProtection o.switch sym)
    let v := mqOffer (mkMessage .loadTake 0 [o.number]) s
    acceptOffer o s = { v with
      load := { s.load with
        tx := .farPending { switch := o.switch, table := applyChanges s.load.txLoads o.changes, newProt := newProt } }
      out := { s.out with commands := s.out.commands ++ [tableSetOf .transmit (applyChanges s.load.txLoads o.changes)
        (newProt.getD (carriedProtection .transmit sym s)) o.switch sym false] } } := by
  intro sym newProt v
  have hload : v.load = s.load := by simp [v]
  have hout : v.out = s.out := by simp [v]
  have hsent : ∀ c f, (v.send c).modLoad f =
      { v with load := f s.load, out := { s.out with commands := s.out.commands ++ [c] } } := by
    intro c f
    rw [← hload, ← hout]
    rfl
  unfold acceptOffer
  exact hsent _ _

theorem farProtection_setting (switch : Superframe) (sym : Word32) (p : OfferProt) : (farProtection switch sym p).setting =
    { level := (Level.ofCode p.level).getD .p0, guard := p.guard.map fun g => (g.period, g.width) } := by
  unfold farProtection Protection.setting
  cases p.guard <;> rfl

/-- Settles O37, by the first condition that an offer fails and by what its acceptance makes of it. -/
theorem farOffersAreCheckedInOrder : Obligations.FarOffersAreCheckedInOrder := by
  intro tag body s d hd u format declined
  have hformat : ∀ o, format o ↔ WellFormed o := fun o =>
    ⟨fun ⟨hcount, hrange, honce, hp⟩ => ⟨hcount, hrange, honce, hp⟩, fun h => ⟨h.count, h.range, h.once, h.prot⟩⟩
  have hexec := exec_message (c := .loadOffer) rfl hd
  have hrun : s.line.state = .run → exec .loadOffer s = .next (farOffer body u) := fun h => by
    rw [hexec]
    exact congrArg Host.Outcome.next (if_pos (State.inRun_iff.mpr h))
  refine ⟨fun h => ?_, fun h hnone => ?_, fun o h ho hbad => ?_, fun o h ho hf htx => ?_, fun o h ho hf htx htime => ?_,
    fun o h ho hf htx hlo hhi hmode hover => ?_, fun o h ho hf htx hlo hhi hceiling => ?_⟩
  · rw [hexec]
    exact congrArg Host.Outcome.next (if_neg (mt State.inRun_iff.mp h))
  · rw [hrun h, farOffer, hnone]
    rfl
  · rw [hrun h, farOffer_refused ho ((offerRefusal_cases o u).1 (mt (hformat o).mpr hbad))]
    rfl
  · rw [hrun h, farOffer_refused ho ((offerRefusal_cases o u).2.1 ((hformat o).mp hf) htx)]
    rfl
  · rw [hrun h, farOffer_refused ho ((offerRefusal_cases o u).2.2.1 ((hformat o).mp hf) htx htime)]
    rfl
  · have hin : ¬ (distanceTo u o.switch < 4 ∨ 128 < distanceTo u o.switch) := fun hout =>
      hout.elim (Nat.not_lt.mpr hlo) (Nat.not_lt.mpr hhi)
    rw [hrun h, farOffer_refused ho (((offerRefusal_cases o u).2.2.2 ((hformat o).mp hf) htx hin).1 ⟨hmode, hover⟩)]
    rfl
  · have hin : ¬ (distanceTo u o.switch < 4 ∨ 128 < distanceTo u o.switch) := fun hout =>
      hout.elim (Nat.not_lt.mpr hlo) (Nat.not_lt.mpr hhi)
    have hpass : ¬ (u.supply.mode ≠ .mains ∧ loadCeiling u < rawOf (applyChanges u.load.txLoads o.changes)) := fun hboth =>
      hceiling.elim hboth.1 (Nat.not_le.mpr hboth.2)
    intro sym
    refine ⟨o.prot.map (farProtection o.switch sym), (o.prot.map (farProtection o.switch sym)).getD (carriedProtection .transmit sym u),
      ?_, fun p hp => ?_, fun hnone => ?_, fun p q g h' hp hg hq hh => ?_, ?_⟩
    · cases o.prot with
      | none => rfl
      | some p => exact congrArg some (farProtection_setting _ _ p)
    · rw [hp]
      rfl
    · rw [hnone]
      exact carriedProtection_carriedOver .transmit sym u
    · rw [hq] at hp
      obtain rfl := Option.some.inj hp
      obtain ⟨g', hg', rfl⟩ := Option.map_eq_some_iff.mp hg
      obtain rfl : g' = h' := Option.some.inj (hg'.symm.trans hh)
      obtain ⟨-, hwidth, -⟩ := (hf.2.2.2 q hq).2 g' hh
      have hperiod := readOfferBody_period ho hq hh
      exact anchorFrom_spec (by omega) (by omega)
    · rw [hrun h, farOffer_accepted ho (((offerRefusal_cases o u).2.2.2 ((hformat o).mp hf) htx hin).2 hpass), acceptOffer_eq]
      rfl

end Sys2Proof.Machine
end

section
/-! PROOFS. A report's line time, the steps it makes due and a guard's countdown (R3, R4, R33, R34, R36, R39, R56, R138). -/

namespace Sys2Proof.Machine

/-! ## The damage count -/

theorem Quiet.damage {s t : State} (h : Quiet s t) : t.mon.damage = s.mon.damage := by rw [h.mon]

theorem trackBurst_damage (b : Burst) (s : State) : (trackBurst b s).mon.damage = s.mon.damage := by
  unfold trackBurst
  split
  · split <;> rfl
  · split
    · rw [(enterCondition_quiet _ _).damage, (raise_quiet _ _).damage]
      rfl
    · rfl

theorem takeBurst_damage (s : State) (b : Burst) : (takeBurst s b).mon.damage = s.mon.damage := by
  unfold takeBurst
  split
  · split
    · rfl
    · rw [trackBurst_damage]
      rfl
  · rw [trackBurst_damage]
    rfl

theorem missTest_damage (c : Word32) (s : State) : (missTest c s).mon.damage = s.mon.damage := by
  unfold missTest
  split
  · rfl
  · split
    · dsimp only
      split
      · rw [(raise_quiet _ _).damage]
        rfl
      · rfl
    · rfl

theorem trackReport_damage (bs : List ReportedBurst) (s : State) : (trackReport bs s).mon.damage = s.mon.damage := by
  rw [trackReport, missTest_damage]
  exact foldl_keep (fun t => t.mon.damage) takeBurst takeBurst_damage _ s

/-! ## What a report makes due -/

theorem or_test_iff {a : Bool} {b c : Prop} [Decidable b] (h : a = true ↔ c) : (a || decide b) = true ↔ c ∨ b := by
  rw [Bool.or_eq_true, h, decide_eq_true_eq]

theorem deadlineReached_iff {s : State} : deadlineReached s = true ↔ ∃ o, s.load.own = .outstanding o ∧
    ((o.switch - s.line.superframe).toNat ≤ 2 ∨ 8 < (o.switch - s.line.superframe).toNat) := by
  unfold deadlineReached
  cases s.load.own with
  | none => simp
  | confirmed o => simp
  | outstanding o =>
    simp only [OwnRecord.outstanding.injEq, exists_eq_left']
    exact or_test_iff decide_eq_true_iff

theorem offerSwitchReached_iff {s : State} : offerSwitchReached s = true ↔ ∃ o, s.load.own = .confirmed o ∧
    ((o.switch - s.line.superframe).toNat = 0 ∨ 8 < (o.switch - s.line.superframe).toNat) := by
  unfold offerSwitchReached
  cases s.load.own with
  | none => simp
  | outstanding o => simp
  | confirmed o =>
    simp only [OwnRecord.confirmed.injEq, exists_eq_left']
    exact or_test_iff beq_iff_eq

theorem farSwitchReached_iff {s : State} : farSwitchReached s = true ↔ ∃ f, s.load.tx = .farPending f ∧
    ((f.switch - s.line.superframe).toNat = 0 ∨ 128 < (f.switch - s.line.superframe).toNat) := by
  unfold farSwitchReached
  cases s.load.tx with
  | none => simp
  | cutbackOut c => simp
  | farPending f =>
    simp only [TxRecord.farPending.injEq, exists_eq_left']
    exact or_test_iff beq_iff_eq

theorem cutbackSwitchReached_iff {s : State} : cutbackSwitchReached s = true ↔ ∃ c, s.load.tx = .cutbackOut c ∧
    ((c.switch - s.line.superframe).toNat = 0 ∨ 8 < (c.switch - s.line.superframe).toNat) := by
  unfold cutbackSwitchReached
  cases s.load.tx with
  | none => simp
  | farPending f => simp
  | cutbackOut c =>
    simp only [TxRecord.cutbackOut.injEq, exists_eq_left']
    exact or_test_iff beq_iff_eq

theorem guardOverdue_iff {s : State} {d : Direction} : guardOverdue s d = true ↔
    ∃ x, s.track.sched.get d = some x ∧ before x.next (s.line.symbolCount + 100) = true := by
  unfold guardOverdue
  cases s.track.sched.get d <;> simp [Schedule.overdue, coverageEnd]

/-- Each of the six tests makes its own step due, and no other. -/
theorem mem_reportDues (s : State) :
    (.offerDeadline ∈ reportDues s ↔ deadlineReached s = true) ∧ (.offerSwitch ∈ reportDues s ↔ offerSwitchReached s = true) ∧
    (.farChangeSwitch ∈ reportDues s ↔ farSwitchReached s = true) ∧
    (.cutbackSwitch ∈ reportDues s ↔ cutbackSwitchReached s = true) ∧
    ∀ d, .guard d ∈ reportDues s ↔ guardOverdue s d = true := by
  have hif : ∀ (b : Bool) (x d : Due), d ∈ (if b then [x] else []) ↔ b = true ∧ d = x := by
    intro b x d
    cases b <;> simp
  simp only [reportDues, List.mem_append, hif]
  refine ⟨by simp, by simp, by simp, by simp, fun d => ?_⟩
  cases d <;> simp

/-! ## A report by the line state -/

theorem settle_due_nil (s : State) : (settle s).due = [] := settle_due s

theorem reportInRun_due (r : FrameReport) (u : State) (hdue : u.due = []) : (reportInRun r u).due = reportDues (trackReport r.bursts
    ((u.modLine fun l => restartSilence (advanceLine r.superframe l)).modMon (addDamage r.damaged.toNat))) := by
  show (trackReport r.bursts _).due ++ _ = _
  rw [(trackReport_frame _ _).2.1]
  show u.due ++ _ = _
  rw [hdue, List.nil_append]

/-- Settles O33, by the line state that a report finds and the place of the next guard start. -/
theorem reportsCountLineTime : Obligations.ReportsCountLineTime := by
  refine ⟨fun r s => ?_, fun d x s hdue hx hp hp' => ?_⟩
  · intro u
    have hexec : exec (.frameReport r) s = .next (frameReportStep r u) := rfl
    refine ⟨fun hrun => ?_, fun htraining => ?_, fun hout => ?_⟩
    · have hstep : frameReportStep r u = reportInRun r u := by rw [frameReportStep, hrun]
      rw [hexec, hstep]
      have hdamage : (reportInRun r u).mon.damage = min 65535 (u.mon.damage + r.damaged.toNat) := trackReport_damage _ _
      have hdue := reportInRun_due r u (settle_due s)
      obtain ⟨hdeadline, hswitch, hfar, hcutback, hguard⟩ := mem_reportDues (trackReport r.bursts
        ((u.modLine fun l => restartSilence (advanceLine r.superframe l)).modMon (addDamage r.damaged.toNat)))
      refine ⟨_, rfl, ?_, hdamage, ?_⟩
      · simp [reportInRun, restartSilence, advanceLine]
      rw [hdue, hdeadline, hswitch, hfar, hcutback]
      simp only [hguard, deadlineReached_iff, offerSwitchReached_iff, farSwitchReached_iff, cutbackSwitchReached_iff, guardOverdue_iff]
      simp [reportInRun, advanceLine, restartSilence]
    · have hstep : frameReportStep r u = trackReport r.bursts (u.modLine (advanceLine r.superframe)) := by
        rw [frameReportStep, htraining]
      rw [hexec, hstep]
      refine ⟨_, rfl, ?_⟩
      rw [trackReport_damage]
      simp [advanceLine]
    · rw [hexec, frameReportStep]
      rcases hout with hout | hout <;> rw [hout]
  · have hexec : exec (.guardCountdown d) s = .next (guardCountdown d (dueTaken (.guard d) s)) := exec_due rfl hdue
    refine ⟨guardAtOrAfter x.next x.period (s.line.symbolCount + 100), ?_, fun h => ?_, fun h => ?_⟩
    · rw [hexec, guardCountdown]
      show Host.Outcome.next (State.modTrack _ _) = _
      rw [State.modTrack, show (dueTaken (.guard d) s).track = s.track from rfl, hx]
      rfl
    · exact guardAtOrAfter_of_atOrAfter _ (by simpa [before] using h)
    · exact guardAtOrAfter_of_before hp hp' (by simpa [before] using h)

end Sys2Proof.Machine
end

section
/-! PROOFS. The conditions that an operation enters, each counted once by the watches in EDGE mode (R146), and the switches of
an own offer, a far-end change and a cutback (R34, R36, R39, R53, R55). -/

namespace Sys2Proof.Machine

/-! ## Conditions entered -/

/-- From `s` to `t` the part has been told of the occurrences `es`, and each watch in EDGE mode has been hit once if its
condition has been entered, and not otherwise. -/
structure Enters (es : List Event) (s t : State) : Prop where
  told : ∃ hits, Tells es hits s t ∧ ∀ i c, hits i (.edge c) = if entered s t c then 1 else 0

theorem Enters.edgesCounted {es : List Event} {s t : State} (h : Enters es s t) : EdgesCounted s t := by
  obtain ⟨hits, htells, hhits⟩ := h.told
  exact htells.edges hhits

theorem Enters.logGains {es : List Event} {s t : State} (h : Enters es s t) (honce : OnSetOnce es) : LogGains es s t := by
  obtain ⟨hits, htells, -⟩ := h.told
  exact htells.logGains honce

theorem Enters.set {es : List Event} {s t : State} (h : Enters es s t) (e : Event) (he : e ∈ es) :
    t.evt.pending.has e.kind = true := by
  obtain ⟨hits, htells, -⟩ := h.told
  exact htells.set e he

/-- What is raised from another state with the same event unit, watches, parameters and partition. -/
theorem Enters.raised {es : List Event} {base s t : State} (h : Enters es s t) (hbase : Untold base s) (honce : OnSetOnce es)
    (hquiet : Quiet base t) : Raised es base t := by
  obtain ⟨hits, htells, -⟩ := h.told
  exact (hbase.then htells).raised honce hquiet

theorem entered_of_same {s t : State} {c : Condition} (h : conditionHolds t c = conditionHolds s c) : entered s t c = false := by
  rw [entered, h, Bool.and_not_self]

/-- Two operations one after the other, of which no condition is changed by both. -/
theorem Enters.trans {es fs : List Event} {s t u : State} (h : Enters es s t) (k : Enters fs t u)
    (hone : ∀ c, conditionHolds t c = conditionHolds s c ∨ conditionHolds u c = conditionHolds t c) : Enters (es ++ fs) s u := by
  obtain ⟨m, hm, hmhits⟩ := h.told
  obtain ⟨n, hn, hnhits⟩ := k.told
  refine ⟨_, hm.trans hn, fun i c => ?_⟩
  rw [hmhits, hnhits]
  rcases hone c with hsame | hsame
  · rw [entered_of_same hsame, entered, entered, hsame]
    simp
  · rw [entered_of_same hsame, entered, entered, hsame]
    simp

theorem Enters.untold {s t : State} (h : Untold s t) (hsame : ∀ c, conditionHolds t c = conditionHolds s c) : Enters [] s t :=
  ⟨_, h, fun i c => by rw [entered_of_same (hsame c)]; rfl⟩

theorem Enters.raise (e : Event) (s : State) : Enters [e] s (raise e s) :=
  ⟨_, raise_tells e s, fun i c => by
    rw [entered_of_same ((raise_quiet e s).conditionHolds c)]
    simp [hitBy]⟩

theorem Enters.recompute (s : State) : Enters [] s (recompute s) :=
  ⟨_, recompute_tells s, fun i c => by
    rw [hitBy, bindsNow_edge, entered, entered, (recompute_quiet s).conditionHolds]⟩

/-- A condition is entered by a step that changes it alone. -/
theorem Enters.enterCondition {s t : State} {c : Condition} (h : Untold s t) (hc : entered s t c = true)
    (hother : ∀ d, d ≠ c → conditionHolds t d = conditionHolds s d) : Enters [] s (enterCondition c t) := by
  refine ⟨_, h.then (enterCondition_tells c t), fun i d => ?_⟩
  have hsame := (enterCondition_quiet c t).conditionHolds d
  rcases eq_or_ne d c with rfl | hne
  · rw [entered] at hc
    rw [entered, hsame, hc]
    simp [hitBy]
  · rw [entered, hsame, hother d hne, Bool.and_not_self]
    simp [hitBy, hne]

/-- One more step that tells of nothing and changes no condition. -/
theorem Enters.andUntold {es : List Event} {s t u : State} (h : Enters es s t) (k : Untold t u)
    (hsame : ∀ c, conditionHolds u c = conditionHolds t c) : Enters es s u := by
  have hjoin := h.trans (.untold k hsame) fun c => .inr (hsame c)
  rwa [List.append_nil] at hjoin

theorem Enters.andRaise {es : List Event} {s t : State} (h : Enters es s t) (e : Event) : Enters (es ++ [e]) s (Machine.raise e t) :=
  h.trans (.raise e t) fun c => .inr ((raise_quiet e t).conditionHolds c)

/-- The conditions that do not concern the binding limit stay as the rates are recomputed. -/
theorem recompute_conditionHolds (s : State) (c : Condition) (hc : c ≠ .bindingSupply ∧ c ≠ .bindingProvider ∧ c ≠ .bindingLine) :
    conditionHolds (Machine.recompute s) c = conditionHolds s c := by
  rw [(recompute_quiet s).conditionHolds]
  obtain ⟨hsupply, hprovider, hline⟩ := hc
  cases c with
  | bindingSupply => exact absurd rfl hsupply
  | bindingProvider => exact absurd rfl hprovider
  | bindingLine => exact absurd rfl hline
  | lineRun => rfl
  | guardArmed => rfl
  | cadenceLocked => rfl
  | onBattery => rfl
  | port1OffHook => rfl
  | port2OffHook => rfl

/-- The rates recomputed after a step that leaves the binding limit as it was. -/
theorem Enters.andRecompute {es : List Event} {s t : State} (h : Enters es s t) (hrate : t.rate = s.rate) :
    Enters es s (Machine.recompute t) := by
  have hjoin := h.trans (.recompute t) fun c => by
    by_cases hc : c ≠ .bindingSupply ∧ c ≠ .bindingProvider ∧ c ≠ .bindingLine
    · exact .inr (recompute_conditionHolds t c hc)
    · left
      have hbinding : c = .bindingSupply ∨ c = .bindingProvider ∨ c = .bindingLine := by
        by_contra hnone
        simp only [not_or] at hnone
        exact hc hnone
      rcases hbinding with rfl | rfl | rfl
      all_goals simp only [conditionHolds, hrate]
  rwa [List.append_nil] at hjoin

theorem Quiet.recompute {s t : State} (h : Quiet s t) : Quiet (s.setRate (Machine.rateRecord s)) (Machine.recompute t) := by
  rw [← h.rateRecord]
  exact (h.setRate _).trans (recompute_quiet t)

/-! ## A protection setting comes into force (R53, R55) -/

/-- The state with a protection setting in force in a direction, and the schedule of its guard. -/
def withProtection (d : Direction) (p : Protection) (s : State) : State :=
  (s.modLoad fun l => { l with prot := l.prot.set d p }).modTrack fun t =>
    { t with sched := t.sched.set d (p.guard.map fun g => g.schedule s.line.symbolCount) }

theorem installProtection_eq (d : Direction) (p : Protection) (s : State) : installProtection d p s =
    if p.guard.isSome && !conditionHolds s .guardArmed then enterCondition .guardArmed (withProtection d p s) else withProtection d p s := rfl

theorem installProtection_quiet (d : Direction) (p : Protection) (s : State) : Quiet (withProtection d p s) (installProtection d p s) := by
  rw [installProtection_eq]
  split
  · exact enterCondition_quiet _ _
  · exact .refl _

theorem withProtection_conditionHolds (d : Direction) (p : Protection) (s : State) {c : Condition} (hc : c ≠ .guardArmed) :
    conditionHolds (withProtection d p s) c = conditionHolds s c := by
  cases c with
  | guardArmed => exact absurd rfl hc
  | bindingSupply => rfl
  | bindingProvider => rfl
  | bindingLine => rfl
  | lineRun => rfl
  | cadenceLocked => rfl
  | onBattery => rfl
  | port1OffHook => rfl
  | port2OffHook => rfl

theorem withProtection_guardArmed (d : Direction) (p : Protection) (s : State) :
    entered s (withProtection d p s) .guardArmed = (p.guard.isSome && !conditionHolds s .guardArmed) := by
  unfold entered conditionHolds withProtection
  cases d <;> cases p.guard <;> cases hrx : s.track.sched.rx <;> cases htx : s.track.sched.tx <;>
    simp [Dirs.set, hrx, htx]

theorem Enters.installProtection (d : Direction) (p : Protection) (s : State) : Enters [] s (installProtection d p s) := by
  have hbase : Untold s (withProtection d p s) := .same rfl rfl rfl rfl
  rw [installProtection_eq, ← withProtection_guardArmed d p s]
  split
  · rename_i hentered
    exact .enterCondition hbase hentered fun c hc => withProtection_conditionHolds d p s hc
  · rename_i hentered
    refine ⟨_, hbase, fun i c => ?_⟩
    rcases eq_or_ne c .guardArmed with rfl | hc
    · rw [if_neg hentered]
    · rw [entered_of_same (withProtection_conditionHolds d p s hc)]
      rfl

end Sys2Proof.Machine
end

section
/-! PROOFS. A CONFIRMED offer, a far-end change and a cutback switch (R34, R36, R39). -/

namespace Sys2Proof.Machine

theorem Quiet.withProtection {s t : State} (h : Quiet s t) (d : Direction) (p : Protection) :
    Quiet (withProtection d p s) (withProtection d p t) := by
  unfold Machine.withProtection
  rw [h.line]
  exact (h.modLoad _).modTrack _

/-! ## The own offer -/

/-- The state of an own offer that switches, before the rates are recomputed. -/
def offerSwitching (o : OwnOffer) (s : State) : State :=
  match o.newProt with
  | none => s.modLoad fun l => { l with rxLoads := o.table, own := .none, holdoff := 1, failures := 0 }
  | some p => (withProtection .receive p
      (s.modLoad fun l => { l with rxLoads := o.table, own := .none, holdoff := 1, failures := 0 })).modTrack fun x =>
        { x with lowerHold := 0 }

/-- The same, with the watches told of a guard that is armed. -/
def offerInstalled (o : OwnOffer) (s : State) : State :=
  match o.newProt with
  | none => s.modLoad fun l => { l with rxLoads := o.table, own := .none, holdoff := 1, failures := 0 }
  | some p => (installProtection .receive p
      (s.modLoad fun l => { l with rxLoads := o.table, own := .none, holdoff := 1, failures := 0 })).modTrack fun x =>
        { x with lowerHold := 0 }

theorem switchOffer_eq (o : OwnOffer) (s : State) : switchOffer o s = raise (.plain .offerTaken)
    (((recompute (offerInstalled o s)).countLine fun n => { n with offersTaken := satInc n.offersTaken }).modInterval fun r =>
      { r with offersTaken := satInc r.offersTaken }) := rfl

theorem offerInstalled_quiet (o : OwnOffer) (s : State) : Quiet (offerSwitching o s) (offerInstalled o s) := by
  unfold offerSwitching offerInstalled
  cases o.newProt with
  | none => exact .refl _
  | some p => exact (installProtection_quiet _ _ _).modTrack _

theorem offerInstalled_enters (o : OwnOffer) (s : State) : Enters [] s (offerInstalled o s) ∧ (offerInstalled o s).rate = s.rate := by
  unfold offerInstalled
  cases o.newProt with
  | none => exact ⟨.untold (.modLoad _ _) fun c => by cases c <;> rfl, rfl⟩
  | some p =>
    refine ⟨?_, by simp⟩
    refine Enters.andUntold ?_ (.modTrack _ _) fun c => by cases c <;> rfl
    exact (Enters.untold (.modLoad s _) fun c => by cases c <;> rfl).trans (.installProtection _ _ _) fun c =>
      .inl (by cases c <;> rfl)

theorem offerSwitchedFrom_eq (o : OwnOffer) (s : State) : offerSwitchedFrom o s =
    (((offerSwitching o s).setRate (rateRecord (offerSwitching o s))).countLine fun n =>
      { n with offersTaken := satInc n.offersTaken }).modInterval fun r => { r with offersTaken := satInc r.offersTaken } := by
  unfold offerSwitchedFrom offerSwitching
  cases o.newProt <;> rfl

theorem offerSwitchedFrom_untold (o : OwnOffer) (s : State) : Untold (offerSwitchedFrom o s) s := by
  unfold offerSwitchedFrom
  cases o.newProt <;> exact .same rfl rfl rfl rfl

theorem switchOffer_enters (o : OwnOffer) (s : State) : Enters [.plain .offerTaken] s (switchOffer o s) := by
  obtain ⟨hinstalled, hrate⟩ := offerInstalled_enters o s
  rw [switchOffer_eq]
  refine Enters.andRaise (es := []) ?_ _
  refine ((hinstalled.andRecompute hrate).andUntold (.countLine _ _) ?_).andUntold (.modInterval _ _) ?_
  all_goals exact fun c => by cases c <;> rfl

theorem switchOffer_raised (o : OwnOffer) (s : State) :
    Raised [.plain .offerTaken] (offerSwitchedFrom o s) (switchOffer o s) := by
  refine (switchOffer_enters o s).raised (offerSwitchedFrom_untold o s) (.one _) ?_
  rw [switchOffer_eq, offerSwitchedFrom_eq]
  exact (((offerInstalled_quiet o s).recompute.countLine _).modInterval _).trans (raise_quiet _ _)

/-! ## The far-end change -/

/-- The state of a far-end change that switches, before the rates are recomputed. -/
def farSwitching (f : FarPending) (s : State) : State :=
  match f.newProt with
  | none => s.modLoad fun l => { l with txLoads := f.table, tx := .none }
  | some p => withProtection .transmit p (s.modLoad fun l => { l with txLoads := f.table, tx := .none })

/-- The same, with the watches told of a guard that is armed. -/
def farInstalled (f : FarPending) (s : State) : State :=
  match f.newProt with
  | none => s.modLoad fun l => { l with txLoads := f.table, tx := .none }
  | some p => installProtection .transmit p (s.modLoad fun l => { l with txLoads := f.table, tx := .none })

/-- A far-end change that has switched, before the cutback test. -/
def farChanged (f : FarPending) (s : State) : State :=
  raise (.plain .farChange) ((recompute (farInstalled f s)).countLine fun n => { n with farTaken := satInc n.farTaken })

theorem switchFarChange_eq (f : FarPending) (s : State) : switchFarChange f s = cutbackTest (farChanged f s) := rfl

theorem farInstalled_quiet (f : FarPending) (s : State) : Quiet (farSwitching f s) (farInstalled f s) := by
  unfold farSwitching farInstalled
  cases f.newProt with
  | none => exact .refl _
  | some p => exact installProtection_quiet _ _ _

theorem farInstalled_enters (f : FarPending) (s : State) : Enters [] s (farInstalled f s) ∧ (farInstalled f s).rate = s.rate := by
  unfold farInstalled
  cases f.newProt with
  | none => exact ⟨.untold (.modLoad _ _) fun c => by cases c <;> rfl, rfl⟩
  | some p =>
    refine ⟨?_, by simp⟩
    exact (Enters.untold (.modLoad s _) fun c => by cases c <;> rfl).trans (.installProtection _ _ _) fun c =>
      .inl (by cases c <;> rfl)

theorem farChangedFrom_eq (f : FarPending) (s : State) : farChangedFrom f s =
    ((farSwitching f s).setRate (rateRecord (farSwitching f s))).countLine fun n =>
      { n with farTaken := satInc n.farTaken } := by
  unfold farChangedFrom farSwitching
  cases f.newProt <;> rfl

theorem farChangedFrom_untold (f : FarPending) (s : State) : Untold (farChangedFrom f s) s := by
  unfold farChangedFrom
  cases f.newProt <;> exact .same rfl rfl rfl rfl

theorem farChanged_enters (f : FarPending) (s : State) : Enters [.plain .farChange] s (farChanged f s) := by
  obtain ⟨hinstalled, hrate⟩ := farInstalled_enters f s
  refine Enters.andRaise (es := []) ?_ _
  exact (hinstalled.andRecompute hrate).andUntold (.countLine _ _) fun c => by cases c <;> rfl

theorem farChanged_raised (f : FarPending) (s : State) : Raised [.plain .farChange] (farChangedFrom f s) (farChanged f s) := by
  refine (farChanged_enters f s).raised (farChangedFrom_untold f s) (.one _) ?_
  rw [farChangedFrom_eq]
  exact ((farInstalled_quiet f s).recompute.countLine _).trans (raise_quiet _ _)

/-! ## The cutback -/

/-- The state of a cutback that switches, before the rates are recomputed. -/
def cutbackSwitching (c : CutbackOut) (s : State) : State :=
  s.modLoad fun l => { l with txLoads := c.table, tx := .none, lastCutback := some { number := c.number, switched := true } }

/-- A cutback counted by its answered mark. -/
def countCutback (c : CutbackOut) (s : State) : State :=
  s.countLine fun n =>
    if c.answered then { n with cutbacksAnswered := satInc n.cutbacksAnswered }
    else { n with cutbacksUnanswered := satInc n.cutbacksUnanswered }

/-- A cutback that has switched, counted, before CUTBACK-DONE is raised. -/
def cutbackCounted (c : CutbackOut) (s : State) : State := countCutback c (recompute (cutbackSwitching c s))

/-- A cutback that has switched, before the cutback test. -/
def cutbackDone (c : CutbackOut) (s : State) : State :=
  raise ⟨.cutbackDone, some (if c.answered then 1 else 0), some (cutbackCounted c s).rate.capacity.tx⟩ (cutbackCounted c s)

theorem switchCutback_eq (c : CutbackOut) (s : State) : switchCutback c s = cutbackTest (cutbackDone c s) := rfl

theorem cutbackCounted_quiet (c : CutbackOut) (s : State) : Quiet (cutbackDoneFrom c s) (cutbackCounted c s) := by
  have hbase : cutbackDoneFrom c s = countCutback c ((cutbackSwitching c s).setRate (rateRecord (cutbackSwitching c s))) := rfl
  rw [hbase]
  exact (recompute_quiet (cutbackSwitching c s)).countLine _

theorem cutbackCounted_enters (c : CutbackOut) (s : State) : Enters [] s (cutbackCounted c s) := by
  have hswitching : Enters [] s (recompute (cutbackSwitching c s)) :=
    (Enters.untold (.modLoad s _) fun c => by cases c <;> rfl).andRecompute rfl
  unfold cutbackCounted countCutback
  exact hswitching.andUntold (.countLine _ _) fun c => by cases c <;> rfl

theorem cutbackDone_enters (c : CutbackOut) (s : State) : Enters
    [⟨.cutbackDone, some (if c.answered then 1 else 0), some (cutbackDoneFrom c s).rate.capacity.tx⟩] s (cutbackDone c s) := by
  rw [← (cutbackCounted_quiet c s).rate]
  exact (cutbackCounted_enters c s).andRaise _

theorem cutbackDone_raised (c : CutbackOut) (s : State) : Raised
    [⟨.cutbackDone, some (if c.answered then 1 else 0), some (cutbackDoneFrom c s).rate.capacity.tx⟩] (cutbackDoneFrom c s)
    (cutbackDone c s) :=
  (cutbackDone_enters c s).raised (.same rfl rfl rfl rfl) (.one _) ((cutbackCounted_quiet c s).trans (raise_quiet _ _))

theorem Enters.of_dueTaken {es : List Event} {d : Due} {s t : State} (h : Enters es (dueTaken d s) t) : Enters es s t := by
  have htaken : Enters [] s (dueTaken d s) := .untold (.setDue s _) fun c => by cases c <;> rfl
  exact htaken.trans h fun c => .inl (by cases c <;> rfl)

/-- Settles O38, by what each switch enters and raises. -/
theorem changesSwitch : Obligations.ChangesSwitch := by
  refine ⟨fun o s hdue hown => ?_, fun f s hdue htx => ?_, fun c s hdue htx => ?_⟩
  · have hstep : offerSwitchStep (dueTaken .offerSwitch s) = switchOffer o (dueTaken .offerSwitch s) := by
      rw [offerSwitchStep, show (dueTaken .offerSwitch s).load.own = .confirmed o from hown]
    refine ⟨_, (exec_due rfl hdue).trans (congrArg Host.Outcome.next hstep), switchOffer_raised o _, ?_⟩
    exact (Enters.of_dueTaken (switchOffer_enters o _)).edgesCounted
  · have hstep : farChangeStep (dueTaken .farChangeSwitch s) = switchFarChange f (dueTaken .farChangeSwitch s) := by
      rw [farChangeStep, show (dueTaken .farChangeSwitch s).load.tx = .farPending f from htx]
    refine ⟨_, farChanged_raised f _, (Enters.of_dueTaken (farChanged_enters f (dueTaken .farChangeSwitch s))).edgesCounted,
      (exec_due rfl hdue).trans (congrArg Host.Outcome.next hstep)⟩
  · have hstep : cutbackSwitchStep (dueTaken .cutbackSwitch s) = switchCutback c (dueTaken .cutbackSwitch s) := by
      rw [cutbackSwitchStep, show (dueTaken .cutbackSwitch s).load.tx = .cutbackOut c from htx]
    refine ⟨_, cutbackDone_raised c _, (Enters.of_dueTaken (cutbackDone_enters c (dueTaken .cutbackSwitch s))).edgesCounted,
      (exec_due rfl hdue).trans (congrArg Host.Outcome.next hstep)⟩

end Sys2Proof.Machine
end

section
/-! PROOFS. Messages of supply and queries (R39, R42, R157, R174). -/

namespace Sys2Proof.Machine

/-! ## CUTBACK-TAKEN (R39) -/

theorem messageStep_cutbackTaken (tag : Byte) (body : Bytes) (s : State) :
    (s.line.state ≠ .run → messageStep .cutbackTaken tag body s = s) ∧
    (s.line.state = .run → body.length ≠ 1 → messageStep .cutbackTaken tag body s = countMalformed s) ∧
    (∀ n, s.line.state = .run → body = [n] → messageStep .cutbackTaken tag body s = cutbackAnswer n s) := by
  refine ⟨fun h => if_neg (mt State.inRun_iff.mp h), fun h hl => ?_, fun n h hb => ?_⟩
  · exact (if_pos (State.inRun_iff.mpr h)).trans (if_neg hl)
  · subst hb
    exact if_pos (State.inRun_iff.mpr h)

theorem cutbackAnswer_of_outstanding {c : CutbackOut} {n : Byte} {s : State} (htx : s.load.tx = .cutbackOut c) (hn : c.number = n) :
    cutbackAnswer n s = s.modLoad fun l => { l with tx := .cutbackOut { c with answered := true } } := by
  unfold cutbackAnswer
  dsimp only
  rw [htx]
  exact if_pos hn

theorem cutbackAnswer_of_other {n : Byte} {s : State} (htx : ∀ c, s.load.tx = .cutbackOut c → c.number ≠ n) :
    cutbackAnswer n s = if s.load.lastCutback = some { number := n, switched := true } then
        s.countLine fun c => { c with lateAnswers := satInc c.lateAnswers }
      else s.countLine fun c => { c with strayAnswers := satInc c.strayAnswers } := by
  unfold cutbackAnswer
  dsimp only
  cases h : s.load.tx with
  | none => rfl
  | farPending f => rfl
  | cutbackOut c => exact if_neg (htx c h)

/-! ## Queries (R157, R174) -/

theorem counterGroup_of_gt {m : Monitor} {code : Nat} (h : 3 < code) : counterGroup m code = none := by
  unfold counterGroup
  split
  all_goals first | omega | rfl

theorem answerQuery_counters {code : Byte} {s : State} :
    (∀ g, counterGroup s.mon code.toNat = some g → answerQuery [2, code] s = (.ok, countersBody code.toNat g)) ∧
    (counterGroup s.mon code.toNat = none → answerQuery [2, code] s = (.badValue, [])) := by
  refine ⟨fun g hg => ?_, fun hg => ?_⟩
  all_goals
    show (match counterGroup s.mon code.toNat with
      | some g => (Status.ok, countersBody code.toNat g)
      | none => (Status.badValue, [])) = _
    rw [hg]

theorem answerQuery_badLength {k : Byte} {rest : Bytes} (s : State)
    (h : (k.toNat = 1 ∧ rest.length ≠ 0) ∨ (k.toNat = 2 ∧ rest.length ≠ 1) ∨ (k.toNat = 3 ∧ rest.length ≠ 1) ∨
      (k.toNat = 4 ∧ rest.length ≠ 2)) : answerQuery (k :: rest) s = (.badLength, []) := by
  unfold answerQuery
  dsimp only
  split <;> simp_all

theorem answerQuery_badKind {k : Byte} {rest : Bytes} (s : State) (h : k.toNat = 0 ∨ 4 < k.toNat) :
    answerQuery (k :: rest) s = (.badKind, []) := by
  unfold answerQuery
  dsimp only
  split <;> first | rfl | omega

/-- Settles O39, by the number that an answer finds and by the code and arguments of a query. -/
theorem supplyAndQueryMessages : Obligations.SupplyAndQueryMessages := by
  refine ⟨⟨?taken, ?length, ?cutback⟩, ?query⟩
  · intro tag n s d hd u
    have hexec := exec_message (c := .cutbackTaken) rfl hd
    have hrun : s.line.state = .run → exec .cutbackTaken s = .next (cutbackAnswer n u) := fun h => by
      rw [hexec, (messageStep_cutbackTaken tag [n] u).2.2 n h rfl]
    refine ⟨fun c h htx hn => ?_, fun h htx hlast => ?_, fun h htx hlast => ?_, fun h => ?_⟩
    · rw [hrun h, cutbackAnswer_of_outstanding (s := u) htx hn]
      rfl
    · rw [hrun h, cutbackAnswer_of_other (s := u) htx]
      exact congrArg Host.Outcome.next (if_pos hlast)
    · rw [hrun h, cutbackAnswer_of_other (s := u) htx]
      exact congrArg Host.Outcome.next (if_neg hlast)
    · rw [hexec, (messageStep_cutbackTaken tag [n] u).1 h]
  · intro tag body s d hd hrun hl
    rw [exec_message (c := .cutbackTaken) rfl hd, (messageStep_cutbackTaken tag body (dueTaken _ s)).2.1 hrun hl]
    rfl
  · intro tag body s d hd u
    have hexec := exec_message (c := .inboundCutback) rfl hd
    refine ⟨fun h => ?_, fun h => ?_⟩
    · rw [hexec]
      exact congrArg Host.Outcome.next (if_pos (State.inRun_iff.mpr h))
    · rw [hexec]
      exact congrArg Host.Outcome.next (if_neg (mt State.inRun_iff.mp h))
  · intro tag body s d hd u answered
    have hexec : ∀ st content, answerQuery body u = (st, content) → exec .farQuery s = answered st content := by
      intro st content hans
      rw [exec_message (c := .farQuery) rfl hd]
      show Host.Outcome.next (farQueryStep tag body u) = _
      rw [farQueryStep, hans]
      rfl
    refine ⟨fun hb => ?_, fun code g hb hg => ?_, fun code hb hcode => ?_, fun i hb hi => ?_, fun i hb hi => ?_,
      fun start count hb hlo hhi => ?_, fun start count hb hbad => ?_, fun hb => ?_, fun k rest hb hbad => ?_, fun k rest hb hbad => ?_⟩
    · exact hexec _ _ (by rw [hb]; rfl)
    · exact hexec _ _ (by rw [hb]; exact answerQuery_counters.1 g hg)
    · exact hexec _ _ (by rw [hb]; exact answerQuery_counters.2 (counterGroup_of_gt hcode))
    · exact hexec _ _ (by rw [hb]; exact if_pos hi)
    · exact hexec _ _ (by rw [hb]; exact if_neg (Nat.not_le.mpr hi))
    · exact hexec _ _ (by rw [hb]; exact if_pos ⟨hlo, hhi⟩)
    · exact hexec _ _ (by rw [hb]; exact if_neg (by omega))
    · exact hexec _ _ (by rw [hb]; rfl)
    · exact hexec _ _ (by rw [hb]; exact answerQuery_badLength u hbad)
    · exact hexec _ _ (by rw [hb]; exact answerQuery_badKind u hbad)

end Sys2Proof.Machine
end

section
/-! PROOFS. The 1 ms tick (R6, R94, R102, R105, R106, R110, R131, R137, R151). -/

namespace Sys2Proof.Machine

/-! ## What a tick makes due -/

theorem mem_if_singleton {α : Type} {c : Prop} [Decidable c] {x d : α} : d ∈ (if c then [x] else []) ↔ c ∧ d = x := by
  split <;> simp_all

theorem mem_lineDues {d : Due} {s : State} : d ∈ lineDues s ↔
    (timerReached s.line.training (s.params.trainTimeout * 1000) = true ∧ d = .trainingTimeout) ∨
    (timerReached s.line.holdoff (s.params.holdoff * 1000) = true ∧ d = .holdoffExpiry) ∨
    (timerReached s.line.silence (s.params.silenceCount * 25) = true ∧ d = .silenceExpiry) := by
  simp only [lineDues, List.mem_append, mem_if_singleton, or_assoc]

theorem mem_pinDues {d : Due} {x : Supply} : d ∈ pinDues x ↔
    (pinSettled x.mainsOk = true ∧ d = .pin .mainsOk) ∨ (pinSettled x.battLow = true ∧ d = .pin .battLow) := by
  simp only [pinDues, List.mem_append, mem_if_singleton]

theorem mem_portDues {d : Due} {p : PortId} {s : State} : d ∈ portDues p s ↔
    (((s.port p).state = .inBreak ∧ (s.port p).breakMs = 101 ∧ 0 < (s.port p).pulses) ∧ d = .breakPulses p) ∨
    (((s.port p).state = .inBreak ∧ s.params.flashMax < (s.port p).breakMs) ∧ d = .hangUp p) ∨
    (((s.port p).state = .offHook ∧ 0 < (s.port p).pulses ∧ s.params.interdigit ≤ (s.port p).interdigitMs) ∧
      d = .interdigit p) ∨
    (((s.port p).state = .ringing ∧ ringPhaseDone s.phone.cadence (s.port p) = true) ∧ d = .ringPhase p) ∨
    (((s.port p).fed = true ∧ 0 < (s.port p).stable ∧ s.params.hookDebounce ≤ (s.port p).stable) ∧ d = .hook p) := by
  simp only [portDues, List.mem_append, mem_if_singleton, or_assoc]
  rfl

theorem mem_pacingDues {d : Due} {s : State} : d ∈ pacingDues s ↔
    (∃ n r, s.evt.pacing = .paced n r ∧ pacingLimit s.params.noticeInterval r ≤ n) ∧ d = .pacing := by
  unfold pacingDues
  cases s.evt.pacing with
  | ready => simp
  | paced n r =>
    refine mem_if_singleton.trans (and_congr_left fun _ => ⟨fun h => ⟨n, r, rfl, h⟩, ?_⟩)
    rintro ⟨n', r', heq, h⟩
    cases heq
    exact h

theorem timerReached_iff {t : Option Nat} {limit : Nat} : timerReached (t.map (· + 1)) limit = true ↔
    ∃ n, t = some n ∧ limit ≤ n + 1 := by
  cases t with
  | none => simp [timerReached]
  | some n => simp [timerReached]

theorem pacingLimit_eq (interval : Nat) (refused : Bool) : pacingLimit interval refused =
    if refused = true ∧ interval = 0 then 100 else interval * 100 := by
  unfold pacingLimit
  simp only [Bool.and_eq_true, beq_iff_eq]

/-! ## A port at a tick -/

theorem tickPort_of_unfed {q : PhonePort} (h : q.state = .unfed) : tickPort q = q := by
  rw [tickPort, if_neg (by simp [PhonePort.fed, h])]

theorem tickPort_of_fed {q : PhonePort} (h : q.state ≠ .unfed) : tickPort q = { q with
    stable := if q.rawOff = q.accepted then 0 else q.stable + 1
    breakMs := if q.state = .inBreak then q.breakMs + 1 else q.breakMs
    interdigitMs := if q.state = .offHook ∧ 0 < q.pulses then q.interdigitMs + 1 else q.interdigitMs
    ring := if q.state = .ringing then q.ring.map (fun r => { r with ms := r.ms + 1 }) else q.ring } := by
  have hdebounce : debounce q = { q with stable := if q.rawOff = q.accepted then 0 else q.stable + 1 } := by
    unfold debounce
    simp only [beq_iff_eq]
    split <;> rfl
  rw [tickPort, if_pos (by simp [PhonePort.fed, h]), hdebounce]
  unfold tickTimers
  dsimp only
  cases hstate : q.state with
  | unfed => exact absurd hstate h
  | onHook => simp
  | ringing => simp
  | inBreak => simp
  | offHook =>
    by_cases hpulses : 0 < q.pulses <;> simp [hpulses]

theorem tickPort_state (q : PhonePort) : (tickPort q).state = q.state := by
  by_cases h : q.state = .unfed
  · rw [tickPort_of_unfed h]
  · rw [tickPort_of_fed h]

theorem tickState_port (a b : Bool) (s : State) (p : PortId) : (tickState a b s).port p = tickPort (s.port p) := by
  cases p <;> rfl

theorem cadenceList_eq (e : List Segment) : cadenceList e = segments e := by
  induction e with
  | nil => rfl
  | cons g e ih =>
    by_cases hg : g = ⟨0, 0⟩
    · rw [cadenceList, if_pos hg, segments, List.takeWhile_cons_of_neg (by simpa using hg)]
    · rw [cadenceList, if_neg hg, segments, List.takeWhile_cons_of_pos (by simpa using hg), ih, segments]

/-- R110: the phase of a ring has reached its length, a segment past the list having none. -/
theorem ringPhaseDone_iff {table : List (List Segment)} {q : PhonePort} : ringPhaseDone table q = true ↔ ∃ r, q.ring = some r ∧
    ∀ g, (segments (table.getD r.entry []))[r.segment - 1]? = some g → 10 * (if r.onPhase then g.on else g.off) ≤ r.ms := by
  unfold ringPhaseDone
  cases q.ring with
  | none => simp
  | some r =>
    simp only [decide_eq_true_eq, Option.some.injEq, exists_eq_left']
    unfold phaseLength ringSegment
    rw [cadenceList_eq]
    cases (segments (table.getD r.entry []))[r.segment - 1]? with
    | none => simp
    | some g => simp

/-! ## The tick -/

theorem mem_tickStep_due (a b : Bool) {u : State} (hdue : u.due = []) (d : Due) : d ∈ (tickStep a b u).due ↔
    d ∈ lineDues (tickState a b u) ∨ d ∈ pinDues (tickState a b u).supply ∨ (∃ p, d ∈ portDues p (tickState a b u)) ∨
      d ∈ pacingDues (tickState a b u) ∨ (isSecond u.time = true ∧ d = .secondTick) := by
  have hports : (∃ p, d ∈ portDues p (tickState a b u)) ↔ d ∈ portDues .p1 (tickState a b u) ∨ d ∈ portDues .p2 (tickState a b u) := by
    constructor
    · rintro ⟨_ | _, h⟩
      · exact .inl h
      · exact .inr h
    · exact fun h => h.elim (fun h => ⟨_, h⟩) fun h => ⟨_, h⟩
  show d ∈ u.due ++ tickDues (tickState a b u) ++ _ ↔ _
  rw [hdue, List.nil_append, tickDues, hports]
  simp only [List.mem_append, mem_if_singleton, or_assoc]

/-- The expiries of a tick, each due exactly when its own test holds. -/
theorem tickStep_dues (a b : Bool) {u : State} (hdue : u.due = []) :
    (.pacing ∈ (tickStep a b u).due ↔ ∃ n r, (tickState a b u).evt.pacing = .paced n r ∧ pacingLimit u.params.noticeInterval r ≤ n) ∧
    (.secondTick ∈ (tickStep a b u).due ↔ isSecond u.time = true) ∧
    (.trainingTimeout ∈ (tickStep a b u).due ↔ timerReached (u.line.training.map (· + 1)) (u.params.trainTimeout * 1000) = true) ∧
    (.holdoffExpiry ∈ (tickStep a b u).due ↔ timerReached (u.line.holdoff.map (· + 1)) (u.params.holdoff * 1000) = true) ∧
    (.silenceExpiry ∈ (tickStep a b u).due ↔ timerReached (u.line.silence.map (· + 1)) (u.params.silenceCount * 25) = true) ∧
    (.pin .mainsOk ∈ (tickStep a b u).due ↔ pinSettled (tickState a b u).supply.mainsOk = true) ∧
    (.pin .battLow ∈ (tickStep a b u).due ↔ pinSettled (tickState a b u).supply.battLow = true) := by
  simp only [mem_tickStep_due a b hdue, mem_lineDues, mem_pinDues, mem_portDues, mem_pacingDues, reduceCtorEq, and_false, or_false,
    false_or, exists_false, and_true, Due.pin.injEq]
  exact ⟨Iff.rfl, trivial, Iff.rfl, Iff.rfl, Iff.rfl⟩

theorem tickStep_portDues (a b : Bool) {u : State} (hdue : u.due = []) (p : PortId) : let q := tickPort (u.port p)
    (.hook p ∈ (tickStep a b u).due ↔ q.fed = true ∧ 0 < q.stable ∧ u.params.hookDebounce ≤ q.stable) ∧
    (.breakPulses p ∈ (tickStep a b u).due ↔ q.state = .inBreak ∧ q.breakMs = 101 ∧ 0 < q.pulses) ∧
    (.hangUp p ∈ (tickStep a b u).due ↔ q.state = .inBreak ∧ u.params.flashMax < q.breakMs) ∧
    (.interdigit p ∈ (tickStep a b u).due ↔ q.state = .offHook ∧ 0 < q.pulses ∧ u.params.interdigit ≤ q.interdigitMs) ∧
    (.ringPhase p ∈ (tickStep a b u).due ↔ q.state = .ringing ∧ ringPhaseDone u.phone.cadence q = true) := by
  simp only [mem_tickStep_due a b hdue, mem_lineDues, mem_pinDues, mem_portDues, mem_pacingDues, reduceCtorEq, and_false, or_false,
    false_or, Due.hook.injEq, Due.breakPulses.injEq, Due.hangUp.injEq, Due.interdigit.injEq, Due.ringPhase.injEq,
    exists_eq_right', tickState_port]
  exact ⟨Iff.rfl, trivial, Iff.rfl, Iff.rfl, Iff.rfl⟩

/-- R131: a pin's debounce at a tick. -/
theorem tickPin_eq (level : Bool) (d : PinDebounce) :
    (∀ x, d.accepted = some x → tickPin level d =
      { accepted := some x, seen := some level, stable := if level = x then 0 else d.stable + 1 }) ∧
    (d.accepted = none → tickPin level d =
      { accepted := none, seen := some level, stable := if d.seen = some (!level) then 0 else d.stable + 1 }) := by
  obtain ⟨accepted, seen, stable⟩ := d
  refine ⟨fun x hx => ?_, fun hx => ?_⟩
  · obtain rfl : accepted = some x := hx
    unfold tickPin
    dsimp only
    by_cases h : level = x <;> simp [h]
  · obtain rfl : accepted = none := hx
    unfold tickPin
    dsimp only
    by_cases h : seen = some (!level) <;> simp [h]

/-- Settles O27, by the tick's advance and the test of each expiry. -/
theorem msTickAdvancesTheTimers : Obligations.MsTickAdvancesTheTimers := by
  intro a b s u
  have hexec : exec (.msTick a b) s = .next (tickStep a b u) := rfl
  have hdue : u.due = [] := settle_due s
  clear_value u
  obtain ⟨hpacing, hsecond, htraining, hholdoff, hsilence, hmains, hbatt⟩ := tickStep_dues a b hdue
  have hpin : ∀ d : PinDebounce, pinSettled d = true ↔ 50 ≤ d.stable := fun d => decide_eq_true_iff
  have hthousandth : isSecond u.time = true ↔ 999 ≤ u.time.divider :=
    decide_eq_true_iff.trans ⟨fun h => Nat.le_of_succ_le_succ h, fun h => Nat.succ_le_succ h⟩
  refine ⟨tickStep a b u, hexec, rfl, rfl, rfl, rfl, rfl, rfl, rfl, rfl, rfl, ?time, rfl, rfl, ?pacing, ?pacingDue, rfl,
    fun p hfed => ?fed, fun p hunfed => ?unfed, rfl, fun x hx => ⟨(tickPin_eq a _).1 x hx, hmains.trans (hpin _)⟩,
    fun hx => ⟨(tickPin_eq a _).2 hx, hmains.trans (hpin _)⟩, fun x hx => ⟨(tickPin_eq b _).1 x hx, hbatt.trans (hpin _)⟩,
    fun hx => ⟨(tickPin_eq b _).2 hx, hbatt.trans (hpin _)⟩, hsecond.trans hthousandth, htraining.trans timerReached_iff,
    hholdoff.trans timerReached_iff, hsilence.trans timerReached_iff⟩
  case time =>
    show TimeBase.mk (u.time.ms + 1) (if 1000 ≤ u.time.divider + 1 then 0 else u.time.divider + 1) = TimeBase.mk _ _
    by_cases h : 999 ≤ u.time.divider
    · rw [if_pos h, if_pos (Nat.succ_le_succ h)]
    · rw [if_neg h, if_neg fun hle => h (Nat.le_of_succ_le_succ hle)]
  case pacing => rfl
  case pacingDue =>
    rw [hpacing]
    have htick : (tickState a b u).evt.pacing = tickPacing u.evt.pacing := rfl
    rw [htick]
    cases u.evt.pacing with
    | ready => simp [tickPacing]
    | paced n refused =>
      simp only [tickPacing, pacingLimit_eq]
      constructor
      · rintro ⟨m, r, heq, h⟩
        cases heq
        exact ⟨n, refused, rfl, h⟩
      · rintro ⟨m, r, heq, h⟩
        cases heq
        exact ⟨n + 1, refused, rfl, h⟩
  case fed =>
    intro q
    obtain ⟨hhook, hbreak, hhang, hdigit, hring⟩ := tickStep_portDues a b hdue p
    have hport : (tickStep a b u).port p = tickPort q := tickState_port a b u p
    have hfed' : (tickPort q).fed = true := by simp [PhonePort.fed, tickPort_state, hfed, q]
    have hq := tickPort_of_fed (q := q) hfed
    refine ⟨hport.trans hq, ?_, ?_, ?_, ?_, ?_⟩
    · rw [hhook, hport, and_iff_right hfed']
    · rw [hbreak, tickPort_state, hq]
      exact and_congr_right fun h => by rw [if_pos h]
    · rw [hhang, tickPort_state, hq]
      exact and_congr_right fun h => by rw [if_pos h]
    · rw [hdigit, tickPort_state, hq]
      dsimp only
      exact and_congr_right fun h => and_congr_right fun hpulses => by rw [if_pos ⟨h, hpulses⟩]
    · rw [hring, tickPort_state, ringPhaseDone_iff, hq]
      refine and_congr_right fun h => ?_
      rw [if_pos h]
      cases q.ring with
      | none => simp
      | some r => simp
  case unfed =>
    obtain ⟨hhook, hbreak, hhang, hdigit, hring⟩ := tickStep_portDues a b hdue p
    have hport : (tickStep a b u).port p = tickPort (u.port p) := tickState_port a b u p
    rw [tickPort_of_unfed hunfed] at hhook hbreak hhang hdigit hring
    refine ⟨hport.trans (tickPort_of_unfed hunfed), fun d hd => Bool.eq_false_iff.mpr fun hp => ?_⟩
    have hcase : d = .breakPulses p ∨ d = .hangUp p ∨ d = .interdigit p ∨ d = .ringPhase p ∨ d = .hook p := by
      cases d <;> simp_all [Due.ofPort]
    rcases hcase with rfl | rfl | rfl | rfl | rfl
    · exact nomatch hunfed.symm.trans (hbreak.mp hd).1
    · exact nomatch hunfed.symm.trans (hhang.mp hd).1
    · exact nomatch hunfed.symm.trans (hdigit.mp hd).1
    · exact nomatch hunfed.symm.trans (hring.mp hd).1
    · exact absurd (hhook.mp hd).1 (by simp [PhonePort.fed, hunfed])

end Sys2Proof.Machine
end

section
/-! PROOFS. A phone port's hook states, digits and hang-ups (R102, R104 to R106, R111, R115). -/

namespace Sys2Proof.Machine

/-! ## A step of a port -/

theorem Quiet.modPort {s t : State} (h : Quiet s t) (p : PortId) (f : PhonePort → PhonePort) : Quiet (s.modPort p f) (t.modPort p f) := by
  unfold State.modPort State.port
  rw [h.phone]
  exact { h with phone := rfl }

theorem Quiet.countPort {s t : State} (h : Quiet s t) (p : PortId) (f : PortCounts → PortCounts) :
    Quiet (s.countPort p f) (t.countPort p f) := h.countVoice _

theorem Untold.modPort (s : State) (p : PortId) (f : PhonePort → PhonePort) : Untold s (s.modPort p f) := .same rfl rfl rfl rfl

theorem Untold.countPort (s : State) (p : PortId) (f : PortCounts → PortCounts) : Untold s (s.countPort p f) := .same rfl rfl rfl rfl

theorem modPort_conditionHolds (s : State) (p : PortId) (f : PhonePort → PhonePort) (c : Condition) :
    conditionHolds (s.modPort p f) c =
      if c = offHookCondition p then (f (s.port p)).hookCode == 1 else conditionHolds s c := by
  cases p <;> cases c <;> rfl

theorem countPort_conditionHolds (s : State) (p : PortId) (f : PortCounts → PortCounts) (c : Condition) :
    conditionHolds (s.countPort p f) c = conditionHolds s c := by
  cases c <;> rfl

theorem offHook_conditionHolds (s : State) (p : PortId) : conditionHolds s (offHookCondition p) = ((s.port p).hookCode == 1) := by
  cases p <;> rfl

/-- A condition is entered by a step that changes it alone, and whatever has been told on the way. -/
theorem Enters.enterCondition_of_tells {es : List Event} {hits : Ix4 → WatchSource → Nat} {s t : State} {c : Condition}
    (h : Tells es hits s t) (hedge : ∀ i d, hits i (.edge d) = 0) (hc : entered s t c = true)
    (hother : ∀ d, d ≠ c → conditionHolds t d = conditionHolds s d) : Enters es s (Machine.enterCondition c t) := by
  have htold := h.trans (enterCondition_tells c t)
  rw [List.append_nil] at htold
  refine ⟨_, htold, fun i d => ?_⟩
  have hsame := (enterCondition_quiet c t).conditionHolds d
  rw [hedge]
  rcases eq_or_ne d c with rfl | hne
  · rw [entered] at hc
    rw [entered, hsame, hc]
    simp [hitBy]
  · rw [entered, hsame, hother d hne, Bool.and_not_self]
    simp [hitBy, hne]

/-! ## Lifts, flashes and hang-ups -/

/-- A port lifted, and the lift counted. -/
def lifted (p : PortId) (s : State) : State :=
  (s.modPort p fun q => { q.endRing .offHook with pulses := 0, interdigitMs := 0 }).countPort p fun c =>
    { c with lifts := satInc c.lifts }

theorem liftPort_eq (p : PortId) (s : State) :
    liftPort p s = enterCondition (offHookCondition p) (raise (.plain .hook) (lifted p s)) := rfl

theorem liftPort_quiet (p : PortId) (s : State) : Quiet (lifted p s) (liftPort p s) :=
  (raise_quiet _ _).trans (enterCondition_quiet _ _)

theorem lifted_conditionHolds (p : PortId) (s : State) (c : Condition) : conditionHolds (lifted p s) c =
    if c = offHookCondition p then true else conditionHolds s c := by
  rw [lifted, countPort_conditionHolds, modPort_conditionHolds]
  rfl

theorem liftPort_enters {p : PortId} {s : State} (h : ((s.port p).hookCode == 1) = false) :
    Enters [.plain .hook] s (liftPort p s) := by
  have hlifted : Untold s (lifted p s) := .same rfl rfl rfl rfl
  have hsame := (raise_quiet (.plain .hook) (lifted p s)).conditionHolds
  rw [liftPort_eq]
  refine .enterCondition_of_tells (hlifted.then (raise_tells _ _)) (fun i d => by simp [hitBy]) ?_ fun d hd => ?_
  · rw [entered, hsame, lifted_conditionHolds, if_pos rfl, offHook_conditionHolds, h]
    rfl
  · rw [hsame, lifted_conditionHolds, if_neg hd]

/-- A step of a port that keeps it off the hook, or on it. -/
theorem modPort_enters {p : PortId} {f : PhonePort → PhonePort} {s : State}
    (h : ((f (s.port p)).hookCode == 1) = ((s.port p).hookCode == 1)) : Enters [] s (s.modPort p f) := by
  refine .untold (.modPort s p f) fun c => ?_
  rw [modPort_conditionHolds]
  split
  · subst_vars
    rw [h, offHook_conditionHolds]
  · rfl

/-- An accepted level, before it is handed to the port's states. -/
def accepted (p : PortId) (off : Bool) (s : State) : State := s.modPort p fun q => { q with accepted := off, stable := 0 }

theorem accepted_port (p : PortId) (off : Bool) (s : State) :
    (accepted p off s).port p = { s.port p with accepted := off, stable := 0 } := State.modPort_port_same _ _ _

theorem accepted_enters (p : PortId) (off : Bool) (s : State) : Enters [] s (accepted p off s) := modPort_enters rfl

theorem acceptHook_eq {p : PortId} {s : State} (h : (s.port p).state ≠ .unfed) : acceptHook p s =
    if (s.port p).accepted then acceptOnHook p (accepted p false s) else acceptOffHook p (accepted p true s) := by
  rw [acceptHook, if_neg h]
  cases (s.port p).accepted <;> rfl

theorem modPort_modPort (s : State) (p : PortId) (f g : PhonePort → PhonePort) :
    (s.modPort p f).modPort p g = s.modPort p fun q => g (f q) := by
  cases p <;> rfl

/-- With no expiry of the port due, an acceptance alone acts. -/
theorem exec_hookAcceptance {p : PortId} {s : State} (hhook : .hook p ∈ s.due) (hbreak : .breakPulses p ∉ s.due)
    (hhang : .hangUp p ∉ s.due) (hdigit : .interdigit p ∉ s.due) :
    exec (.hookAcceptance p) s = .next (acceptHook p (dueTaken (.hook p) s)) := by
  show Host.Outcome.next (takeHook p s) = _
  rw [takeHook, takeDue_of_not_mem hbreak, takeDue_of_not_mem hhang, takeDue_of_not_mem hdigit, takeDue_of_mem hhook]
  rfl

theorem countPort_lifted (s : State) (p : PortId) (f g : PhonePort → PhonePort) (m n : PortCounts → PortCounts) :
    (((s.modPort p f).countPort p m).modPort p g).countPort p n =
      (s.modPort p fun q => g (f q)).countPort p fun c => n (m c) := by
  cases p <;> rfl

/-- A phone lifted, or a ring answered: the state in which HOOK is raised, and the condition entered. -/
theorem liftPort_spec {p : PortId} {s u : State} (hu : Enters [] u s) (h : ((s.port p).hookCode == 1) = false)
    (hkeep : ∀ c, conditionHolds s c = conditionHolds u c) :
    EdgesCounted u (liftPort p s) ∧ Raised [.plain .hook] (lifted p s) (liftPort p s) := by
  have henters := liftPort_enters h
  refine ⟨(hu.trans henters fun c => .inl (hkeep c)).edgesCounted, ?_⟩
  have hraised := ((raise_tells (.plain .hook) (lifted p s)).trans (enterCondition_tells (offHookCondition p) _)).raised
    (.one _) (liftPort_quiet p s)
  exact hraised

/-! ## Expiries of the break and interdigit timers -/

theorem takeDue_due {d : Due} (hkeep : ∀ t, (runDue d t).due = t.due) (s : State) : (takeDue d s).due = s.due.erase d := by
  by_cases h : d ∈ s.due
  · rw [takeDue_of_mem h, hkeep]
    rfl
  · rw [takeDue_of_not_mem h, List.erase_of_not_mem h]

theorem breakPulses_due (p : PortId) (s : State) : (takeDue (.breakPulses p) s).due = s.due.erase (.breakPulses p) :=
  takeDue_due (d := .breakPulses p) (fun t => (breakPulsesStep_frame t p).2.1) s

theorem hangUp_due (p : PortId) (s : State) : (takeDue (.hangUp p) s).due = s.due.erase (.hangUp p) :=
  takeDue_due (d := .hangUp p) (fun t => (hangUpStep_frame t p).2.1) s

theorem interdigit_due (p : PortId) (s : State) : (takeDue (.interdigit p) s).due = s.due.erase (.interdigit p) :=
  takeDue_due (d := .interdigit p) (fun t => (interdigitStep_frame t p).2.1) s

theorem hookStep_due (p : PortId) (s : State) : (takeDue (.hook p) s).due = s.due.erase (.hook p) :=
  takeDue_due (d := .hook p) (fun t => (acceptHook_frame t p).2.1) s

/-- The expiries of a port's break and interdigit timers, in the order in which they go before an acceptance. -/
def expired (p : PortId) (s : State) : State :=
  takeDue (.interdigit p) (takeDue (.hangUp p) (takeDue (.breakPulses p) s))

theorem expired_due (p : PortId) (s : State) :
    (expired p s).due = ((s.due.erase (.breakPulses p)).erase (.hangUp p)).erase (.interdigit p) := by
  rw [expired, interdigit_due, hangUp_due, breakPulses_due]

theorem mem_expired_due {p : PortId} {s : State} (h : s.due.Nodup) (d : Due) : d ∈ (expired p s).due ↔
    d ≠ .interdigit p ∧ d ≠ .hangUp p ∧ d ≠ .breakPulses p ∧ d ∈ s.due := by
  rw [expired_due, ((h.erase _).erase _).mem_erase_iff, (h.erase _).mem_erase_iff, h.mem_erase_iff]

/-- R106: the state of a port whose pending pulses have become a digit. -/
def dialled (p : PortId) (s : State) : State :=
  (s.modPort p fun q => { q with pulses := 0, digits := q.digits ++ [q.pulses % 10] }).countPort p fun n =>
    { n with digits := satInc n.digits }

theorem digitOf_of_le {n : Nat} (h : 1 ≤ n) (h' : n ≤ 10) : digitOf n = some (n % 10) := by
  unfold digitOf
  rcases Nat.lt_or_eq_of_le h' with hlt | rfl
  · rw [if_pos ⟨h, by omega⟩, Nat.mod_eq_of_lt hlt]
  · rfl

theorem digitOf_of_gt {n : Nat} (h : 10 < n) : digitOf n = none := by
  rw [digitOf, if_neg (by omega), if_neg (by omega)]

theorem completeDigit_of_room {p : PortId} {s : State} (h : 1 ≤ (s.port p).pulses) (h' : (s.port p).pulses ≤ 10)
    (hroom : (s.port p).digits.length < 16) : completeDigit p s = raise (.plain .digit) (dialled p s) := by
  rw [completeDigit, digitOf_of_le h h']
  refine (if_pos hroom).trans ?_
  cases p <;> rfl

theorem completeDigit_of_full {p : PortId} {s : State} (h : 1 ≤ (s.port p).pulses) (h' : (s.port p).pulses ≤ 10)
    (hfull : 16 ≤ (s.port p).digits.length) :
    completeDigit p s = (s.modPort p fun q => { q with pulses := 0 }).countPort p fun n =>
      { n with digitOverflow := satInc n.digitOverflow } := by
  rw [completeDigit, digitOf_of_le h h']
  exact if_neg (Nat.not_lt.mpr hfull)

theorem completeDigit_of_many {p : PortId} {s : State} (h : 10 < (s.port p).pulses) :
    completeDigit p s = (s.modPort p fun q => { q with pulses := 0 }).countPort p fun n =>
      { n with pulseOverflow := satInc n.pulseOverflow } := by
  rw [completeDigit, digitOf_of_gt h]

/-! ## O44 -/

theorem accepted_conditionHolds (p : PortId) (off : Bool) (s : State) (c : Condition) :
    conditionHolds (accepted p off s) c = conditionHolds s c := by
  cases p <;> cases c <;> rfl

/-- An acceptance in each state of the port. -/
theorem acceptHook_offHook {p : PortId} {s : State} (hstate : (s.port p).state = .offHook)
    (hacc : (s.port p).accepted = true) : acceptHook p s = s.modPort p fun q =>
      { q with state := .inBreak, accepted := false, stable := 0, breakMs := 0 } := by
  rw [acceptHook_eq (by rw [hstate]; decide), if_pos hacc]
  have hat : ((accepted p false s).port p).state = .offHook := by rw [accepted_port, hstate]
  refine (if_pos hat).trans ?_
  exact modPort_modPort _ _ _ _

theorem acceptHook_up {p : PortId} {s : State} (hfed : (s.port p).state ≠ .unfed) (hacc : (s.port p).accepted = false) :
    acceptHook p s = acceptOffHook p (accepted p true s) := by
  rw [acceptHook_eq hfed, hacc]
  rfl

theorem acceptOffHook_onHook {p : PortId} {s : State} (h : (s.port p).state = .onHook) : acceptOffHook p s = liftPort p s := by
  rw [acceptOffHook, h]

theorem acceptOffHook_ringing {p : PortId} {s : State} (h : (s.port p).state = .ringing) :
    acceptOffHook p s = liftPort p (s.countPort p fun c => { c with answers := satInc c.answers }) := by
  rw [acceptOffHook, h]

theorem acceptOffHook_inBreak {p : PortId} {s : State} (h : (s.port p).state = .inBreak) :
    acceptOffHook p s = breakEnds p s := by
  rw [acceptOffHook, h]

/-- R105: the state of a port after a break too long for a pulse. -/
def flashed (p : PortId) (s : State) : State :=
  (s.modPort p fun q => { q with state := .offHook, pulses := 0, interdigitMs := 0 }).countPort p fun c =>
    { c with flashes := satInc c.flashes }

theorem breakEnds_eq (p : PortId) (s : State) : breakEnds p s =
    if (s.port p).breakMs ≤ 100 then
      s.modPort p fun q => { q with state := .offHook, pulses := min (q.pulses + 1) 255, interdigitMs := 0 }
    else raise (.plain .flash) (flashed p s) := rfl

theorem flashed_conditionHolds {p : PortId} {s : State} (h : (s.port p).state = .inBreak) (c : Condition) :
    conditionHolds (flashed p s) c = conditionHolds s c := by
  rw [flashed, countPort_conditionHolds, modPort_conditionHolds]
  split
  · subst_vars
    rw [offHook_conditionHolds, PhonePort.hookCode, PhonePort.hookCode, h]
  · rfl

theorem exec_hook (p : PortId) (s : State) : exec (.hookAcceptance p) s = .next (takeDue (.hook p) (expired p s)) := rfl

theorem expired_hookAcceptance {p : PortId} {s : State} (h : s.due.Nodup) :
    exec (.hookAcceptance p) (expired p s) = exec (.hookAcceptance p) s := by
  have hgone := fun d => mem_expired_due (p := p) h d
  rw [exec_hook, exec_hook]
  rw [show expired p (expired p s) = expired p s by
    rw [expired, takeDue_of_not_mem (d := .breakPulses p) fun hd => ((hgone _).mp hd).2.2.1 rfl,
      takeDue_of_not_mem (d := .hangUp p) fun hd => ((hgone _).mp hd).2.1 rfl,
      takeDue_of_not_mem fun hd => ((hgone _).mp hd).1 rfl]]

/-- An on-hook that falls together with the expiry that completes the pending pulses. -/
theorem expired_of_offHook {p : PortId} {s : State} (hdigit : .interdigit p ∈ s.due) (hstate : (s.port p).state = .offHook)
    (hpulses : 1 ≤ (s.port p).pulses) : ∃ x, expired p s = completeDigit p (s.setDue x) := by
  have hnotBreak : ∀ t : State, (t.port p).state = .offHook → (t.port p).state ≠ .inBreak := fun t h => by rw [h]; decide
  have hbreak : ∃ x, takeDue (.breakPulses p) s = s.setDue x := by
    by_cases hd : .breakPulses p ∈ s.due
    · refine ⟨_, (takeDue_of_mem hd).trans (if_neg fun h => ?_)⟩
      exact hnotBreak s hstate h.1
    · exact ⟨s.due, takeDue_of_not_mem hd⟩
  obtain ⟨x, hx⟩ := hbreak
  have hhang : ∃ y, takeDue (.hangUp p) (s.setDue x) = s.setDue y := by
    by_cases hd : .hangUp p ∈ (s.setDue x).due
    · refine ⟨_, (takeDue_of_mem hd).trans (if_neg fun h => ?_)⟩
      exact hnotBreak s hstate h
    · exact ⟨x, takeDue_of_not_mem hd⟩
  obtain ⟨y, hy⟩ := hhang
  have hmem : Due.interdigit p ∈ (s.setDue y).due := by
    rw [← hy, hangUp_due, ← hx, breakPulses_due]
    have hother : Due.interdigit p ≠ .hangUp p ∧ Due.interdigit p ≠ .breakPulses p := ⟨nofun, nofun⟩
    exact (List.mem_erase_of_ne hother.1).mpr ((List.mem_erase_of_ne hother.2).mpr hdigit)
  refine ⟨(s.setDue y).due.erase (.interdigit p), ?_⟩
  rw [expired, hx, hy, takeDue_of_mem hmem]
  exact if_pos ⟨hstate, hpulses⟩

theorem Quiet.setDue {s t : State} (h : Quiet s t) (x : List Due) : Quiet (s.setDue x) (t.setDue x) := { h with due := rfl }

/-- An occurrence raised before a step of the port is taken with it. -/
theorem raise_modPort_raised (e : Event) (s : State) (p : PortId) (f : PhonePort → PhonePort) (x : List Due) :
    Raised [e] ((s.modPort p f).setDue x) (((raise e s).setDue x).modPort p f) := by
  have hbefore : Untold ((s.modPort p f).setDue x) s := .same rfl rfl rfl rfl
  have hafter : Untold (raise e s) (((raise e s).setDue x).modPort p f) := .same rfl rfl rfl rfl
  have htold := hbefore.then ((raise_tells e s).trans hafter)
  exact htold.raised (.one e) (((raise_quiet e s).modPort p f).setDue x)

theorem dialled_broken (p : PortId) (s : State) (x : List Due) :
    ((dialled p s).modPort p fun q => { q with state := .inBreak, accepted := false, stable := 0, breakMs := 0 }).setDue x =
      (({ s with due := x } : State).modPort p fun q =>
        { q with state := .inBreak, accepted := false, stable := 0, breakMs := 0, pulses := 0
                 digits := q.digits ++ [q.pulses % 10] }).countPort p fun n => { n with digits := satInc n.digits } := by
  cases p <;> rfl

theorem flashed_untold (p : PortId) (s : State) : Untold s (flashed p s) := .same rfl rfl rfl rfl

/-- An accepted off-hook of a phone that is on the hook. -/
theorem acceptHook_onHook {p : PortId} {u : State} (hstate : (u.port p).state = .onHook) (hacc : (u.port p).accepted = false) :
    EdgesCounted u (acceptHook p u) ∧ Raised [.plain .hook]
      ((u.modPort p fun q => { q with state := .offHook, accepted := true, stable := 0, pulses := 0,
                                      interdigitMs := 0, ring := none }).countPort p fun c =>
        { c with lifts := satInc c.lifts }) (acceptHook p u) := by
  have hat : ((accepted p true u).port p).state = .onHook := by rw [accepted_port]; exact hstate
  rw [acceptHook_up (by rw [hstate]; decide) hacc, acceptOffHook_onHook hat]
  obtain ⟨hedges, hraised⟩ := liftPort_spec (accepted_enters p true u) (by rw [PhonePort.hookCode, hat]; rfl)
    (accepted_conditionHolds p true u)
  refine ⟨hedges, ?_⟩
  rw [lifted, accepted, modPort_modPort] at hraised
  exact hraised

/-- An accepted off-hook of a phone that rings. -/
theorem acceptHook_ringing {p : PortId} {u : State} (hstate : (u.port p).state = .ringing)
    (hacc : (u.port p).accepted = false) :
    EdgesCounted u (acceptHook p u) ∧ Raised [.plain .hook]
      ((u.modPort p fun q => { q with state := .offHook, accepted := true, stable := 0, pulses := 0,
                                      interdigitMs := 0, ring := none }).countPort p fun c =>
        { c with lifts := satInc c.lifts, answers := satInc c.answers }) (acceptHook p u) := by
  have hat : ((accepted p true u).port p).state = .ringing := by rw [accepted_port]; exact hstate
  rw [acceptHook_up (by rw [hstate]; decide) hacc, acceptOffHook_ringing hat]
  have hcounted : Enters [] u ((accepted p true u).countPort p fun c => { c with answers := satInc c.answers }) :=
    (accepted_enters p true u).andUntold (.countPort _ _ _) fun c => countPort_conditionHolds _ _ _ c
  have hdown : (((accepted p true u).port p).hookCode == 1) = false := by rw [PhonePort.hookCode, hat]; rfl
  obtain ⟨hedges, hraised⟩ := liftPort_spec hcounted hdown fun c =>
    (countPort_conditionHolds _ _ _ c).trans (accepted_conditionHolds p true u c)
  refine ⟨hedges, ?_⟩
  rw [lifted, accepted, countPort_lifted] at hraised
  exact hraised

/-- An accepted off-hook that ends a break: a pulse. -/
theorem acceptHook_pulse {p : PortId} {u : State} (hstate : (u.port p).state = .inBreak) (hacc : (u.port p).accepted = false)
    (hshort : (u.port p).breakMs ≤ 100) : acceptHook p u = u.modPort p fun q =>
      { q with state := .offHook, accepted := true, stable := 0, pulses := min (q.pulses + 1) 255, interdigitMs := 0 } := by
  have hat : ((accepted p true u).port p).state = .inBreak := by rw [accepted_port]; exact hstate
  rw [acceptHook_up (by rw [hstate]; decide) hacc, acceptOffHook_inBreak hat, breakEnds_eq,
    if_pos (by rw [accepted_port]; exact hshort), accepted, modPort_modPort]

/-- An accepted off-hook that ends a break: a flash. -/
theorem acceptHook_flash {p : PortId} {u : State} (hstate : (u.port p).state = .inBreak) (hacc : (u.port p).accepted = false)
    (hlong : 100 < (u.port p).breakMs) :
    EdgesCounted u (acceptHook p u) ∧ Raised [.plain .flash]
      ((u.modPort p fun q => { q with state := .offHook, accepted := true, stable := 0, pulses := 0,
                                      interdigitMs := 0 }).countPort p fun c =>
        { c with flashes := satInc c.flashes }) (acceptHook p u) := by
  have hat : ((accepted p true u).port p).state = .inBreak := by rw [accepted_port]; exact hstate
  rw [acceptHook_up (by rw [hstate]; decide) hacc, acceptOffHook_inBreak hat, breakEnds_eq,
    if_neg (by rw [accepted_port]; exact Nat.not_le.mpr hlong)]
  have henters := ((accepted_enters p true u).andUntold (flashed_untold p _) (flashed_conditionHolds hat)).andRaise
    (.plain .flash)
  refine ⟨henters.edgesCounted, ?_⟩
  have hbase : flashed p (accepted p true u) = (u.modPort p fun q =>
      { q with state := .offHook, accepted := true, stable := 0, pulses := 0, interdigitMs := 0 }).countPort p fun c =>
        { c with flashes := satInc c.flashes } := by
    rw [flashed, accepted, modPort_modPort]
  rw [← hbase]
  exact raise_raised _ _

/-- A port whose digit has been completed before an on-hook of the same tick opens its break. -/
theorem acceptHook_dialled (p : PortId) (w : State) (y : List Due) (hstate : (w.port p).state = .offHook)
    (hacc : (w.port p).accepted = true) : Raised [.plain .digit]
      ((({ w with due := y } : State).modPort p fun q =>
        { q with state := .inBreak, accepted := false, stable := 0, breakMs := 0, pulses := 0
                 digits := q.digits ++ [q.pulses % 10] }).countPort p fun n => { n with digits := satInc n.digits })
      (acceptHook p ((raise (.plain .digit) (dialled p w)).setDue y)) := by
  have hdialled : (dialled p w).port p = { w.port p with pulses := 0, digits := (w.port p).digits ++ [(w.port p).pulses % 10] } :=
    State.modPort_port_same w p fun q => { q with pulses := 0, digits := q.digits ++ [q.pulses % 10] }
  have hport : ((raise (.plain .digit) (dialled p w)).setDue y).port p = (dialled p w).port p :=
    congrArg (fun f : Phone => f.ports.get p) (raise_quiet _ _).phone
  rw [hdialled] at hport
  rw [acceptHook_offHook (by rw [hport]; exact hstate) (by rw [hport]; exact hacc), ← dialled_broken]
  exact raise_modPort_raised _ _ _ _ _

theorem EdgesCounted.of_dueTaken {d : Due} {s t : State} (h : EdgesCounted (dueTaken d s) t) : EdgesCounted s t := by
  intro i c hsource
  cases c <;> exact h i _ hsource

/-- Settles O44: an acceptance in each state of the port, and with an expiry due at the same tick. -/
theorem hookAcceptances : Obligations.HookAcceptances := by
  unfold Obligations.HookAcceptances
  refine ⟨?_, ?_, ?_⟩
  · intro p s hhook hbreak hhang hdigit u q
    have hexec : exec (.hookAcceptance p) s = .next (acceptHook p u) := exec_hookAcceptance hhook hbreak hhang hdigit
    have hq : u.port p = q := rfl
    have hedges : ∀ t, EdgesCounted u t → EdgesCounted s t := fun t h => h.of_dueTaken
    clear_value u q
    subst hq
    rw [hexec]
    refine ⟨fun hstate hacc => ⟨_, rfl, (acceptHook_onHook hstate hacc).imp_left (hedges _)⟩, fun hstate hacc => ⟨_, rfl, (acceptHook_ringing hstate hacc).imp_left (hedges _)⟩,
      fun hstate hacc => congrArg Host.Outcome.next (acceptHook_offHook hstate hacc),
      fun hstate hacc hshort => congrArg Host.Outcome.next (acceptHook_pulse hstate hacc hshort),
      fun hstate hacc hlong => ⟨_, rfl, (acceptHook_flash hstate hacc hlong).imp_left (hedges _)⟩,
      fun hstate => congrArg Host.Outcome.next (if_pos hstate)⟩
  · intro p s hhook hnodup
    have hgone := fun d => mem_expired_due (p := p) hnodup d
    exact ⟨_, _, expired p s, rfl, rfl, rfl, (hgone (.hook p)).mpr ⟨nofun, nofun, nofun, hhook⟩, fun hd => ((hgone _).mp hd).2.2.1 rfl,
      fun hd => ((hgone _).mp hd).2.1 rfl, fun hd => ((hgone _).mp hd).1 rfl, (expired_hookAcceptance hnodup).symm⟩
  · intro p s hhook hdigit hnodup hstate hacc hpulses hten hroom
    have hgone := fun d => mem_expired_due (p := p) hnodup d
    have hnodup' : (expired p s).due.Nodup := by
      rw [expired_due]
      exact ((hnodup.erase _).erase _).erase _
    obtain ⟨x, hx⟩ := expired_of_offHook hdigit hstate hpulses
    rw [completeDigit_of_room (s := s.setDue x) hpulses hten hroom] at hx
    refine ⟨_, exec_hook p s, ?_, ?_, ?_⟩
    · rw [hookStep_due]
      exact List.count_eq_zero.mpr fun hd => ((hgone _).mp (List.mem_of_mem_erase hd)).1 rfl
    · rw [hookStep_due]
      exact List.count_eq_zero.mpr hnodup'.not_mem_erase
    · rw [hookStep_due, takeDue_of_mem ((hgone (.hook p)).mpr ⟨nofun, nofun, nofun, hhook⟩)]
      show Raised _ _ (acceptHook p ((expired p s).setDue _))
      generalize (expired p s).due.erase (.hook p) = y
      rw [hx]
      exact acceptHook_dialled p (s.setDue x) y hstate hacc

/-! ## O45 -/

/-- The two expiries that complete the pending pulses. -/
theorem exec_expiry {c : Instr} {d : Due} {p : PortId} {s : State}
    (h : (c = .breakPulsesComplete p ∧ d = .breakPulses p ∧ (s.port p).state = .inBreak) ∨
      (c = .interdigitExpiry p ∧ d = .interdigit p ∧ (s.port p).state = .offHook)) (hd : d ∈ s.due) :
    exec c s = .next (if 0 < (s.port p).pulses then completeDigit p (dueTaken d s) else dueTaken d s) := by
  rcases h with ⟨rfl, rfl, hstate⟩ | ⟨rfl, rfl, hstate⟩
  · rw [exec_due rfl hd]
    show Host.Outcome.next (breakPulsesStep p (dueTaken (.breakPulses p) s)) = _
    refine congrArg Host.Outcome.next (ite_congr (eq_iff_iff.mpr ?_) (fun _ => rfl) fun _ => rfl)
    exact and_iff_right hstate
  · rw [exec_due rfl hd]
    show Host.Outcome.next (interdigitStep p (dueTaken (.interdigit p) s)) = _
    refine congrArg Host.Outcome.next (ite_congr (eq_iff_iff.mpr ?_) (fun _ => rfl) fun _ => rfl)
    exact and_iff_right hstate

theorem exec_hangUp {p : PortId} {s : State} (hd : .hangUp p ∈ s.due) (hstate : (s.port p).state = .inBreak) :
    exec (.hangUp p) s = .next (raise (.plain .hook)
      (((dueTaken (.hangUp p) s).modPort p fun q => { q with state := .onHook }).countPort p fun c =>
        { c with hangUps := satInc c.hangUps })) := by
  rw [exec_due (d := .hangUp p) rfl hd]
  exact congrArg Host.Outcome.next (if_pos hstate)

/-- Settles O45: an expiry by the number of pulses and the room for a digit; a hang-up. -/
theorem digitsAndHangUps : Obligations.DigitsAndHangUps := by
  unfold Obligations.DigitsAndHangUps
  refine ⟨fun c d p s hcase hd => ?_, fun p s hd hstate => ⟨_, exec_hangUp hd hstate, raise_raised _ _⟩⟩
  have hexec := exec_expiry hcase hd
  intro u q
  have hport : u.port p = q := rfl
  refine ⟨fun h h' hroom => ?_, fun h h' hfull => ?_, fun h => ?_, fun h => ?_⟩
  · rw [if_pos (show 0 < q.pulses from h), completeDigit_of_room (s := u) h h' hroom] at hexec
    exact ⟨_, hexec, raise_raised _ _⟩
  · rw [if_pos (show 0 < q.pulses from h), completeDigit_of_full (s := u) h h' hfull] at hexec
    exact hexec
  · rw [if_pos (show 0 < q.pulses by omega), completeDigit_of_many (s := u) h] at hexec
    exact hexec
  · rw [if_neg (show ¬ 0 < q.pulses by omega)] at hexec
    exact hexec

end Sys2Proof.Machine
end

section
/-! PROOFS. Ringing and the ports' requests (R108 to R113). The phases of a cadence entry are numbered from 0 in order; a
ring moves along them, passing over those of value 0, and a pass ends behind the last. -/

namespace Sys2Proof.Machine

/-! ## The phases of an entry -/

/-- A ring in the phase numbered `k` of its entry, at the phase's start. -/
def ringAt (r : Ring) (k : Nat) : Ring := { r with segment := k / 2 + 1, onPhase := decide (k % 2 = 0), ms := 0 }

/-- The phases of the entry that a ring plays. -/
def phasesOf (table : List (List Segment)) (r : Ring) : List Nat := ringPhases (table.getD r.entry [])

theorem length_phases (gs : List Segment) : (gs.flatMap fun g => [g.on, g.off]).length = 2 * gs.length := by
  rw [List.length_flatMap]
  simp [Nat.mul_comm]

theorem phasesOf_length (table : List (List Segment)) (r : Ring) : (phasesOf table r).length = 2 * segmentCount table r := by
  rw [phasesOf, ringPhases, length_phases, segmentCount, cadenceList_eq]

theorem phasesOf_le_eight {table : List (List Segment)} {r : Ring} (h : (table.getD r.entry []).length ≤ 4) :
    (phasesOf table r).length ≤ 8 := by
  have hle : (segments (table.getD r.entry [])).length ≤ (table.getD r.entry []).length :=
    (List.takeWhile_prefix _).length_le
  rw [phasesOf, ringPhases, length_phases]
  omega

theorem getD_phases_even (gs : List Segment) (i : Nat) :
    (gs.flatMap fun g => [g.on, g.off]).getD (2 * i) 0 = (gs.map (·.on)).getD i 0 := by
  induction gs generalizing i with
  | nil => rfl
  | cons g gs ih =>
    cases i with
    | zero => rfl
    | succ i => simpa [Nat.mul_succ] using ih i

theorem getD_phases_odd (gs : List Segment) (i : Nat) :
    (gs.flatMap fun g => [g.on, g.off]).getD (2 * i + 1) 0 = (gs.map (·.off)).getD i 0 := by
  induction gs generalizing i with
  | nil => rfl
  | cons g gs ih =>
    cases i with
    | zero => rfl
    | succ i => simpa [Nat.mul_succ] using ih i

theorem ringSegment_ringAt (table : List (List Segment)) (r : Ring) (k : Nat) :
    ringSegment table (ringAt r k) = (segments (table.getD r.entry []))[k / 2]? := by
  rw [ringSegment, cadenceList_eq]
  rfl

/-- R110: how long the phase numbered `k` lasts. -/
theorem phaseLength_ringAt (table : List (List Segment)) (r : Ring) (k : Nat) :
    phaseLength table (ringAt r k) = 10 * (phasesOf table r).getD k 0 := by
  rw [phaseLength, ringSegment_ringAt, phasesOf, ringPhases]
  generalize segments (table.getD r.entry []) = gs
  rcases Nat.even_or_odd' k with ⟨i, rfl | rfl⟩
  · rw [getD_phases_even, show 2 * i / 2 = i by omega, List.getD_eq_getElem?_getD, List.getElem?_map]
    cases gs[i]? with
    | none => rfl
    | some g => simp [ringAt]
  · rw [getD_phases_odd, show (2 * i + 1) / 2 = i by omega, List.getD_eq_getElem?_getD, List.getElem?_map]
    cases gs[i]? with
    | none => rfl
    | some g => simp [ringAt, Nat.add_mod]

/-! ## From phase to phase -/

/-- R110: a ring whose pass has ended. -/
def passEnded (r : Ring) : Option Ring :=
  if r.repeats ≠ 0 ∧ satInc r.passes = r.repeats then none else some (ringAt { r with passes := satInc r.passes } 0)

/-- R110: the phase that follows the one numbered `k`. -/
theorem nextPhase_ringAt {table : List (List Segment)} {r : Ring} {k : Nat}
    (h : k % 2 = 0 → k < (phasesOf table r).length) : nextPhase table (ringAt r k) =
      if k + 1 < (phasesOf table r).length then some (ringAt r (k + 1)) else passEnded r := by
  have hlen := phasesOf_length table r
  have hcount : segmentCount table (ringAt r k) = segmentCount table r := rfl
  rcases Nat.even_or_odd' k with ⟨i, rfl | rfl⟩
  · have hlt := h (by omega)
    rw [nextPhase, if_pos (show (ringAt r (2 * i)).onPhase = true by simp [ringAt]), if_pos (by omega)]
    simp [ringAt, Nat.add_mod]
    omega
  · rw [nextPhase, if_neg (show ¬ (ringAt r (2 * i + 1)).onPhase = true by simp [ringAt, Nat.add_mod]), hcount]
    by_cases hlast : 2 * i + 1 + 1 < (phasesOf table r).length
    · rw [if_pos hlast, if_pos (show (ringAt r (2 * i + 1)).segment < _ by simp only [ringAt]; omega)]
      simp [ringAt]
      omega
    · rw [if_neg hlast, if_neg (show ¬ (ringAt r (2 * i + 1)).segment < _ by simp only [ringAt]; omega)]
      rfl

theorem skipEmpty_none (table : List (List Segment)) (n : Nat) : skipEmpty table n none = none := by
  cases n <;> rfl

/-- Phases of value 0 are passed over up to the first that lasts any time. -/
theorem skipEmpty_to {table : List (List Segment)} {r : Ring} {n k j : Nat} (hpos : 0 < (phasesOf table r).getD (k + j) 0)
    (hzero : ∀ i < j, (phasesOf table r).getD (k + i) 0 = 0) (hn : j ≤ n) :
    skipEmpty table n (some (ringAt r k)) = some (ringAt r (k + j)) := by
  have hlt : k + j < (phasesOf table r).length := by
    by_contra hge
    rw [List.getD_eq_default _ _ (Nat.not_lt.mp hge)] at hpos
    exact Nat.lt_irrefl 0 hpos
  induction j generalizing k n with
  | zero =>
    cases n with
    | zero => rfl
    | succ n =>
      rw [skipEmpty, phaseLength_ringAt, if_neg]
      · rfl
      · simpa using Nat.pos_iff_ne_zero.mp hpos
  | succ j ih =>
    obtain ⟨n, rfl⟩ : ∃ m, n = m + 1 := ⟨n - 1, by omega⟩
    have hfirst := hzero 0 (Nat.succ_pos j)
    rw [skipEmpty, phaseLength_ringAt, if_pos (by rw [show k = k + 0 from rfl, hfirst]), nextPhase_ringAt (fun _ => by omega),
      if_pos (by omega)]
    rw [show k + (j + 1) = k + 1 + j by omega] at hpos hlt ⊢
    exact ih hpos (fun i hi => by rw [show k + 1 + i = k + (i + 1) by omega]; exact hzero _ (by omega)) (by omega) hlt

/-- A pass of which no phase is left that lasts any time ends. -/
theorem skipEmpty_pass {table : List (List Segment)} {r : Ring} {n k : Nat}
    (hzero : ∀ i, k ≤ i → (phasesOf table r).getD i 0 = 0) (hk : k < (phasesOf table r).length)
    (hn : (phasesOf table r).length - k ≤ n) :
    skipEmpty table n (some (ringAt r k)) = skipEmpty table (n - ((phasesOf table r).length - k)) (passEnded r) := by
  obtain ⟨m, hm⟩ : ∃ m, (phasesOf table r).length - k = m + 1 := ⟨(phasesOf table r).length - k - 1, by omega⟩
  induction m generalizing k n with
  | zero =>
    obtain ⟨n, rfl⟩ : ∃ i, n = i + 1 := ⟨n - 1, by omega⟩
    rw [skipEmpty, phaseLength_ringAt, if_pos (by rw [hzero k (Nat.le_refl k)]), nextPhase_ringAt fun _ => hk, if_neg (by omega), hm]
    rfl
  | succ m ih =>
    obtain ⟨n, rfl⟩ : ∃ i, n = i + 1 := ⟨n - 1, by omega⟩
    rw [skipEmpty, phaseLength_ringAt, if_pos (by rw [hzero k (Nat.le_refl k)]), nextPhase_ringAt fun _ => hk, if_pos (by omega),
      ih (fun i hi => hzero i (by omega)) (by omega) (by omega) (by omega)]
    congr 1
    omega

/-- R109: a ring starts in the first phase of its entry that lasts any time. -/
theorem startRing_eq {table : List (List Segment)} {entry repeats k : Nat} (h4 : (table.getD entry []).length ≤ 4)
    (hk : FirstPhase (ringPhases (table.getD entry [])) k) : startRing table entry repeats =
      some { entry := entry, repeats := repeats, segment := k / 2 + 1, onPhase := decide (k % 2 = 0), ms := 0, passes := 0 } := by
  obtain ⟨hpos, hzero⟩ := hk
  let r : Ring := { entry := entry, repeats := repeats, segment := 1, onPhase := true, ms := 0, passes := 0 }
  have hlen : (phasesOf table r).length ≤ 8 := phasesOf_le_eight h4
  have hlt : k < (phasesOf table r).length := by
    by_contra hge
    have hdefault : (ringPhases (table.getD entry [])).getD k 0 = 0 := List.getD_eq_default _ _ (Nat.not_lt.mp hge)
    exact Nat.ne_of_gt hpos hdefault
  have hskip := skipEmpty_to (table := table) (r := r) (n := 8) (k := 0) (j := k) (by rw [Nat.zero_add]; exact hpos)
    (fun i hi => by rw [Nat.zero_add]; exact hzero i hi) (by omega)
  rw [Nat.zero_add] at hskip
  exact hskip

/-- The number of the phase that a ring is in. -/
def phaseNumber (r : Ring) : Nat := 2 * (r.segment - 1) + if r.onPhase then 0 else 1

theorem ringAt_phaseNumber {r : Ring} (h : 1 ≤ r.segment) : ringAt r (phaseNumber r) = { r with ms := 0 } := by
  obtain ⟨i, hi⟩ : ∃ i, r.segment = i + 1 := ⟨r.segment - 1, by omega⟩
  rw [ringAt, phaseNumber]
  cases hphase : r.onPhase <;> simp only [hi, Nat.add_sub_cancel, if_true, Bool.false_eq_true, if_false, Nat.add_zero]
  · rw [show (2 * i + 1) / 2 = i by omega, show (2 * i + 1) % 2 = 1 by omega]
    simp [← hphase, ← hi]
  · rw [show 2 * i / 2 = i by omega, show 2 * i % 2 = 0 by omega]
    simp [← hphase, ← hi]

/-- R110: what follows the phase that a ring is in. -/
theorem advanceRing_eq {table : List (List Segment)} {r : Ring} (h : 1 ≤ r.segment)
    (hon : r.onPhase = true → r.segment ≤ segmentCount table r) : advanceRing table r = skipEmpty table 8
      (if phaseNumber r + 1 < (phasesOf table r).length then some (ringAt r (phaseNumber r + 1)) else passEnded r) := by
  have hsame : nextPhase table r = nextPhase table (ringAt r (phaseNumber r)) := by
    rw [ringAt_phaseNumber h]
    rfl
  rw [advanceRing, hsame, nextPhase_ringAt fun heven => ?_]
  have hlen := phasesOf_length table r
  rw [phaseNumber] at heven ⊢
  cases hphase : r.onPhase
  · rw [hphase] at heven
    simp only [Bool.false_eq_true, if_false] at heven
    omega
  · have hle := hon hphase
    simp only [if_true]
    omega

/-- R110: the next phase of the pass that lasts any time follows. -/
theorem advanceRing_next {table : List (List Segment)} {r : Ring} {k : Nat} (h : 1 ≤ r.segment)
    (hon : r.onPhase = true → r.segment ≤ segmentCount table r) (h8 : (phasesOf table r).length ≤ 8)
    (hk : FirstPhase ((phasesOf table r).drop (phaseNumber r + 1)) k) :
    advanceRing table r = some (ringAt r (phaseNumber r + 1 + k)) := by
  obtain ⟨hpos, hzero⟩ := hk
  have hdrop : ∀ i, ((phasesOf table r).drop (phaseNumber r + 1)).getD i 0 = (phasesOf table r).getD (phaseNumber r + 1 + i) 0 := by
    intro i
    rw [List.getD_eq_getElem?_getD, List.getElem?_drop, ← List.getD_eq_getElem?_getD]
  rw [hdrop] at hpos
  have hlt : phaseNumber r + 1 + k < (phasesOf table r).length := by
    by_contra hge
    exact Nat.ne_of_gt hpos (List.getD_eq_default _ _ (Nat.not_lt.mp hge))
  rw [advanceRing_eq h hon, if_pos (by omega)]
  exact skipEmpty_to hpos (fun i hi => hdrop i ▸ hzero i hi) (by omega)

/-- R110: a pass of which no phase is left that lasts any time ends; as many more phases can be passed over as the next pass
begins with. -/
theorem advanceRing_pass {table : List (List Segment)} {r : Ring} (h : 1 ≤ r.segment)
    (hon : r.onPhase = true → r.segment ≤ segmentCount table r) (h8 : (phasesOf table r).length ≤ 8)
    (hleft : ∀ x ∈ (phasesOf table r).drop (phaseNumber r + 1), x = 0) :
    ∃ n, advanceRing table r = skipEmpty table n (passEnded r) ∧ ∀ k, 0 < (phasesOf table r).getD k 0 → k ≤ n := by
  have hzero : ∀ i, phaseNumber r + 1 ≤ i → (phasesOf table r).getD i 0 = 0 := by
    intro i hi
    rcases Nat.lt_or_ge i (phasesOf table r).length with hlt | hge
    · rw [List.getD_eq_getElem _ _ hlt]
      exact hleft _ (List.mem_drop_iff_getElem.mpr ⟨i - (phaseNumber r + 1), by omega, by congr 1; omega⟩)
    · exact List.getD_eq_default _ _ hge
  have hbefore : ∀ k, 0 < (phasesOf table r).getD k 0 → k ≤ phaseNumber r ∧ k < (phasesOf table r).length := by
    intro k hpos
    refine ⟨?_, ?_⟩
    · by_contra hgt
      exact Nat.ne_of_gt hpos (hzero k (by omega))
    · by_contra hge
      exact Nat.ne_of_gt hpos (List.getD_eq_default _ _ (Nat.not_lt.mp hge))
  rw [advanceRing_eq h hon]
  split
  · rename_i hlt
    refine ⟨_, skipEmpty_pass hzero hlt (by omega), fun k hpos => ?_⟩
    have hk := hbefore k hpos
    omega
  · exact ⟨8, rfl, fun k hpos => by have hk := hbefore k hpos; omega⟩

/-! ## O46 -/

theorem exec_ringPhaseEnd {p : PortId} {r : Ring} {s : State} (hd : .ringPhase p ∈ s.due) (hring : (s.port p).ring = some r) :
    (∀ x, advanceRing s.phone.cadence r = some x → exec (.ringPhaseEnd p) s =
      .next ((dueTaken (.ringPhase p) s).modPort p fun q => { q with ring := some x })) ∧
    (advanceRing s.phone.cadence r = none → exec (.ringPhaseEnd p) s =
      .next (raiseRingDone p 0 ((dueTaken (.ringPhase p) s).modPort p fun q => q.endRing .onHook))) := by
  have hport : ((dueTaken (.ringPhase p) s).port p).ring = some r := hring
  have hexec : exec (.ringPhaseEnd p) s = .next (ringPhaseStep p (dueTaken (.ringPhase p) s)) :=
    exec_due (d := .ringPhase p) rfl hd
  have hcadence : (dueTaken (.ringPhase p) s).phone.cadence = s.phone.cadence := rfl
  refine ⟨fun x hx => ?_, fun hx => ?_⟩
  · rw [hexec, ringPhaseStep, hport]
    dsimp only
    rw [hcadence, hx]
  · rw [hexec, ringPhaseStep, hport]
    dsimp only
    rw [hcadence, hx]

theorem raiseRingDone_raised (p : PortId) (s : State) :
    Raised [.withA .ringDone 0]
      ((s.modPort p fun q => { q with state := .onHook, ring := none }).countPort p fun c =>
        { c with ringsCompleted := satInc c.ringsCompleted }) (raiseRingDone p 0 (s.modPort p fun q => q.endRing .onHook)) ∧
    Raised [.withA .ringDone 1]
      ((s.modPort p fun q => { q with state := .onHook, ring := none }).countPort p fun c =>
        { c with ringsStopped := satInc c.ringsStopped }) (raiseRingDone p 1 (s.modPort p fun q => q.endRing .onHook)) :=
  ⟨raise_raised _ _, raise_raised _ _⟩

/-- Settles O46: the phases that follow the one that has ended, those of value 0 passed over. -/
theorem ringPhases_advance : Obligations.RingPhases := by
  unfold Obligations.RingPhases
  intro p r s hd hring hseg hfour hon u phases ended left ringing at_
  obtain ⟨hnext, hdone⟩ := exec_ringPhaseEnd hd hring
  have h8 : (phasesOf s.phone.cadence r).length ≤ 8 := phasesOf_le_eight hfour
  have hon' : r.onPhase = true → r.segment ≤ segmentCount s.phone.cadence r := by
    rw [segmentCount, cadenceList_eq]
    exact hon
  refine ⟨fun k hk => hnext _ (advanceRing_next hseg hon' h8 hk), fun hleft hrep hpass => ?_, fun k hleft hmore hk => ?_⟩
  · obtain ⟨n, hadv, -⟩ := advanceRing_pass hseg hon' h8 hleft
    rw [passEnded, if_pos ⟨hrep, hpass⟩, skipEmpty_none] at hadv
    exact ⟨_, hdone hadv, (raiseRingDone_raised p u).1⟩
  · obtain ⟨n, hadv, hroom⟩ := advanceRing_pass hseg hon' h8 hleft
    have hmore' : ¬ (r.repeats ≠ 0 ∧ satInc r.passes = r.repeats) := fun h => hmore.elim h.1 fun hne => hne h.2
    have hskip := skipEmpty_to (table := s.phone.cadence) (r := { r with passes := satInc r.passes }) (n := n) (k := 0) (j := k)
      (by rw [Nat.zero_add]; exact hk.1) (fun i hi => by rw [Nat.zero_add]; exact hk.2 i hi) (hroom k hk.1)
    rw [passEnded, if_neg hmore', hskip, Nat.zero_add] at hadv
    exact hnext _ hadv

/-! ## O47 -/

theorem portOf_portNum (p : PortId) : portOf (portNum p) = some p := by cases p <;> rfl

theorem cadenceValid_iff (e : List Segment) : cadenceValid e = true ↔ ∃ g ∈ segments e, 0 < g.on := by
  rw [cadenceValid, cadenceList_eq, List.any_eq_true]
  exact exists_congr fun g => and_congr_right fun _ => decide_eq_true_iff

theorem answerRing_of_body {r : Request} {p : PortId} (hbody : r.HasBody 3) (hport : byteAt r.body 0 = portNum p) (s : State) :
    answerRing r s =
      if 7 < byteAt r.body 1 then Answer.refuse .badValue s
      else if (s.port p).state ≠ .onHook then Answer.refuse .busy s
      else if cadenceValid (s.phone.cadence.getD (byteAt r.body 1) []) then
        Answer.accept [] (beginRing p (byteAt r.body 1) (byteAt r.body 2) s)
      else Answer.refuse .badValue s := by
  unfold answerRing
  dsimp only
  rw [bodyIs_iff.mpr hbody, hport, portOf_portNum]
  rfl

theorem answerRingStop_of_body {r : Request} {p : PortId} (hbody : r.HasBody 1) (hport : byteAt r.body 0 = portNum p)
    (s : State) : answerRingStop r s = Answer.accept [] (stopRing p s) := by
  unfold answerRingStop
  rw [bodyIs_iff.mpr hbody, hport, portOf_portNum]
  rfl

theorem answerPortControl_of_body {r : Request} {p : PortId} (hbody : r.HasBody 3) (hport : byteAt r.body 0 = portNum p)
    (s : State) : answerPortControl r s = Answer.accept [] (s.modPort p fun q =>
      { q with muteToLine := byteAt r.body 1 ≠ 0, muteToPhone := byteAt r.body 2 ≠ 0 }) := by
  unfold answerPortControl
  dsimp only
  rw [bodyIs_iff.mpr hbody, hport, portOf_portNum]
  rfl

/-- Settles O47: RING by its checks in their order, RING-STOP and PORT-CONTROL. -/
theorem ringAndPortRequests : Obligations.RingAndPortRequests := by
  unfold Obligations.RingAndPortRequests
  intro r rest p s hport u
  refine ⟨fun asked hbody => ?_, fun asked hbody => ?_, fun asked hbody => ?_⟩
  · have hans := answerRing_of_body hbody hport u
    refine ⟨fun hentry => ?_, fun hentry hstate => ?_, fun hentry hstate hnone => ?_, fun k hentry hstate hsome hfour hk => ?_⟩
    · rw [if_pos hentry] at hans
      exact exec_refused rfl asked hans
    · rw [if_neg (Nat.not_lt.mpr hentry), if_pos hstate] at hans
      exact exec_refused rfl asked hans
    · have hinvalid : ¬ cadenceValid (u.phone.cadence.getD (byteAt r.body 1) []) = true := by
        rw [cadenceValid_iff]
        rintro ⟨g, hg, hpos⟩
        exact Nat.ne_of_gt hpos (hnone g hg)
      rw [if_neg (Nat.not_lt.mpr hentry), if_neg (not_not_intro hstate), if_neg hinvalid] at hans
      exact exec_refused rfl asked hans
    · rw [if_neg (Nat.not_lt.mpr hentry), if_neg (not_not_intro hstate), if_pos ((cadenceValid_iff _).mpr hsome), beginRing,
        startRing_eq hfour hk] at hans
      exact exec_accepted rfl asked hans
  · have hans := answerRingStop_of_body hbody hport u
    refine ⟨fun hstate => ?_, fun hstate => ?_⟩
    · rw [stopRing, if_pos hstate] at hans
      exact ⟨_, exec_accepted rfl asked hans, (raiseRingDone_raised p u).2⟩
    · rw [stopRing, if_neg hstate] at hans
      exact exec_accepted rfl asked hans
  · exact exec_accepted rfl asked (answerPortControl_of_body hbody hport u)

end Sys2Proof.Machine
end

section
/-! PROOFS. The requests that open and close channels (R118 to R120, R92). -/

namespace Sys2Proof.Machine

theorem targetAllowed_iff (b : Bytes) : targetAllowed b = true ↔ byteAt b 5 = 0 ∨ (1 ≤ byteAt b 6 ∧ byteAt b 6 ≤ 6) := by
  rw [targetAllowed, Bool.or_eq_true, Bool.and_eq_true, beq_iff_eq, decide_eq_true_iff, decide_eq_true_iff]

theorem portTaken_iff (p : PortId) (s : State) : portTaken p s = true ↔ (s.record p).call ≠ .free ∨ (s.port p).state = .unfed := by
  have hfed : (!(s.port p).fed) = true ↔ (s.port p).state = .unfed := by
    rw [PhonePort.fed]
    cases (s.port p).state <;> decide
  rw [portTaken, Bool.or_eq_true, hfed]
  cases (s.record p).call <;> simp [Call.isOpen]

theorem roomForCall_iff (s : State) : roomForCall s = true ↔ s.line.state = .run ∧
    200 * (openLines s.voice + 1) ≤ s.rate.txAllowance ∧ 200 * (openLines s.voice + 1) ≤ s.rate.rxAllowance := by
  rw [roomForCall, Bool.and_eq_true, Bool.and_eq_true, decide_eq_true_iff, decide_eq_true_iff, and_assoc, State.inRun, beq_iff_eq]
  rfl

theorem answerOpenLine_of_body {r : Request} {p : PortId} (hbody : r.HasBody 7) (hkind : byteAt r.body 0 = 1)
    (hport : byteAt r.body 1 = portNum p) (s : State) : answerOpenLine r s =
      if decide (15 < byteAt r.body 2) || !targetAllowed r.body then Answer.refuse .badValue s
      else if portTaken p s then Answer.refuse .busy s
      else if (s.record (otherPort p)).call.lineStream = some (byteAt r.body 2) then Answer.refuse .badValue s
      else if roomForCall s then
        Answer.accept [] (openLine p (byteAt r.body 2) (givenTarget r.body s) (givenIdle r.body) s)
      else Answer.refuse .noRoom s := by
  unfold answerOpenLine
  dsimp only
  rw [bodyIs_iff.mpr hbody, hkind, hport, portOf_portNum]
  rfl

theorem answerOpenIntercom_of_body {r : Request} (hbody : r.HasBody 7) (s : State) : answerOpenIntercom r s =
    if portTaken .p1 s || portTaken .p2 s then Answer.refuse .busy s
    else Answer.accept [] (openIntercom (givenIdle r.body) s) := by
  rw [answerOpenIntercom, bodyIs_iff.mpr hbody]
  rfl

theorem answerClose_of_body {r : Request} {p : PortId} (hbody : r.HasBody 1) (hport : byteAt r.body 0 = portNum p) (s : State) :
    answerClose r s = Answer.accept [] (closeRecord p s) := by
  rw [answerClose, bodyIs_iff.mpr hbody, hport, portOf_portNum]
  rfl

theorem closeRecord_of_free {p : PortId} {s : State} (h : (s.record p).call = .free) : closeRecord p s = s := by
  rw [closeRecord, show (s.voice.get p).call = .free from h]

theorem closeRecord_of_line {p : PortId} {c : LineCall} {s : State} (h : (s.record p).call = .line c) :
    closeRecord p s = { s with voice := s.voice.set p { s.record p with call := .free }
                               sch := { s.sch with vq := s.sch.vq.filter fun f => f.port != p } } := by
  rw [closeRecord, show (s.voice.get p).call = .line c from h]
  rfl

theorem closeRecord_of_intercom {p : PortId} {n : Nat} {s : State} (h : (s.record p).call = .intercom n) :
    closeRecord p s = freeRecord (otherPort p) (freeRecord p s) := by
  rw [closeRecord, show (s.voice.get p).call = .intercom n from h]

theorem freeBoth_vq (p : PortId) (s : State) : (freeRecord (otherPort p) (freeRecord p s)).sch.vq = [] := by
  show (s.sch.vq.filter fun f => f.port != p).filter (fun f => f.port != otherPort p) = []
  rw [List.filter_filter, List.filter_eq_nil_iff]
  intro f _
  cases p <;> cases f.port <;> decide

theorem freeBoth_record (p q : PortId) (s : State) :
    (freeRecord (otherPort p) (freeRecord p s)).record q = { s.record q with call := .free } := by
  cases p <;> cases q <;> rfl

/-- Settles O48: an open by its checks in their order, an intercom, and a close by the record's call. -/
theorem channelRequests : Obligations.ChannelRequests := by
  unfold Obligations.ChannelRequests
  refine ⟨?_, ?_, ?_⟩
  · intro r rest p s asked hbody hkind hport u stream n target taken
    have hans := answerOpenLine_of_body hbody hkind hport u
    have htarget : targetAllowed r.body = true ↔ target := targetAllowed_iff r.body
    have htaken : portTaken p u = true ↔ taken := portTaken_iff p u
    have hgood : stream ≤ 15 → target → ¬ (decide (15 < byteAt r.body 2) || !targetAllowed r.body) = true := by
      intro hs ht
      rw [htarget.mpr ht, Bool.not_true, Bool.or_false, decide_eq_true_iff]
      exact Nat.not_lt.mpr hs
    refine ⟨fun hbad => ?_, fun hs ht hbusy => ?_, fun hs ht hfree hsame => ?_, fun hs ht hfree hother hroom => ?_,
      fun hs ht hfree hother hrun htx hrx => ?_⟩
    · have hcheck : (decide (15 < byteAt r.body 2) || !targetAllowed r.body) = true := by
        rw [Bool.or_eq_true, decide_eq_true_iff, Bool.not_eq_true', ← Bool.not_eq_true, htarget]
        exact hbad
      rw [if_pos hcheck] at hans
      exact exec_refused rfl asked hans
    · rw [if_neg (hgood hs ht), if_pos (htaken.mpr hbusy)] at hans
      exact exec_refused rfl asked hans
    · rw [if_neg (hgood hs ht), if_neg (mt htaken.mp hfree), if_pos hsame] at hans
      exact exec_refused rfl asked hans
    · have hno : ¬ roomForCall u = true := by
        rw [roomForCall_iff]
        rintro ⟨hrun, htx, hrx⟩
        rcases hroom with h | h | h
        · exact h hrun
        · exact Nat.not_le.mpr h htx
        · exact Nat.not_le.mpr h hrx
      rw [if_neg (hgood hs ht), if_neg (mt htaken.mp hfree), if_neg hother, if_neg hno] at hans
      exact exec_refused rfl asked hans
    · rw [if_neg (hgood hs ht), if_neg (mt htaken.mp hfree), if_neg hother,
        if_pos ((roomForCall_iff u).mpr ⟨hrun, htx, hrx⟩)] at hans
      exact exec_accepted rfl asked hans
  · intro r rest s asked hbody u ready
    have hans := answerOpenIntercom_of_body hbody u
    have hready : (portTaken .p1 u || portTaken .p2 u) = true ↔ ¬ ready := by
      rw [Bool.or_eq_true, portTaken_iff, portTaken_iff]
      refine ⟨fun h hr => ?_, fun h => ?_⟩
      · have h1 := hr .p1
        have h2 := hr .p2
        tauto
      · by_contra hnone
        refine h fun p => ?_
        cases p <;> tauto
    refine ⟨fun h => ?_, fun h => ?_⟩
    · rw [if_pos (hready.mpr h)] at hans
      exact exec_refused rfl asked hans
    · rw [if_neg (mt hready.mp (not_not_intro h))] at hans
      exact exec_accepted rfl asked hans
  · intro r rest p s asked hbody hport u
    have hans := answerClose_of_body hbody hport u
    refine ⟨fun hcall => ?_, fun c hcall => ?_, fun n hcall => ?_⟩
    · rw [closeRecord_of_free hcall] at hans
      exact exec_accepted rfl asked hans
    · rw [closeRecord_of_line hcall] at hans
      exact exec_accepted rfl asked hans
    · rw [closeRecord_of_intercom hcall] at hans
      exact ⟨_, exec_accepted rfl asked hans, fun q => freeBoth_record p q u, freeBoth_vq p u, rfl⟩

end Sys2Proof.Machine
end

section
/-! PROOFS. A sample frame (R101, R112, R122, R123, R129). -/

namespace Sys2Proof.Machine

/-- R123: a position after one more sample. -/
def positionAfter (n : Nat) : Nat := if n = 79 then 0 else n + 1

/-- R122, R123, R129: a record after one more sample of its port. -/
def sampledRecord (x : Byte) (r : ChannelRecord) : ChannelRecord :=
  match r.call with
  | .free => r
  | .line c => { r with call := .line { c with samples := c.samples ++ [x], position := positionAfter c.position } }
  | .intercom n =>
    { r with call := .intercom (positionAfter n)
             counts := { r.counts with framesPassed := if n = 79 then satInc r.counts.framesPassed else r.counts.framesPassed } }

/-- R122: the frame boundary that a sample makes due. -/
def boundaryOf (p : PortId) (r : ChannelRecord) : List Due :=
  match r.call with
  | .free => []
  | .line c => if c.position = 79 then [.frameBoundary p] else []
  | .intercom _ => []

/-- R129: the voice totals with the block that a sample completes. -/
def passedBlock (r : ChannelRecord) (n : Nat) : Nat := if r.call = .intercom 79 then satInc n else n

/-- The monitor with the total of the blocks passed changed. -/
def countPassed (f : Nat → Nat) (m : Monitor) : Monitor :=
  { m with voice := { m.voice with totals := { m.voice.totals with framesPassed := f m.voice.totals.framesPassed } } }

theorem atEdge_iff (n : Nat) : (n + 1 == Config.frameSamples) = decide (n = 79) := by
  rw [Bool.eq_iff_iff, beq_iff_eq, decide_eq_true_iff, Config.frameSamples]
  omega

theorem takeSample_of_free {p : PortId} {s : State} (x : Byte) (h : (s.record p).call = .free) : takeSample p x s = s := by
  rw [takeSample, recordSample, h]
  cases p <;> rfl

theorem takeSample_of_line {p : PortId} {c : LineCall} {s : State} (x : Byte) (h : (s.record p).call = .line c) :
    takeSample p x s = (s.setRecord p (sampledRecord x (s.record p))).setDue (s.due ++ boundaryOf p (s.record p)) := by
  unfold takeSample recordSample sampledRecord boundaryOf
  simp only [h, atEdge_iff, positionAfter]
  by_cases hedge : c.position = 79
  · simp [hedge]
  · simp [hedge]
    rfl

theorem takeSample_of_intercom {p : PortId} {n : Nat} {s : State} (x : Byte) (h : (s.record p).call = .intercom n) :
    takeSample p x s = { s.setRecord p (sampledRecord x (s.record p)) with
      mon := countPassed (passedBlock (s.record p)) s.mon } := by
  unfold takeSample recordSample sampledRecord passedBlock countPassed
  simp only [h, atEdge_iff, positionAfter]
  by_cases hedge : n = 79
  · subst hedge
    cases p <;> rfl
  · simp [hedge]
    cases p <;> rfl

theorem countPassed_of_not {r : ChannelRecord} (h : r.call ≠ .intercom 79) (m : Monitor) : countPassed (passedBlock r) m = m := by
  have hsame : passedBlock r = fun n => n := funext fun n => if_neg h
  rw [hsame]
  rfl

/-- A sample at a record. -/
theorem takeSample_eq (p : PortId) (x : Byte) (s : State) : takeSample p x s =
    { s with voice := s.voice.set p (sampledRecord x (s.record p))
             due := s.due ++ boundaryOf p (s.record p)
             mon := countPassed (passedBlock (s.record p)) s.mon } := by
  cases hcall : (s.record p).call with
  | free =>
    rw [takeSample_of_free x hcall, sampledRecord, boundaryOf, hcall, countPassed_of_not (by rw [hcall]; nofun)]
    cases p <;> simp [State.record]
  | line c =>
    rw [takeSample_of_line x hcall, countPassed_of_not (by rw [hcall]; nofun)]
    rfl
  | intercom n =>
    rw [takeSample_of_intercom x hcall, boundaryOf, hcall]
    simp
    rfl

/-- R101: the state after a sample frame. -/
theorem sampleStep_eq (one two : PortFrame) (s : State) : sampleStep one two s =
    { s with
      phone := { s.phone with ports := ⟨latchFrame s.phone.ports.one s.voice.one.idle one, latchFrame s.phone.ports.two s.voice.two.idle two⟩ }
      out := { s.out with ports := ⟨portOut s.phone.ports.one s.voice.one s.phone.ports.two.lastSample, portOut s.phone.ports.two s.voice.two s.phone.ports.one.lastSample⟩ }
      voice := ⟨sampledRecord (sampleIn s.phone.ports.one s.voice.one.idle one.sample) s.voice.one, sampledRecord (sampleIn s.phone.ports.two s.voice.two.idle two.sample) s.voice.two⟩
      due := s.due ++ boundaryOf .p1 s.voice.one ++ boundaryOf .p2 s.voice.two
      mon := countPassed (passedBlock s.voice.two) (countPassed (passedBlock s.voice.one) s.mon) } := by
  unfold sampleStep
  dsimp only
  rw [takeSample_eq, takeSample_eq]
  rfl

theorem ringCommand_iff (q : PhonePort) : ringCommand q = true ↔ q.state = .ringing ∧ ∃ r, q.ring = some r ∧ r.onPhase = true := by
  rw [ringCommand, Bool.and_eq_true, beq_iff_eq]
  refine and_congr_right fun _ => ?_
  cases q.ring <;> simp

theorem mem_boundaryOf {p : PortId} {r : ChannelRecord} {d : Due} (h : d ∈ boundaryOf p r) : d = .frameBoundary p := by
  unfold boundaryOf at h
  cases hcall : r.call with
  | free => simp [hcall] at h
  | line c =>
    simp only [hcall] at h
    split at h
    · exact List.mem_singleton.mp h
    · exact absurd h List.not_mem_nil
  | intercom n => simp [hcall] at h

theorem boundaryOf_nodup (p : PortId) (r : ChannelRecord) : (boundaryOf p r).Nodup := by
  unfold boundaryOf
  cases r.call with
  | free => exact List.nodup_nil
  | line c =>
    dsimp only
    split
    · exact List.nodup_singleton _
    · exact List.nodup_nil
  | intercom n => exact List.nodup_nil

/-- The frame boundaries that a sample frame makes due. -/
theorem mem_boundaries (v : Pair ChannelRecord) (d : Due) :
    d ∈ boundaryOf .p1 v.one ++ boundaryOf .p2 v.two → ∃ q, d = .frameBoundary q := by
  intro h
  rcases List.mem_append.mp h with h | h
  · exact ⟨_, mem_boundaryOf h⟩
  · exact ⟨_, mem_boundaryOf h⟩

theorem boundary_mem_iff (p : PortId) (v : Pair ChannelRecord) :
    .frameBoundary p ∈ boundaryOf .p1 v.one ++ boundaryOf .p2 v.two ↔ .frameBoundary p ∈ boundaryOf p (v.get p) := by
  have hother : ∀ q, q ≠ p → .frameBoundary p ∉ boundaryOf q (v.get q) := by
    intro q hq h
    have heq := mem_boundaryOf h
    injection heq with heq
    exact hq heq.symm
  rw [List.mem_append]
  cases p with
  | p1 => exact or_iff_left (hother .p2 nofun)
  | p2 => exact or_iff_right (hother .p1 nofun)

/-- Settles O49: what a sample frame gives each port, and what it makes of each record. -/
theorem sampleFrames : Obligations.SampleFrames := by
  unfold Obligations.SampleFrames
  intro one two s u frame passed
  have hdue : u.due = [] := settle_due_nil s
  have hexec : exec (.sampleFrame one two) s = .next (sampleStep one two u) := rfl
  clear_value u
  have hdues : (sampleStep one two u).due = boundaryOf .p1 u.voice.one ++ boundaryOf .p2 u.voice.two := by
    rw [sampleStep_eq, hdue]
    rfl
  have hrecord : ∀ p, (sampleStep one two u).record p = sampledRecord (passed p) (u.record p) := by
    intro p
    rw [sampleStep_eq]
    cases p <;> rfl
  have hout : ∀ p, (sampleStep one two u).out.ports.get p = portOut (u.port p) (u.record p) (u.port (otherPort p)).lastSample := by
    intro p
    rw [sampleStep_eq]
    cases p <;> rfl
  have hboundary : ∀ p, .frameBoundary p ∈ (sampleStep one two u).due ↔ .frameBoundary p ∈ boundaryOf p (u.record p) := by
    intro p
    rw [hdues]
    exact boundary_mem_iff p u.voice
  refine ⟨_, hexec, fun p => ?_, ?_, fun p => ?_, fun p => ?_, fun p => ?_, fun p hcall => ?_, fun p c hcall => ?_,
    fun p n hcall => ?_, ?_, ?_, ?_, ?_⟩
  · rw [sampleStep_eq]
    cases p <;> rfl
  · rw [sampleStep_eq]
  · rw [hout, portOut, PhonePort.fed]
    cases (u.port p).state <;> rfl
  · rw [hout]
    exact ringCommand_iff _
  · rw [hout, portOut]
    refine ite_congr rfl (fun _ => rfl) fun _ => ?_
    rw [sampleOut]
    cases (u.record p).call with
    | free => rfl
    | line c => cases hchosen : c.chosen <;> simp [hchosen]
    | intercom n => rfl
  · rw [hrecord, hboundary, sampledRecord, boundaryOf, hcall]
    exact ⟨rfl, List.not_mem_nil⟩
  · rw [hrecord, hboundary, sampledRecord, boundaryOf, hcall]
    refine ⟨rfl, ?_⟩
    dsimp only
    split <;> simp_all
  · rw [hrecord, hboundary, sampledRecord, boundaryOf, hcall]
    exact ⟨List.not_mem_nil, rfl⟩
  · rw [hdues]
    exact fun d => mem_boundaries u.voice d
  · rw [hdues]
    refine (boundaryOf_nodup _ _).append (boundaryOf_nodup _ _) fun d hone htwo => ?_
    have heq := (mem_boundaryOf hone).symm.trans (mem_boundaryOf htwo)
    cases heq
  · rw [sampleStep_eq]
    show countPassed (passedBlock u.voice.two) (countPassed (passedBlock u.voice.one) u.mon) =
      countPassed (fun n => passedBlock u.voice.one (passedBlock u.voice.two n)) u.mon
    have hcomm : ∀ n, passedBlock u.voice.two (passedBlock u.voice.one n) = passedBlock u.voice.one (passedBlock u.voice.two n) := by
      intro n
      unfold passedBlock
      split <;> split <;> rfl
    rw [← funext hcomm]
    rfl
  · rw [sampleStep_eq]
    exact ⟨rfl, rfl, rfl, rfl, rfl, rfl, rfl, rfl, rfl, rfl, rfl, rfl, rfl, rfl⟩

end Sys2Proof.Machine
end

section
/-! PROOFS. A frame boundary (R91, R122, R126, R127, R129) and the arrival of a voice frame (R124, R125). -/

namespace Sys2Proof.Machine

/-! ## An occurrence told of twice -/

theorem written_others (all : List Event) {p q : KindSet} (h : ∀ k ≠ Kind.watch, p.has k = q.has k) :
    ((written p all).filter fun e => e.kind != .watch) = written q (all.filter fun e => e.kind != .watch) := by
  induction all generalizing p q with
  | nil => rfl
  | cons e all ih =>
    rw [written, List.filter_append]
    by_cases hew : e.kind = .watch
    · have hnone : ((if logsNow e.kind (p.has e.kind) then [e] else []).filter fun e => e.kind != .watch) = [] := by
        split <;> simp [hew]
      rw [hnone, List.nil_append, List.filter_cons_of_neg (by simp [hew])]
      refine ih fun k hk => ?_
      rw [KindSet.has_insert, h k hk, hew, decide_eq_false (Ne.symm hk), Bool.or_false]
    · rw [List.filter_cons_of_pos (by simp [hew]), written, h _ hew]
      congr 1
      · split <;> simp [hew]
      · refine ih fun k hk => ?_
        rw [KindSet.has_insert, KindSet.has_insert, h k hk]

/-- A kind logged on set, told of once or twice, writes one record at most. -/
theorem Tells.logGains_again {e : Event} (hset : e.kind.logged = .onSet) (hw : e.kind ≠ .watch)
    {hits : Ix4 → WatchSource → Nat} {s t : State} (h : Tells [e, e] hits s t) : LogGains [e] s t := by
  obtain ⟨all, hall, hrest, htold, -⟩ := h.occurs
  obtain ⟨new, hlog, hnew⟩ := hall.log
  have htwice : ([e, e].filter fun e => e.kind != .watch) = [e, e] := by simp [hw]
  refine ⟨new, hlog, ?_, fun r hr hrw => ?_, ?_⟩
  · have hothers : (new.filter fun r => r.kind != .watch).map LogRecord.event =
        (written s.evt.pending all).filter fun e => e.kind != .watch := by
      rw [← hnew, List.filter_map]
      rfl
    rw [hothers, written_others all fun _ _ => rfl, hrest, htwice]
    cases hhas : s.evt.pending.has e.kind <;> simp [written, logsNow, hset, KindSet.has_insert, hhas, hw]
  · have hin : r.event ∈ all := written_subset (p := s.evt.pending) (hnew ▸ List.mem_map_of_mem hr)
    exact (htold _ hin hrw).imp_left fun hmem => by simpa using hmem
  · rw [← List.length_map (f := LogRecord.event), show (new.filter fun r => r.kind == .watch).map LogRecord.event =
      (written s.evt.pending all).filter fun e => e.kind == .watch by rw [← hnew, List.filter_map]; rfl]
    exact written_of_watch _ _

/-! ## The playout tick (R126, R127) -/

/-- The buffer is in PLAYING. -/
def JitterBuffer.plays (b : JitterBuffer) : Bool := b.playing && b.expected.isSome

/-- The expected frame is held. -/
def JitterBuffer.holdsNext (b : JitterBuffer) : Bool := b.held.any fun f => decide (b.expected = some f.seq)

/-- The fifth concealment in a row, with nothing held. -/
def JitterBuffer.runsDry (b : JitterBuffer) : Bool := b.plays && decide (4 ≤ b.conceal) && b.held.isEmpty

theorem playoutTick_filling {target : Nat} {idle : Byte} {b : JitterBuffer} (h : b.plays = false) :
    playoutTick target idle b = tickFilling target idle b := by
  unfold playoutTick
  unfold JitterBuffer.plays at h
  split
  · simp_all
  · rfl
  · rfl

theorem playoutTick_playing {target : Nat} {idle : Byte} {b : JitterBuffer} {e : BitVec 16} (hp : b.playing = true)
    (he : b.expected = some e) : playoutTick target idle b = tickPlaying idle e b := by
  rw [playoutTick, hp, he]

theorem holdsNext_eq {b : JitterBuffer} {e : BitVec 16} (he : b.expected = some e) :
    b.holdsNext = (b.held.find? (·.seq == e)).isSome := by
  rw [Bool.eq_iff_iff, List.find?_isSome, JitterBuffer.holdsNext, he, List.any_eq_true]
  refine exists_congr fun f => and_congr_right fun _ => ?_
  rw [decide_eq_true_iff, beq_iff_eq, Option.some.injEq, eq_comm]

/-- R129: what a playout tick counts. -/
theorem playoutTick_flags (target : Nat) (idle : Byte) (b : JitterBuffer) :
    (playoutTick target idle b).played = (b.plays && b.holdsNext) ∧
    (playoutTick target idle b).conceals = (b.plays && !b.holdsNext) ∧ (playoutTick target idle b).underrun = b.runsDry := by
  cases hp : b.plays with
  | false =>
    rw [playoutTick_filling hp, JitterBuffer.runsDry, hp]
    exact ⟨rfl, rfl, rfl⟩
  | true =>
    obtain ⟨hplaying, hsome⟩ := Bool.and_eq_true_iff.mp hp
    obtain ⟨e, he⟩ := Option.isSome_iff_exists.mp hsome
    rw [playoutTick_playing hplaying he, tickPlaying, holdsNext_eq he, JitterBuffer.runsDry, hp]
    cases hfind : b.held.find? (·.seq == e) with
    | some f =>
      have hheld : b.held.isEmpty = false := by
        cases hb : b.held with
        | nil => simp [hb] at hfind
        | cons => rfl
      simp [hheld]
    | none =>
      dsimp only
      unfold tickAbsent
      dsimp only
      split
      · rename_i h
        simp [show 4 ≤ b.conceal by omega, h.2]
      · rename_i h
        refine ⟨rfl, rfl, ?_⟩
        by_cases hconceal : 4 ≤ b.conceal
        · have hheld : b.held ≠ [] := fun hnil => h ⟨by omega, hnil⟩
          simp [hheld]
        · simp [hconceal]

/-! ## The state after a boundary -/

/-- R122, R129: the call counts after a frame has been formed. -/
def formCounts (run drops : Bool) (n : CallCounts) : CallCounts :=
  { n with
    assembled := satInc n.assembled
    unsent := if run then n.unsent else satInc n.unsent
    vqDrops := if drops then satInc n.vqDrops else n.vqDrops }

/-- R91: the record's VQ frames leave no room for another. -/
def vqFull (p : PortId) (s : State) : Bool := decide (s.line.state = .run) && decide (4 ≤ (vqOf s.sch.vq p).length)

/-- The voice counters and the interval after VQ drops and concealments. -/
def voiceLosses (p : PortId) (drops : Bool) (f : CallCounts → CallCounts) (m : Monitor) : Monitor :=
  { m with
    voice := { m.voice with totals := f m.voice.totals
                            vqDrops := if drops then m.voice.vqDrops.set p (satInc (m.voice.vqDrops.get p)) else m.voice.vqDrops }
    interval := { m.interval with voiceLost := if drops then satInc m.interval.voiceLost else m.interval.voiceLost } }

/-- R122: the call of a record whose samples have formed a frame. -/
def LineCall.afterFrame (c : LineCall) : LineCall := { c with seq := c.seq + 1, samples := [], formed := true }

/-- R91, R122: the state after a frame has been formed, but for VOICE-LOSS. -/
def frameFormed (p : PortId) (c : LineCall) (s : State) : State :=
  { s with
    voice := s.voice.set p { s.record p with call := .line c.afterFrame, counts := formCounts (decide (s.line.state = .run)) (vqFull p s) (s.record p).counts }
    sch := { s.sch with vq := if s.line.state = .run then vqJoined (c.formedFrame p) s.sch.vq else s.sch.vq }
    mon := voiceLosses p (vqFull p s) (formCounts (decide (s.line.state = .run)) (vqFull p s)) s.mon }

theorem formFrame_of_down {p : PortId} {c : LineCall} {s : State} (h : (s.record p).call = .line c) (hrun : s.line.state ≠ .run) :
    formFrame p s = frameFormed p c s := by
  have hin : ¬ s.inRun = true := by rw [State.inRun, beq_iff_eq]; exact hrun
  unfold formFrame
  dsimp only
  rw [h]
  dsimp only
  rw [if_neg hin]
  unfold frameFormed vqFull
  simp only [hrun, decide_false, Bool.false_and, if_false]
  cases p <;> rfl

/-- R91: a VQ drop, but for its occurrence. -/
def vqDropped (p : PortId) (s : State) : State :=
  (countVqDrop p (s.modSch fun x => { x with vq := dropOldestUnstarted p x.vq })).modInterval fun r =>
    { r with voiceLost := satInc r.voiceLost }

/-- R122: a record's frame assembled and counted. -/
def frameAssembled (p : PortId) (c : LineCall) (s : State) : State :=
  (s.setRecord p { s.record p with call := .line c.afterFrame }).countCall p fun n => { n with assembled := satInc n.assembled }

/-- R91: a formed frame joins VQ. -/
def vqAppend (p : PortId) (c : LineCall) (s : State) : State := s.modSch fun x => { x with vq := x.vq ++ [c.formedFrame p] }

theorem formFrame_of_run {p : PortId} {c : LineCall} {s : State} (h : (s.record p).call = .line c) (hrun : s.line.state = .run) :
    formFrame p s = vqAppend p c (if (vqOf s.sch.vq p).length < 4 then frameAssembled p c s
      else raise (.withA .voiceLoss (portNum p)) (vqDropped p (frameAssembled p c s))) := by
  have hin : s.inRun = true := by rw [State.inRun, beq_iff_eq]; exact hrun
  unfold formFrame
  dsimp only
  rw [h]
  dsimp only
  rw [if_pos hin]
  rfl

theorem vqFull_of_run {p : PortId} {s : State} (hrun : s.line.state = .run) :
    vqFull p s = decide (4 ≤ (vqOf s.sch.vq p).length) := by
  rw [vqFull, hrun]
  rfl

theorem vqJoined_room {p : PortId} {c : LineCall} {vq : List VqFrame} (h : (vqOf vq p).length < 4) :
    vqJoined (c.formedFrame p) vq = vq ++ [c.formedFrame p] := by
  unfold vqJoined
  rw [show (c.formedFrame p).port = p from rfl, if_pos h]

theorem vqJoined_full {p : PortId} {c : LineCall} {vq : List VqFrame} (h : ¬ (vqOf vq p).length < 4) :
    vqJoined (c.formedFrame p) vq = dropOldestUnstarted p vq ++ [c.formedFrame p] := by
  unfold vqJoined
  rw [show (c.formedFrame p).port = p from rfl, if_neg h]

theorem frameFormed_of_room {p : PortId} {c : LineCall} {s : State} (hrun : s.line.state = .run)
    (hroom : (vqOf s.sch.vq p).length < 4) : frameFormed p c s = vqAppend p c (frameAssembled p c s) := by
  unfold frameFormed
  rw [vqFull_of_run hrun, decide_eq_false (Nat.not_le.mpr hroom), decide_eq_true hrun, if_pos hrun, vqJoined_room hroom]
  cases p <;> rfl

theorem frameAssembled_eq (p : PortId) (c : LineCall) (s : State) : frameAssembled p c s =
    { s with
      voice := s.voice.set p { s.record p with call := .line c.afterFrame, counts := { (s.record p).counts with assembled := satInc (s.record p).counts.assembled } }
      mon := { s.mon with voice := { s.mon.voice with totals := { s.mon.voice.totals with assembled := satInc s.mon.voice.totals.assembled } } } } := by
  cases p <;> rfl

theorem vqDropped_eq (p : PortId) (s : State) : vqDropped p s =
    { s with
      sch := { s.sch with vq := dropOldestUnstarted p s.sch.vq }
      voice := s.voice.set p { s.record p with counts := { (s.record p).counts with vqDrops := satInc (s.record p).counts.vqDrops } }
      mon := voiceLosses p true (fun n => { n with vqDrops := satInc n.vqDrops }) s.mon } := by
  cases p <;> rfl

theorem frameFormed_of_full {p : PortId} {c : LineCall} {s : State} (hrun : s.line.state = .run)
    (hroom : ¬ (vqOf s.sch.vq p).length < 4) :
    frameFormed p c s = vqAppend p c (vqDropped p (frameAssembled p c s)) := by
  unfold frameFormed
  rw [vqFull_of_run hrun, decide_eq_true (Nat.not_lt.mp hroom), decide_eq_true hrun, if_pos hrun, vqJoined_full hroom]
  rw [vqDropped_eq, frameAssembled_eq]
  simp only [State.record, Pair.get_set_same, Pair.set_set]
  rfl

theorem frameAssembled_untold (p : PortId) (c : LineCall) (s : State) : Untold s (frameAssembled p c s) := .same rfl rfl rfl rfl

theorem vqDropped_untold (p : PortId) (s : State) : Untold s (vqDropped p s) := .same rfl rfl rfl rfl

theorem vqAppend_untold (p : PortId) (c : LineCall) (s : State) : Untold s (vqAppend p c s) := .same rfl rfl rfl rfl

theorem Quiet.vqAppend {s t : State} (h : Quiet s t) (p : PortId) (c : LineCall) :
    Quiet (vqAppend p c s) (vqAppend p c t) := h.modSch _

/-- R91, R122: what forming a frame does, and VOICE-LOSS when it drops one. -/
theorem formFrame_spec {p : PortId} {c : LineCall} {s : State} (h : (s.record p).call = .line c) :
    Quiet (frameFormed p c s) (formFrame p s) ∧
      ∃ hits, Tells (if vqFull p s then [.withA .voiceLoss (portNum p)] else []) hits s (formFrame p s) := by
  by_cases hrun : s.line.state = .run
  · rw [formFrame_of_run h hrun, vqFull_of_run hrun]
    by_cases hroom : (vqOf s.sch.vq p).length < 4
    · rw [decide_eq_false (Nat.not_le.mpr hroom), if_pos hroom, frameFormed_of_room hrun hroom]
      exact ⟨.refl _, _, (frameAssembled_untold p c s).then (vqAppend_untold p c _)⟩
    · rw [decide_eq_true (Nat.not_lt.mp hroom), if_neg hroom, frameFormed_of_full hrun hroom]
      have hbefore : Untold s (vqDropped p (frameAssembled p c s)) := (frameAssembled_untold p c s).then (vqDropped_untold p _)
      have htold := hbefore.then (raise_tells (.withA .voiceLoss (portNum p)) (vqDropped p (frameAssembled p c s)))
      exact ⟨(raise_quiet _ _).vqAppend p c, _, htold.untold (vqAppend_untold p c _)⟩
  · have hfull : vqFull p s = false := by rw [vqFull, decide_eq_false hrun, Bool.false_and]
    rw [formFrame_of_down h hrun, hfull]
    exact ⟨.refl _, _, (Untold.same rfl rfl rfl rfl : Untold s (frameFormed p c s))⟩

/-! ## The playout -/

/-- R126: the call of a record after a playout tick. -/
def LineCall.afterTick (idle : Byte) (c : LineCall) : LineCall :=
  { c with buffer := (playoutTick c.target idle c.buffer).buffer, chosen := some (playoutTick c.target idle c.buffer).chosen }

/-- R126, R127: the state after a playout tick, but for VOICE-LOSS. -/
def framePlayed (p : PortId) (c : LineCall) (s : State) : State :=
  { s with
    voice := s.voice.set p { s.record p with call := .line (c.afterTick (s.record p).idle), counts := countTick (playoutTick c.target (s.record p).idle c.buffer) (s.record p).counts }
    mon := { s.mon with
      voice := { s.mon.voice with totals := countTick (playoutTick c.target (s.record p).idle c.buffer) s.mon.voice.totals }
      interval := { s.mon.interval with voiceLost := if (playoutTick c.target (s.record p).idle c.buffer).conceals then satInc s.mon.interval.voiceLost else s.mon.interval.voiceLost } } }

theorem takePlayout_eq {p : PortId} {c : LineCall} {s : State} (h : (s.record p).call = .line c) : takePlayout p s =
    if (playoutTick c.target (s.record p).idle c.buffer).underrun then raise (.withA .voiceLoss (portNum p)) (framePlayed p c s)
    else framePlayed p c s := by
  have hbase : (if (playoutTick c.target (s.record p).idle c.buffer).conceals then
      (((s.setRecord p { s.record p with call := .line (c.afterTick (s.record p).idle) }).countCall p (countTick (playoutTick c.target (s.record p).idle c.buffer))).modInterval fun i => { i with voiceLost := satInc i.voiceLost })
      else ((s.setRecord p { s.record p with call := .line (c.afterTick (s.record p).idle) }).countCall p (countTick (playoutTick c.target (s.record p).idle c.buffer)))) = framePlayed p c s := by
    unfold framePlayed
    split <;> cases p <;> rfl
  unfold takePlayout
  dsimp only
  rw [h]
  dsimp only
  rw [← hbase]
  rfl

theorem Quiet.framePlayed {s t : State} (h : Quiet s t) (p : PortId) (c : LineCall) : Quiet (framePlayed p c s) (framePlayed p c t) := by
  have hrecord : t.record p = s.record p := congrArg (fun v : Pair ChannelRecord => v.get p) h.voice
  unfold Machine.framePlayed
  rw [hrecord, h.voice, h.mon]
  exact { h with voice := rfl, mon := rfl }

/-- R126, R127: what a playout tick does, and VOICE-LOSS when the buffer runs dry. -/
theorem takePlayout_spec {p : PortId} {c : LineCall} {s : State} (h : (s.record p).call = .line c) :
    Quiet (framePlayed p c s) (takePlayout p s) ∧
      ∃ hits, Tells (if c.buffer.runsDry then [.withA .voiceLoss (portNum p)] else []) hits s (takePlayout p s) := by
  have hbefore : Untold s (framePlayed p c s) := .same rfl rfl rfl rfl
  rw [takePlayout_eq h, (playoutTick_flags _ _ _).2.2]
  cases c.buffer.runsDry with
  | true => exact ⟨raise_quiet _ _, _, hbefore.then (raise_tells _ _)⟩
  | false => exact ⟨.refl _, _, hbefore⟩

/-! ## O50 -/

/-- R91, R122, R126: the state after a frame boundary, but for VOICE-LOSS. -/
def boundaryPassed (p : PortId) (c : LineCall) (s : State) : State := framePlayed p c.afterFrame (frameFormed p c s)

theorem boundaryStep_spec {p : PortId} {c : LineCall} {s : State} (h : (s.record p).call = .line c) :
    Quiet (boundaryPassed p c s) (boundaryStep p s) ∧ ∃ hits, Tells
      ((if vqFull p s then [.withA .voiceLoss (portNum p)] else []) ++
        (if c.buffer.runsDry then [.withA .voiceLoss (portNum p)] else [])) hits s (boundaryStep p s) := by
  obtain ⟨hquiet, _, htold⟩ := formFrame_spec h
  have hcall : ((formFrame p s).record p).call = .line c.afterFrame := by
    have hrecord : (formFrame p s).record p = (frameFormed p c s).record p :=
      congrArg (fun v : Pair ChannelRecord => v.get p) hquiet.voice
    rw [hrecord]
    cases p <;> rfl
  obtain ⟨kquiet, _, ktold⟩ := takePlayout_spec hcall
  exact ⟨(hquiet.framePlayed p c.afterFrame).trans kquiet, _, htold.trans ktold⟩

/-- R129: what a frame boundary counts. -/
theorem boundary_counts (run drops : Bool) (target : Nat) (idle : Byte) (b : JitterBuffer) (n : CallCounts) :
    countTick (playoutTick target idle b) (formCounts run drops n) =
      { n with
        assembled := satInc n.assembled
        unsent := if run then n.unsent else satInc n.unsent
        vqDrops := if drops then satInc n.vqDrops else n.vqDrops
        played := if b.plays && b.holdsNext then satInc n.played else n.played
        concealment := if b.plays && !b.holdsNext then satInc n.concealment else n.concealment
        underrun := if b.runsDry then satInc n.underrun else n.underrun } := by
  obtain ⟨hplayed, hconceals, hunderrun⟩ := playoutTick_flags target idle b
  rw [countTick, hplayed, hconceals, hunderrun]
  rfl

/-- VOICE-LOSS is logged once, on set, whether a frame boundary drops a frame, runs dry, or both. -/
theorem boundary_logGains {p : PortId} {drops dry : Bool} {hits : Ix4 → WatchSource → Nat} {s t : State}
    (h : Tells ((if drops then [.withA .voiceLoss (portNum p)] else []) ++
      (if dry then [.withA .voiceLoss (portNum p)] else [])) hits s t) :
    LogGains (if drops = true ∨ dry = true then [.withA .voiceLoss (portNum p)] else []) s t := by
  cases drops <;> cases dry
  · exact h.logGains .nil
  · exact h.logGains (.one _)
  · exact h.logGains (.one _)
  · exact h.logGains_again (e := .withA .voiceLoss (portNum p)) rfl fun hwatch => nomatch hwatch

theorem boundary_set {p : PortId} {drops dry : Bool} {hits : Ix4 → WatchSource → Nat} {s t : State}
    (h : Tells ((if drops then [.withA .voiceLoss (portNum p)] else []) ++
      (if dry then [.withA .voiceLoss (portNum p)] else [])) hits s t) (hd : drops = true ∨ dry = true) :
    t.evt.pending.has .voiceLoss = true := by
  refine h.set (.withA .voiceLoss (portNum p)) ?_
  rcases hd with rfl | rfl <;> simp

theorem runsDry_iff (b : JitterBuffer) : b.runsDry = true ↔
    b.playing = true ∧ 4 ≤ b.conceal ∧ b.held = [] ∧ b.expected ≠ none := by
  rw [JitterBuffer.runsDry, JitterBuffer.plays, Bool.and_eq_true, Bool.and_eq_true, Bool.and_eq_true, decide_eq_true_iff,
    List.isEmpty_iff, Option.isSome_iff_ne_none]
  tauto

theorem vqFull_iff (p : PortId) (s : State) : vqFull p s = true ↔ s.line.state = .run ∧ 4 ≤ (vqOf s.sch.vq p).length := by
  rw [vqFull, Bool.and_eq_true, decide_eq_true_iff, decide_eq_true_iff]

theorem tickPlaying_found {idle : Byte} {e : BitVec 16} {b : JitterBuffer} {f : HeldFrame}
    (h : b.held.find? (·.seq == e) = some f) : (tickPlaying idle e b).chosen = f.samples ∧ (tickPlaying idle e b).buffer =
      { b with expected := some (e + 1), held := b.held.eraseP (·.seq == e), last := some f.samples, conceal := 0 } := by
  rw [tickPlaying, h]
  exact ⟨rfl, rfl⟩

theorem tickPlaying_absent {idle : Byte} {e : BitVec 16} {b : JitterBuffer} (h : b.held.find? (·.seq == e) = none) :
    (tickPlaying idle e b).chosen =
      (if b.conceal = 0 then b.last.getD (List.replicate 80 idle) else List.replicate 80 idle) ∧
    (4 ≤ b.conceal → b.held = [] → (tickPlaying idle e b).buffer = JitterBuffer.fresh) ∧
    (b.conceal < 4 ∨ b.held ≠ [] →
      (tickPlaying idle e b).buffer = { b with expected := some (e + 1), conceal := b.conceal + 1 }) := by
  rw [tickPlaying, h]
  unfold tickAbsent
  dsimp only
  refine ⟨?_, fun hc hh => ?_, fun hnot => ?_⟩
  · have hzero : b.conceal + 1 = 1 ↔ b.conceal = 0 := by omega
    split <;> exact ite_congr (propext hzero) (fun _ => rfl) fun _ => rfl
  · rw [if_pos ⟨by omega, hh⟩]
  · rw [if_neg fun hboth => hnot.elim (fun hc => by omega) fun hne => hne hboth.2]

/-- Settles O50: the frame formed and joined to VQ, and the playout tick. -/
theorem frameBoundaries : Obligations.FrameBoundaries := by
  unfold Obligations.FrameBoundaries
  intro p c s hd hcall frame tick drops turn held underruns counted
  have hexec : exec (.frameBoundary p) s = .next (boundaryStep p (dueTaken (.frameBoundary p) s)) := exec_due (d := .frameBoundary p) rfl hd
  obtain ⟨hquiet, hits, htold⟩ := boundaryStep_spec (s := dueTaken (.frameBoundary p) s) hcall
  generalize boundaryStep p (dueTaken (.frameBoundary p) s) = t at hexec hquiet htold
  have hdrops : vqFull p (dueTaken (.frameBoundary p) s) = drops := rfl
  have hdropped : drops = true ↔ s.line.state = .run ∧ 4 ≤ (vqOf s.sch.vq p).length := vqFull_iff p s
  have hcounted : ∀ n, countTick tick (formCounts (decide (s.line.state = .run)) drops n) = counted n := by
    intro n
    refine (boundary_counts (decide (s.line.state = .run)) drops c.target (s.record p).idle c.buffer n).trans ?_
    by_cases hrun : s.line.state = .run <;> simp only [counted, hrun, decide_true, decide_false, if_true, if_false] <;> rfl
  have hrecord : t.record p = { s.record p with
      call := .line { c with seq := c.seq + 1, samples := [], formed := true, buffer := tick.buffer, chosen := some tick.chosen }
      counts := counted (s.record p).counts } := by
    rw [← hcounted]
    refine (congrArg (fun v : Pair ChannelRecord => v.get p) hquiet.voice).trans ?_
    cases p <;> rfl
  have hother : t.record (otherPort p) = s.record (otherPort p) := by
    refine (congrArg (fun v : Pair ChannelRecord => v.get (otherPort p)) hquiet.voice).trans ?_
    cases p <;> rfl
  have hsch : t.sch = { s.sch with vq := if s.line.state = .run then vqJoined frame s.sch.vq else s.sch.vq } := hquiet.sch
  have hset : drops = true ∨ underruns = true → t.evt.pending.has .voiceLoss = true := boundary_set htold
  have hunderruns : underruns = true ↔ c.buffer.playing = true ∧ 4 ≤ c.buffer.conceal ∧ c.buffer.held = [] ∧
      c.buffer.expected ≠ none := runsDry_iff c.buffer
  have hmon : t.mon = { s.mon with
      voice := { s.mon.voice with
        totals := counted s.mon.voice.totals
        vqDrops := if drops then s.mon.voice.vqDrops.set p (satInc (s.mon.voice.vqDrops.get p)) else s.mon.voice.vqDrops }
      interval := { s.mon.interval with voiceLost := if turn && !held then satInc (if drops then satInc s.mon.interval.voiceLost else s.mon.interval.voiceLost) else (if drops then satInc s.mon.interval.voiceLost else s.mon.interval.voiceLost) }
      watches := t.mon.watches } := by
    have hconceals : tick.conceals = (turn && !held) := (playoutTick_flags _ _ _).2.1
    rw [← hcounted, ← hconceals]
    refine hquiet.mon.trans ?_
    generalize t.mon.watches = w
    cases p <;> rfl
  have hturn : ∀ e, c.buffer.playing = true → c.buffer.expected = some e → turn = true ∧
      held = (c.buffer.held.find? (·.seq == e)).isSome ∧ tick = tickPlaying (s.record p).idle e c.buffer := by
    intro e hplays he
    refine ⟨?_, holdsNext_eq he, playoutTick_playing hplays he⟩
    show (c.buffer.playing && c.buffer.expected.isSome) = true
    rw [hplays, he]
    rfl
  refine ⟨t, hexec, ?_, hmon, ?_, ?_, ?_, ?_, ?_, ?_, ?_, ?_, ?_, ?_, hother, hquiet.pending, hquiet.time, hquiet.line,
    hquiet.load, hquiet.rate, hquiet.phone, hquiet.supply, hquiet.agent, hquiet.out⟩
  · rw [hrecord]
  · rw [hrecord]
  · rw [hrecord]
  · rw [hrecord]
  · intro hrun
    rw [hsch, hrecord, if_neg hrun]
    exact ⟨rfl, if_neg hrun⟩
  · intro hrun hroom
    rw [hsch, if_pos hrun]
    exact congrArg (fun vq => { s.sch with vq := vq }) (vqJoined_room (c := c) hroom)
  · intro hrun hfull
    have hd : drops = true := hdropped.mpr ⟨hrun, hfull⟩
    rw [hsch, if_pos hrun, hrecord, hmon]
    refine ⟨congrArg (fun vq => { s.sch with vq := vq }) (vqJoined_full (c := c) (Nat.not_lt.mpr hfull)), if_pos hd, if_pos hd,
      if_pos hd, hset (.inl hd)⟩
  · intro hplays
    have hfill : tick = tickFilling c.target (s.record p).idle c.buffer :=
      playoutTick_filling (by rw [JitterBuffer.plays, hplays]; rfl)
    rw [hfill]
    exact ⟨rfl, rfl⟩
  · intro e f hplays he hfind
    obtain ⟨hturn, hheld, htick⟩ := hturn e hplays he
    have hboth : (turn && held) = true := by rw [hturn, hheld, hfind]; rfl
    rw [htick, hrecord]
    exact ⟨(tickPlaying_found hfind).1, (tickPlaying_found hfind).2, if_pos hboth⟩
  · intro e hplays he hfind
    obtain ⟨hturn, hheld, htick⟩ := hturn e hplays he
    have hboth : (turn && !held) = true := by rw [hturn, hheld, hfind]; rfl
    obtain ⟨hchosen, hdry, hnext⟩ := tickPlaying_absent (idle := (s.record p).idle) hfind
    rw [htick, hrecord]
    exact ⟨hchosen, if_pos hboth, fun hc hh =>
      ⟨hdry hc hh, hset (.inr (hunderruns.mpr ⟨hplays, hc, hh, by rw [he]; nofun⟩))⟩, hnext⟩
  · have hlog := boundary_logGains htold
    rw [hdrops, show c.buffer.runsDry = underruns from rfl] at hlog
    rw [if_congr (or_congr hdropped.symm hunderruns.symm) rfl rfl]
    exact hlog

end Sys2Proof.Machine
end

section
/-! PROOFS. The arrival of a voice frame (R124, R125, R129). -/

namespace Sys2Proof.Machine

theorem holderOf_of_none {v : Pair ChannelRecord} {n : Nat} (h : ∀ p : PortId, (v.get p).call.lineStream ≠ some n) :
    holderOf v n = none := by
  exact (if_neg (h .p1)).trans (if_neg (h .p2))

theorem holderOf_of_line {v : Pair ChannelRecord} {n : Nat} {p : PortId} (hp : (v.get p).call.lineStream = some n)
    (hother : (v.get (otherPort p)).call.lineStream ≠ some n) : holderOf v n = some p := by
  cases p with
  | p1 => exact if_pos hp
  | p2 => exact (if_neg hother).trans (if_pos hp)

theorem voiceArrives_of_unknown {s : State} {f : Bytes} {n : Nat} (hrun : s.line.state = .run) (hlen : f.length = 84)
    (hholder : holderOf s.voice n = none) :
    voiceArrives n f s = s.countVoice fun v => { v with unknownStream := satInc v.unknownStream } := by
  have hin : s.inRun = true := by rw [State.inRun, beq_iff_eq]; exact hrun
  unfold voiceArrives
  rw [hin, hholder]
  exact if_neg (not_not_intro hlen)

/-- A voice frame for an OPEN LINE record. -/
theorem voiceArrives_of_line {s : State} {f : Bytes} {n : Nat} {p : PortId} {c : LineCall} (hrun : s.line.state = .run)
    (hlen : f.length = 84) (hholder : holderOf s.voice n = some p) (hcall : (s.record p).call = .line c) :
    voiceArrives n f s =
      (s.setRecord p { s.record p with
        call := .line { c with buffer := bufferArrival c.buffer { seq := voiceSeq f, samples := f.drop 4 } } }).countCall p
        (countPlaced (placeArrival c.buffer (voiceSeq f))) := by
  have hin : s.inRun = true := by rw [State.inRun, beq_iff_eq]; exact hrun
  unfold voiceArrives
  rw [hin, hholder]
  dsimp only
  rw [hcall]
  exact if_neg (not_not_intro hlen)

theorem placeArrival_first {b : JitterBuffer} (seq : BitVec 16) (h : b.expected = none) : placeArrival b seq = .received := by
  rw [placeArrival, h]

theorem placeArrival_eq {b : JitterBuffer} {e : BitVec 16} (seq : BitVec 16) (h : b.expected = some e) :
    placeArrival b seq =
      if (seq - e).toNat ≤ 7 then (if b.held.any (·.seq == seq) then .duplicate else .received)
      else if 32768 ≤ (seq - e).toNat then .late
      else .resync := by
  rw [placeArrival, h]

theorem bufferArrival_eq (b : JitterBuffer) (f : HeldFrame) :
    (placeArrival b f.seq = .received → bufferArrival b f =
      { b with expected := some (b.expected.getD f.seq), held := b.held ++ [f] }) ∧
    (placeArrival b f.seq = .duplicate ∨ placeArrival b f.seq = .late → bufferArrival b f = b) ∧
    (placeArrival b f.seq = .resync → bufferArrival b f =
      { playing := false, expected := some f.seq, held := [f], last := none, conceal := 0 }) := by
  unfold bufferArrival
  refine ⟨fun h => by rw [h], fun h => ?_, fun h => by rw [h]⟩
  rcases h with h | h <;> rw [h]

/-- Settles O51: an arrival by the line state, its length, its stream and its distance from the expected number. -/
theorem voiceArrivals : Obligations.VoiceArrivals := by
  unfold Obligations.VoiceArrivals
  intro stream f s d hd u h
  have hexec : exec .voiceArrival s = .next (voiceArrives stream f u) := exec_arrival (c := .voiceArrival) rfl hd
  refine ⟨fun hrun => ?_, fun hrun hlen => ?_, fun hrun hlen hnone => ?_, ?_⟩
  · have hin : (!u.inRun) = true := by
      rw [State.inRun, Bool.not_eq_true', beq_eq_false_iff_ne]
      exact hrun
    exact hexec.trans (congrArg Host.Outcome.next (if_pos hin))
  · have hin : ¬ (!u.inRun) = true := by
      rw [State.inRun, Bool.not_eq_true', beq_eq_false_iff_ne]
      exact not_not_intro hrun
    exact hexec.trans (congrArg Host.Outcome.next ((if_neg hin).trans (if_pos hlen)))
  · rw [voiceArrives_of_unknown (s := u) hrun hlen (holderOf_of_none hnone)] at hexec
    exact hexec
  · intro p c hrun hlen hcall hstream hother placed
    have hholder : holderOf u.voice stream = some p :=
      holderOf_of_line (show (s.record p).call.lineStream = some stream by rw [hcall, Call.lineStream, hstream]) hother
    rw [voiceArrives_of_line (s := u) hrun hlen hholder hcall] at hexec
    obtain ⟨hreceived, hkept, hresync⟩ := bufferArrival_eq c.buffer h
    refine ⟨fun hnone => ?_, fun e he => ⟨fun hnear hnew => ?_, fun hnear hheld => ?_, fun hbehind => ?_, fun hfar hahead => ?_⟩⟩
    · have hplace := placeArrival_first h.seq hnone
      rw [hreceived hplace, hplace, hnone] at hexec
      exact hexec
    all_goals have hplace := placeArrival_eq h.seq he
    · have hno : ¬ (c.buffer.held.any (·.seq == h.seq)) = true := by
        rw [List.any_eq_true]
        rintro ⟨g, hg, hseq⟩
        exact hnew g hg (beq_iff_eq.mp hseq)
      rw [if_pos hnear, if_neg hno] at hplace
      have hexpected : some (c.buffer.expected.getD h.seq) = c.buffer.expected := by rw [he]; rfl
      rw [hreceived hplace, hplace, hexpected] at hexec
      exact hexec
    · have hyes : (c.buffer.held.any (·.seq == h.seq)) = true := by
        obtain ⟨g, hg, hseq⟩ := hheld
        exact List.any_eq_true.mpr ⟨g, hg, beq_iff_eq.mpr hseq⟩
      rw [if_pos hnear, if_pos hyes] at hplace
      rw [hkept (.inl hplace), hplace] at hexec
      exact hexec
    · rw [if_neg (by omega), if_pos hbehind] at hplace
      rw [hkept (.inr hplace), hplace] at hexec
      exact hexec
    · rw [if_neg (by omega), if_neg (by omega)] at hplace
      rw [hresync hplace, hplace] at hexec
      exact hexec

end Sys2Proof.Machine
end

section
/-! PROOFS. The home port's arrivals, the downstream filter, the port that finishes a frame, and pacing (R72, R73, R78, R81 to
R84, R150, R151, R153). -/

namespace Sys2Proof.Machine

/-! ## Arrivals at the home port -/

theorem homeArrival_of_length {f : Bytes} {s : State} (h : 60 ≤ f.length) (h' : f.length ≤ 1536) : homeArrival f true s =
    if frameType f = 0xA8F2 then managementArrival f s else classifyFrame f s :=
  (if_neg (by decide)).trans ((if_neg (Nat.not_lt.mpr h)).trans (if_neg (Nat.not_lt.mpr h')))

theorem managementArrival_of_own {f : Bytes} {s : State} (h : s.params.manager = 0 ∨ frameSource f = s.params.manager) :
    managementArrival f s = if s.agent.queue.length < 4 then joinRequest f s
      else s.countCls fun c => { c with mgmtOverflow := satInc c.mgmtOverflow } :=
  if_neg fun hboth => h.elim hboth.1 hboth.2

theorem classifyFrame_eq (f : Bytes) (s : State) :
    let walked := s.modCls fun c => { c with table := (classWalk f c.table).1 }
    (∀ i, (classWalk f s.cls.table).2 = .queue i → classifyFrame f s = handUpstream i f walked) ∧
    ((classWalk f s.cls.table).2 = .drop →
      classifyFrame f s = walked.countCls fun c => { c with classDrop := satInc c.classDrop }) ∧
    ((classWalk f s.cls.table).2 = .defaulted → classifyFrame f s =
      handUpstream ((Ix4.ofNum s.params.defaultQueue).getD .i2) f
        (walked.countCls fun c => { c with defaulted := satInc c.defaulted })) := by
  refine ⟨fun i h => ?_, fun h => ?_, fun h => ?_⟩ <;> rw [classifyFrame, h] <;> rfl

theorem ofNum_num (i : Ix4) : Ix4.ofNum i.num = some i := by cases i <;> rfl

/-- Settles O43: the checks at the home port in their order, a management frame, and a data frame by its walk. -/
theorem homeFramesAreCheckedInOrder : Obligations.HomeFramesAreCheckedInOrder := by
  unfold Obligations.HomeFramesAreCheckedInOrder
  intro f s u
  have hexec : ∀ b, exec (.homeFrameArrival f b) s = .next (homeArrival f b u) := fun _ => rfl
  clear_value u
  refine ⟨hexec false, fun hlen => ?_, fun hlen => ?_, fun hmin hmax htype => ?_, fun hmin hmax htype => ?_⟩
  · exact (hexec true).trans (congrArg Host.Outcome.next ((if_neg (by decide)).trans (if_pos hlen)))
  · have hmin : ¬ f.length < Config.minFrame := by rw [Config.minFrame]; omega
    exact (hexec true).trans (congrArg Host.Outcome.next ((if_neg (by decide)).trans ((if_neg hmin).trans (if_pos hlen))))
  · have harrive := hexec true
    rw [homeArrival_of_length hmin hmax, if_pos htype] at harrive
    refine ⟨fun hmanager hother => ?_, fun hown => ⟨fun hfull => ?_, fun hroom => ?_⟩⟩
    · exact harrive.trans (congrArg Host.Outcome.next (if_pos ⟨hmanager, hother⟩))
    · rw [managementArrival_of_own hown, if_neg (Nat.not_lt.mpr hfull)] at harrive
      exact harrive
    · rw [managementArrival_of_own hown, if_pos hroom] at harrive
      exact harrive
  · have harrive := hexec true
    rw [homeArrival_of_length hmin hmax, if_neg htype] at harrive
    obtain ⟨hqueue, hdrop, hdefault⟩ := classifyFrame_eq f u
    intro walked
    refine ⟨fun i hi => ?_, fun hd => ?_, fun i hd hi => ?_⟩
    · rw [hqueue i hi] at harrive
      exact harrive
    · rw [hdrop hd] at harrive
      exact harrive
    · rw [hdefault hd, hi, ofNum_num] at harrive
      exact harrive

/-! ## The downstream filter and the home port -/

theorem portTake_of_free {c : Classifier} (h : c.sending = none) :
    (∀ g rest, c.mgmtQueue = g :: rest → (portTake c).sending = some (.mgmt g)) ∧
    (∀ g rest, c.mgmtQueue = [] → c.homeQueue = g :: rest → (portTake c).sending = some (.home g)) ∧
    (c.mgmtQueue = [] → c.homeQueue = [] → (portTake c).sending = none) :=
  ⟨fun _ _ hq => by rw [portTake_sending_mgmt h hq], fun _ _ hq hh => by rw [portTake_sending_home h hq hh],
    fun hq hh => by rw [portTake_of_empty h hq hh, h]⟩

theorem downstream_of_length {f : Bytes} {s : State} (h : 14 ≤ f.length) : downstream f s =
    if frameType f = 0xA8F2 then s.countCls fun c => { c with downMgmt := satInc c.downMgmt }
    else if s.cls.homeQueue.length < 32 then s.modCls fun c => portTake { c with homeQueue := c.homeQueue ++ [f] }
    else s.countCls fun c => { c with homeOverflow := satInc c.homeOverflow } :=
  if_neg (Nat.not_lt.mpr h)

/-- R84: a frame of the home egress queue has been sent. -/
theorem homeSent_spec (f : Bytes) (b : Bool) (s : State) :
    let q := if b then s.cls.homeQueue.drop 1 else s.cls.homeQueue
    let t := homeSent f b s
    t.cls = { s.cls with homeQueue := q, sending := t.cls.sending } ∧
    (∀ g rest, s.cls.mgmtQueue = g :: rest → t.cls.sending = some (.mgmt g)) ∧
    (∀ g rest, s.cls.mgmtQueue = [] → q = g :: rest → t.cls.sending = some (.home g)) ∧
    (s.cls.mgmtQueue = [] → q = [] → t.cls.sending = none) := by
  intro q t
  have hcls : t.cls = portTake { s.cls with homeQueue := q, sending := none } := rfl
  obtain ⟨hmgmt, hhome, hnone⟩ := portTake_of_free (c := { s.cls with homeQueue := q, sending := none }) rfl
  rw [hcls]
  refine ⟨portTake_eq _, hmgmt, hhome, hnone⟩

theorem mgmtGone_cls (f : MgmtFrame) (s : State) :
    (mgmtGone f s).cls = portTake { s.cls with mgmtQueue := s.cls.mgmtQueue.drop 1, sending := none } := rfl

/-- R83: a waiting reply that is offered again touches the management egress queue and the agent alone. -/
theorem offerWaiting_spec (s : State) : offerWaiting s =
      { s with cls := (offerWaiting s).cls, agent := (offerWaiting s).agent } ∧
    (offerWaiting s).cls = { s.cls with mgmtQueue := (offerWaiting s).cls.mgmtQueue, sending := (offerWaiting s).cls.sending } ∧
    (∀ x, s.cls.sending = some x → (offerWaiting s).cls.sending = some x) ∧
    (s.agent.waiting = none → offerWaiting s = s) := by
  have hkeep : ∀ w, offerWaiting s = w → w = s ∨ (s.agent.waiting ≠ none ∧ ∃ f, w = (s.modCls fun c =>
      portTake { c with mgmtQueue := c.mgmtQueue ++ [f] }).modAgent fun a => { a with waiting := none }) := by
    intro w hw
    subst hw
    unfold offerWaiting
    split
    · exact .inl rfl
    · rename_i g hg
      split
      · rename_i t ht
        refine .inr ⟨by rw [hg]; nofun, g, ?_⟩
        unfold mgmtOffer at ht
        split at ht
        · obtain rfl := Option.some.inj ht
          rfl
        · cases ht
      · exact .inl rfl
  rcases hkeep _ rfl with h | ⟨hwait, f, h⟩
  · rw [h]
    exact ⟨rfl, rfl, fun _ hx => hx, fun _ => rfl⟩
  · rw [h]
    refine ⟨rfl, ?_, fun x hx => ?_, fun hnone => absurd hnone hwait⟩
    · have hqueue := portTake_mgmtQueue { s.cls with mgmtQueue := s.cls.mgmtQueue ++ [f] }
      have htake := portTake_eq { s.cls with mgmtQueue := s.cls.mgmtQueue ++ [f] }
      rw [← hqueue] at htake
      exact htake
    · exact (congrArg Classifier.sending
        (portTake_of_busy (c := { s.cls with mgmtQueue := s.cls.mgmtQueue ++ [f] }) hx)).trans hx

theorem mgmtSent_of_partReply {f : MgmtFrame} (h : f.partReply = true) (s : State) : mgmtSent f s =
    (((emitHome f.bytes s).countCls fun c => { c with mgmtSent := satInc c.mgmtSent }).modCls fun c =>
      { c with mgmtQueue := c.mgmtQueue.drop 1, sending := none }).setDue (s.due ++ [.partReset]) := by
  rw [mgmtSent, h]
  rfl

/-- R83, R84: the reply that has gone, and a waiting one offered again. -/
theorem mgmtSent_spec {f : MgmtFrame} (h : f.partReply = false) (s : State) : let t := mgmtSent f s
    t = { mgmtGone f s with cls := t.cls, agent := t.agent } ∧
    t.cls = { s.cls with mgmtQueue := t.cls.mgmtQueue, sending := t.cls.sending } ∧
    (s.agent.waiting = none → t.cls.mgmtQueue = s.cls.mgmtQueue.drop 1 ∧ t.agent = s.agent) ∧
    (∀ g, s.agent.waiting = some g → s.cls.mgmtQueue.length ≤ 8 →
      t.cls.mgmtQueue = s.cls.mgmtQueue.drop 1 ++ [g] ∧ t.agent = { s.agent with waiting := none }) ∧
    (∀ g rest, s.cls.mgmtQueue.drop 1 = g :: rest → t.cls.sending = some (.mgmt g)) ∧
    (∀ g rest, s.cls.mgmtQueue.drop 1 = [] → s.cls.homeQueue = g :: rest → t.cls.sending = some (.home g)) ∧
    (s.cls.mgmtQueue.drop 1 = [] → s.cls.homeQueue = [] → s.agent.waiting = none → t.cls.sending = none) := by
  intro t
  have ht : t = offerWaiting (mgmtGone f s) := mgmtSent_of_reply h s
  clear_value t
  obtain ⟨heq, hcls, hbusy, hidle⟩ := offerWaiting_spec (mgmtGone f s)
  obtain ⟨hmgmt, hhome, hnone⟩ :=
    portTake_of_free (c := { s.cls with mgmtQueue := s.cls.mgmtQueue.drop 1, sending := none }) rfl
  rw [← ht] at heq hcls hbusy hidle
  refine ⟨heq, ?_, fun hw => ?_, fun g hg hle => ?_, fun g rest hq => hbusy _ (hmgmt g rest hq),
    fun g rest hq hh => hbusy _ (hhome g rest hq hh), fun hq hh hw => ?_⟩
  · rw [hcls, mgmtGone_cls, portTake_eq]
  · rw [hidle hw]
    exact ⟨mgmtGone_mgmtQueue f s, rfl⟩
  · have hroom : (mgmtGone f s).cls.mgmtQueue.length < 8 := by
      rw [mgmtGone_mgmtQueue, List.length_drop]
      omega
    rw [ht, offerWaiting_of_room (s := mgmtGone f s) hg hroom]
    refine ⟨?_, rfl⟩
    show (portTake _).mgmtQueue = _
    rw [portTake_mgmtQueue]
    show (mgmtGone f s).cls.mgmtQueue ++ [g] = _
    rw [mgmtGone_mgmtQueue]
  · rw [hidle hw]
    exact hnone hq hh

/-- Settles O42: the downstream filter by length, type and room, and the port that finishes by what it was sending. -/
theorem downstreamAndHomePort : Obligations.DownstreamAndHomePort := by
  unfold Obligations.DownstreamAndHomePort
  refine ⟨fun f s hd => ?_, fun s => ?_⟩
  · intro u
    have hexec : exec .downstreamFrame s = .next (downstream f u) := exec_arrival (c := .downstreamFrame) rfl hd
    refine ⟨fun hlen => hexec.trans (congrArg Host.Outcome.next (if_pos hlen)), fun hlen htype => ?_, fun hlen htype hfull => ?_,
      fun hlen htype hroom => ?_⟩
    all_goals rw [downstream_of_length hlen] at hexec
    · rw [if_pos htype] at hexec
      exact hexec
    · rw [if_neg htype, if_neg (show ¬ u.cls.homeQueue.length < 32 from Nat.not_lt.mpr hfull)] at hexec
      exact hexec
    · rw [if_neg htype, if_pos (show u.cls.homeQueue.length < 32 from hroom)] at hexec
      refine ⟨_, hexec, ?_, fun x hx => ?_, fun hx hq hh => ?_⟩
      · rw [State.modCls, portTake_eq]
        rfl
      · exact (congrArg Classifier.sending
          (portTake_of_busy (c := { u.cls with homeQueue := s.cls.homeQueue ++ [f] }) hx)).trans hx
      · exact congrArg Classifier.sending (portTake_sending_home
          (c := { u.cls with homeQueue := s.cls.homeQueue ++ [f] }) (rest := []) hx hq (by rw [hh]; rfl))
  · intro u sent
    have hexec : exec .homeFrameSent s = .next (finishSending u) := rfl
    clear_value u
    rw [hexec]
    refine ⟨fun h => ?_, fun f h => ?_, fun f h => ?_, fun f h hreply => ?_, fun f h hreply => ?_⟩
    all_goals rw [finishSending, h]
    · obtain ⟨hcls, hmgmt, hhome, hnone⟩ := homeSent_spec f true u
      exact ⟨_, rfl, rfl, hcls, rfl, hmgmt, hhome, hnone, rfl, rfl, rfl, rfl, rfl, rfl⟩
    · obtain ⟨hcls, hmgmt, hhome, hnone⟩ := homeSent_spec f false u
      exact ⟨_, rfl, rfl, hcls, rfl, hmgmt, hhome, hnone, rfl, rfl, rfl, rfl, rfl, rfl⟩
    · obtain ⟨heq, hcls, hidle, hwaiting, hmgmt, hhome, hnone⟩ := mgmtSent_spec hreply u
      refine ⟨mgmtSent f u, rfl, ?_, hcls, ?_, hidle, hwaiting, hmgmt, hhome, hnone, ?_, ?_, ?_, ?_, ?_⟩
      all_goals rw [heq]
      all_goals rfl
    · dsimp only
      rw [mgmtSent_of_partReply hreply]
      exact ⟨_, rfl, rfl, rfl, rfl, rfl, rfl, rfl⟩

/-! ## Pacing -/

theorem noticeOwed_iff (s : State) : noticeOwed s = true ↔
    s.evt.noticeDue ≠ 0 ∧ s.evt.asleep = false ∧ s.evt.wakePin = false ∧ s.evt.pacing = .ready := by
  rw [noticeOwed, Bool.and_eq_true, Bool.and_eq_true, Bool.and_eq_true, bne_iff_ne, Bool.not_eq_true', Bool.not_eq_true',
    beq_iff_eq, and_assoc, and_assoc]

theorem offerNotice_of_room {s : State} (h : noticeOwed s = true) (hroom : s.cls.mgmtQueue.length < 8) : offerNotice s =
    (s.modCls fun c => portTake { c with mgmtQueue := c.mgmtQueue ++ [noticeFrame s] }).modEvt fun e =>
      { e with noticeDue := 0, pacing := if s.params.noticeInterval = 0 then .ready else .paced 0 false } := by
  rw [offerNotice, if_pos h, mgmtOffer_of_room _ hroom]

theorem offerNotice_of_full {s : State} (h : noticeOwed s = true) (hfull : 8 ≤ s.cls.mgmtQueue.length) :
    offerNotice s = s.modEvt fun e => { e with pacing := .paced 0 true } := by
  rw [offerNotice, if_pos h, mgmtOffer_of_full _ hfull]

/-- Settles O53: at the expiry pacing is READY, and what an owed notice then does. -/
theorem pacingExpiries : Obligations.PacingExpiries := by
  unfold Obligations.PacingExpiries
  intro s hd u
  have hexec : exec .pacingExpiry s = .next (offerNotice u) := exec_due (d := .pacing) rfl hd
  rw [hexec]
  refine ⟨fun hnot => ?_, fun hdue hawake hpin hroom => ?_, fun hdue hawake hpin hfull => ?_⟩
  · have howed : ¬ noticeOwed u = true := by
      rw [noticeOwed_iff]
      rintro ⟨hdue, hawake, hpin, -⟩
      rcases hnot with h | h | h
      · exact hdue h
      · exact Bool.false_ne_true (hawake.symm.trans h)
      · exact Bool.false_ne_true (hpin.symm.trans h)
    exact congrArg Host.Outcome.next (if_neg howed)
  · rw [offerNotice_of_room (s := u) ((noticeOwed_iff u).mpr ⟨hdue, hawake, hpin, rfl⟩) hroom]
    refine ⟨_, rfl, rfl, ?_, rfl, rfl, rfl, rfl, rfl⟩
    exact portTake_mgmtQueue _
  · rw [offerNotice_of_full (s := u) ((noticeOwed_iff u).mpr ⟨hdue, hawake, hpin, rfl⟩) hfull]
    rfl

end Sys2Proof.Machine
end

section
/-! PROOFS. Refusals, the host's sleep, the partition and the resets (R77, R152, R155, R160, R164, R166, R169). -/

namespace Sys2Proof.Machine

/-! ## Refusals -/

/-- R168: the row of a request of a version 1 and a kind. -/
def rowOfKind (first : Nat) : Nat → RequestRow
  | 1 => .readTable
  | 2 => .writeTable
  | 3 => .writeOn
  | 4 => .readStatus
  | 5 => .readCounters
  | 6 => .readHistory
  | 7 => .readLog
  | 8 => .readEvents
  | 9 => .clearEvents
  | 10 => if first = 2 then .stop else if first = 3 then .retrain else .start
  | 11 => if first = 2 then .channelOpenIntercom else .channelOpenLine
  | 12 => .channelClose
  | 13 => .ring
  | 14 => .ringStop
  | 15 => .portControl
  | 16 => .hostSleep
  | 17 => .setPartition
  | 18 =>
    if first = 2 then .resetLine else if first = 3 then .resetTraffic else if first = 4 then .resetVoice
    else if first = 5 then .resetMonitor else .resetPart
  | _ => .badKind

theorem row_eq (r : Request) : r.row = if r.version ≠ 1 then .badKind else rowOfKind (byteAt r.body 0) r.kind.toNat := rfl

theorem rowOfKind_of_defined {first k : Nat} (h : 1 ≤ k) (h' : k ≤ 18) : rowOfKind first k ≠ .badKind := by
  have hline : rowOfKind first 10 ≠ .badKind := by
    dsimp only [rowOfKind]
    split_ifs <;> decide
  have hopen : rowOfKind first 11 ≠ .badKind := by
    dsimp only [rowOfKind]
    split_ifs <;> decide
  have hreset : rowOfKind first 18 ≠ .badKind := by
    dsimp only [rowOfKind]
    split_ifs <;> decide
  interval_cases k
  on_goal 18 => exact hreset
  on_goal 11 => exact hopen
  on_goal 10 => exact hline
  all_goals nofun

theorem rowOfKind_of_undefined {first k : Nat} (h : k = 0 ∨ 18 < k) : rowOfKind first k = .badKind := by
  rcases h with rfl | h
  · rfl
  · obtain ⟨m, rfl⟩ := Nat.exists_eq_add_of_le h
    rw [Nat.add_comm]
    rfl

theorem row_badKind_iff (r : Request) : r.row = .badKind ↔ r.version ≠ 1 ∨ r.kind.toNat = 0 ∨ 18 < r.kind.toNat := by
  rw [row_eq]
  by_cases hversion : r.version = 1
  · rw [if_neg (not_not_intro hversion)]
    refine ⟨fun hbad => ?_, fun h => rowOfKind_of_undefined (h.resolve_left (not_not_intro hversion))⟩
    by_contra hnot
    exact rowOfKind_of_defined (by omega) (by omega) hbad
  · rw [if_pos hversion]
    exact ⟨fun _ => .inl hversion, fun _ => rfl⟩

theorem portOf_of_undefined {n : Nat} (h : n = 0 ∨ 2 < n) : portOf n = none := by
  rcases h with rfl | h
  · rfl
  · obtain ⟨m, rfl⟩ := Nat.exists_eq_add_of_le h
    rw [Nat.add_comm]
    rfl

/-- The commands that execute a request whose body has a fixed length, with their row and that length. -/
def fixedLengths : List (Instr × RequestRow × Nat) :=
  [(.readTable, .readTable, 5), (.readStatus, .readStatus, 0), (.readCounters, .readCounters, 1),
   (.readHistory, .readHistory, 1), (.readLog, .readLog, 0), (.readEvents, .readEvents, 0),
   (.clearEvents, .clearEvents, 4), (.start, .start, 1), (.stop, .stop, 1), (.retrain, .retrain, 1),
   (.channelOpenLine, .channelOpenLine, 7), (.channelOpenIntercom, .channelOpenIntercom, 7),
   (.channelClose, .channelClose, 1), (.ring, .ring, 3), (.ringStop, .ringStop, 1), (.portControl, .portControl, 3),
   (.hostSleep, .hostSleep, 0), (.setPartition, .setPartition, 1), (.resetPart, .resetPart, 1),
   (.resetLine, .resetLine, 1), (.resetTraffic, .resetTraffic, 1), (.resetVoice, .resetVoice, 1),
   (.resetMonitor, .resetMonitor, 1)]

/-- R169: the length is the first check of each of them. -/
theorem fixedLength_checked {c : Instr} {row : RequestRow} {n : Nat} (h : (c, row, n) ∈ fixedLengths) :
    ∃ f, handlerOf c = some (row, f) ∧ ∀ r s, bodyIs r n = false → f r s = Answer.refuse .badLength s := by
  simp only [fixedLengths, List.mem_cons, List.not_mem_nil, or_false, Prod.mk.injEq] at h
  rcases h with h | h | h | h | h | h | h | h | h | h | h | h | h | h | h | h | h | h | h | h | h | h | h <;>
    obtain ⟨rfl, rfl, rfl⟩ := h
  all_goals
    refine ⟨_, rfl, fun r s hb => ?_⟩
    simp only [answerReadTable, answerReadStatus, answerReadCounters, answerReadHistory, answerReadLog, answerReadEvents,
      answerClearEvents, answerStart, answerStop, answerRetrain, answerOpenLine, answerOpenIntercom, answerClose, answerRing,
      answerRingStop, answerPortControl, answerHostSleep, answerSetPartition, answerResetPart, answerResetLine,
      answerResetTraffic, answerResetVoice, answerResetMonitor, scopeReset, hb, Bool.not_false, Bool.false_eq_true, if_true,
      if_false]

theorem answerStart_of_other {r : Request} (hbody : r.HasBody 1) (haction : byteAt r.body 0 ≠ 1) (s : State) :
    answerStart r s = Answer.refuse .badValue s := by
  rw [answerStart, bodyIs_iff.mpr hbody]
  exact if_pos haction

theorem answerOpenLine_of_bad {r : Request} (hbody : r.HasBody 7)
    (hbad : byteAt r.body 0 ≠ 1 ∨ byteAt r.body 1 = 0 ∨ 2 < byteAt r.body 1) (s : State) :
    answerOpenLine r s = Answer.refuse .badValue s := by
  unfold answerOpenLine
  dsimp only
  rw [bodyIs_iff.mpr hbody]
  by_cases hkind : byteAt r.body 0 = 1
  · rw [portOf_of_undefined (hbad.resolve_left (not_not_intro hkind))]
    exact (if_neg (by decide)).trans (if_neg (not_not_intro hkind))
  · exact (if_neg (by decide)).trans (if_pos hkind)

/-- R160: a port that does not exist is refused. -/
theorem port_checked {c : Instr} {row : RequestRow} {n : Nat} (h : (c, row, n) ∈
      [(Instr.ring, RequestRow.ring, 3), (.ringStop, .ringStop, 1), (.portControl, .portControl, 3),
       (.channelClose, .channelClose, 1)]) :
    ∃ f, handlerOf c = some (row, f) ∧ ∀ r s, bodyIs r n = true → portOf (byteAt r.body 0) = none →
      f r s = Answer.refuse .badValue s := by
  simp only [List.mem_cons, List.not_mem_nil, or_false, Prod.mk.injEq] at h
  rcases h with ⟨rfl, rfl, rfl⟩ | ⟨rfl, rfl, rfl⟩ | ⟨rfl, rfl, rfl⟩ | ⟨rfl, rfl, rfl⟩
  all_goals
    refine ⟨_, rfl, fun r s hb hport => ?_⟩
    simp only [answerRing, answerRingStop, answerPortControl, answerClose, hb, hport, Bool.not_true, Bool.false_eq_true, if_false]

/-- Settles O57: the row of a request, and each check that refuses it, by the command's handler. -/
theorem refusalsChangeNothing : Obligations.RefusalsChangeNothing := by
  refine ⟨row_badKind_iff, fun r rest s asked => exec_refused rfl asked rfl, fun c row n r rest s hmem asked hnot => ?_,
    fun c row n r rest s hmem asked hbody hport => ?_, fun r rest s asked hbody hbad => ?_, fun r rest s asked hbody haction => ?_⟩
  · obtain ⟨f, hf, hcheck⟩ := fixedLength_checked hmem
    refine exec_refused hf asked (hcheck r _ ?_)
    rw [← Bool.not_eq_true, bodyIs_iff]
    exact hnot
  · obtain ⟨f, hf, hcheck⟩ := port_checked hmem
    exact exec_refused hf asked (hcheck r _ (bodyIs_iff.mpr hbody) (portOf_of_undefined hport))
  · exact exec_refused rfl asked (answerOpenLine_of_bad hbody hbad _)
  · exact exec_refused rfl asked (answerStart_of_other hbody haction _)

/-! ## The host's sleep and the partition -/

theorem answerSetPartition_of_body {r : Request} (hbody : r.HasBody 1) (s : State) : answerSetPartition r s =
    if 8 < byteAt r.body 0 then Answer.refuse .badValue s
    else if byteAt r.body 0 = s.agent.partition then Answer.accept [] s
    else Answer.accept [] (setPartitionTo (byteAt r.body 0) s) := by
  rw [answerSetPartition, bodyIs_iff.mpr hbody]
  rfl

theorem answerHostSleep_of_body {r : Request} (hbody : r.HasBody 0) (s : State) : answerHostSleep r s =
    if (s.evt.pending &&& s.params.wakeMask) ≠ 0 then Answer.refuse .busy s
    else Answer.accept [] (s.modEvt fun e => { e with asleep := true }) := by
  rw [answerHostSleep, bodyIs_iff.mpr hbody]
  rfl

/-- Settles O56: HOST-SLEEP by the wake flags pending, and SET-PARTITION by N. -/
theorem sleepAndPartition : Obligations.SleepAndPartition := by
  unfold Obligations.SleepAndPartition
  intro r rest s u
  refine ⟨fun asked hbody => ?_, fun asked hbody => ?_⟩
  · have hans := answerHostSleep_of_body hbody u
    refine ⟨fun hwake => ?_, fun hwake => ?_⟩
    · rw [if_pos hwake] at hans
      exact exec_refused rfl asked hans
    · rw [if_neg (not_not_intro hwake)] at hans
      exact exec_accepted rfl asked hans
  · have hans := answerSetPartition_of_body hbody u
    intro n
    refine ⟨fun hbig => ?_, fun hsame hle => ?_, fun hother hle => ?_⟩
    · rw [if_pos hbig] at hans
      exact exec_refused rfl asked hans
    · rw [if_neg (Nat.not_lt.mpr hle), if_pos hsame] at hans
      exact exec_accepted rfl asked hans
    · rw [if_neg (Nat.not_lt.mpr hle), if_neg hother] at hans
      have htable : (setPartitionTo n u).cls.table =
          u.cls.table.take (32 + 8 * n) ++ List.replicate (32 + 8 * n - u.cls.table.length) ClassEntry.empty := rfl
      refine ⟨_, exec_accepted rfl asked hans, rfl, rfl, fun hshort => ?_, fun hlong => ?_, rfl, rfl⟩
      · rw [htable, List.take_of_length_le hshort]
      · rw [htable, Nat.sub_eq_zero_of_le hlong, List.replicate_zero, List.append_nil]

/-! ## The resets -/

theorem scopeReset_of_body {r : Request} (hbody : r.HasBody 1) (f : State → State) (s : State) :
    scopeReset f r s = Answer.accept [] (setCursor none (f s)) := by
  rw [scopeReset, bodyIs_iff.mpr hbody]
  rfl

theorem answerResetPart_of_body {r : Request} (hbody : r.HasBody 1) (s : State) : answerResetPart r s =
    if byteAt r.body 0 ≠ 1 then Answer.refuse .badValue s
    else Answer.accept [] (s.modAgent fun a => { a with partWait := true, cursor := none }) := by
  rw [answerResetPart, bodyIs_iff.mpr hbody]
  rfl

theorem emptyLineQueues_restart (x : Scheduler) : emptyLineQueues (restartProgress x) =
    { x with queues := (restartProgress x).queues, inProgress := none, vq := [], mq := [], slot := none } := by
  unfold emptyLineQueues restartProgress
  split
  · rename_i hnone
    rw [hnone]
  · rfl

theorem resetLineScope_eq (s : State) : setCursor none (resetLineScope s) =
    { s with
      line := LinePort.reset, load := { Loading.reset with thresh := s.load.thresh }, track := Tracker.reset
      rate := RateRecord.reset
      sch := { s.sch with queues := (restartProgress s.sch).queues, inProgress := none, vq := [], mq := [], slot := none }
      out := { s.out with commands := s.out.commands ++ [.halt] }
      agent := { s.agent with cursor := none } } := by
  rw [← emptyLineQueues_restart]
  rfl

theorem resetRecords_vq (s : State) : (resetRecords s).sch.vq = [] := by
  show (s.sch.vq.filter fun f => f.port != .p1).filter (fun f => f.port != .p2) = []
  rw [List.filter_filter, List.filter_eq_nil_iff]
  intro f _
  cases f.port <;> decide

theorem resetVoiceScope_eq (s : State) : resetVoiceScope s =
    { s with
      phone := { s.phone with ports := ⟨(s.port .p1).restart true, (s.port .p2).restart (port2FedIn s.params s.supply.mode)⟩ }
      voice := ⟨ChannelRecord.reset, ChannelRecord.reset⟩, sch := { s.sch with vq := [] } } := by
  rw [← resetRecords_vq (restartPorts s)]
  rfl

theorem resetMonitorScope_watches (s : State) (i : Ix4) :
    (resetMonitorScope s).mon.watches.get i = { s.mon.watches.get i with count := 0 } := by
  cases i <;> rfl

theorem port2FedIn_iff (p : Params) (m : Mode) : port2FedIn p m = true ↔ p.port2Feed.get m = 1 := by
  rw [port2FedIn, beq_iff_eq]

/-- Settles O58: each block scope by the state it leaves, and a PART reset before and after its reply. -/
theorem resets : Obligations.Resets := by
  unfold Obligations.Resets
  intro starting
  refine ⟨fun r rest s hbody => ?_, fun r rest s asked hbody => ?_, fun s hd => ?_⟩
  · intro u
    refine ⟨fun asked => ?_, fun asked => ?_, fun asked => ?_, fun asked => ?_⟩
    · have hans := scopeReset_of_body hbody resetLineScope (executing rest s)
      rw [resetLineScope_eq] at hans
      refine ⟨_, exec_accepted (h := answerResetLine) rfl asked hans, rfl, fun i hi => ?_, fun i hi hq => ?_, fun i f rest' hi hq => ?_⟩
      all_goals
        refine (restartProgress_queue _ i).trans ?_
      · exact if_neg hi
      · exact (if_pos hi).trans (restartHead_eq_nil.mpr hq)
      · refine (if_pos hi).trans ?_
        show restartHead (u.sch.queues.get i) = _
        rw [hq, restartHead]
    · have hans := scopeReset_of_body hbody resetTrafficScope (executing rest s)
      refine ⟨_, exec_accepted (h := answerResetTraffic) rfl asked hans, rfl, fun f hf => ?_, fun f hf => ?_⟩
      all_goals
        show (homeTrafficReset u.cls).sending = _
        rw [homeTrafficReset, hf]
    · have hans := scopeReset_of_body hbody resetVoiceScope (executing rest s)
      rw [resetVoiceScope_eq] at hans
      refine ⟨_, exec_accepted (h := answerResetVoice) rfl asked hans, rfl, fun p => ?_, rfl, ?_⟩
      · cases p <;> rfl
      · exact if_congr (port2FedIn_iff u.params u.supply.mode) rfl rfl
    · have hans := scopeReset_of_body hbody resetMonitorScope (executing rest s)
      exact ⟨_, exec_accepted (h := answerResetMonitor) rfl asked hans, rfl, fun i => resetMonitorScope_watches _ i⟩
  · have hans := answerResetPart_of_body hbody (executing rest s)
    refine ⟨fun hcode => ?_, fun hcode => ?_⟩
    · rw [if_neg (not_not_intro hcode)] at hans
      exact exec_accepted rfl asked hans
    · rw [if_pos hcode] at hans
      exact exec_refused rfl asked hans
  · refine ⟨_, exec_due (d := .partReset) rfl hd, rfl, rfl, fun p => ?_, rfl, ?_⟩
    · cases p <;> rfl
    · show (if port2FedIn Params.reset s.supply.mode then PortState.onHook else .unfed) = _
      cases s.supply.mode <;> rfl

end Sys2Proof.Machine
end

section
/-! PROOFS. The requests that read, READ-LOG, READ-EVENTS and CLEAR-EVENTS (R107, R142, R144, R149, R155, R160, R162). -/

namespace Sys2Proof.Machine

theorem tableValid_iff {id : Nat} : tableValid id = true ↔ 1 ≤ id ∧ id ≤ 8 := by
  rw [tableValid, Bool.and_eq_true, decide_eq_true_iff, decide_eq_true_iff]

theorem entrySize_of_undefined {id : Nat} (h : id = 0 ∨ 8 < id) : entrySize id = 0 := by
  rcases h with rfl | h
  · rfl
  · obtain ⟨m, rfl⟩ := Nat.exists_eq_add_of_le h
    rw [Nat.add_comm]
    rfl

theorem answerReadTable_of_body {r : Request} (hbody : r.HasBody 5) (s : State) : answerReadTable r s =
    if field16 r.body 3 = 0 ∨ 1510 < field16 r.body 3 * entrySize (byteAt r.body 0) then Answer.refuse .badLength s
    else if ¬ (1 ≤ byteAt r.body 0 ∧ byteAt r.body 0 ≤ 8) then Answer.refuse .badTable s
    else if tableSize s (byteAt r.body 0) < field16 r.body 1 + field16 r.body 3 then Answer.refuse .badIndex s
    else Answer.accept (r.body ++ tableRun s (byteAt r.body 0) (field16 r.body 1) (field16 r.body 3)) s := by
  unfold answerReadTable
  dsimp only
  rw [bodyIs_iff.mpr hbody]
  refine (if_neg (by decide)).trans (ite_congr (propext ?_) (fun _ => rfl) fun _ => ite_congr (propext ?_) (fun _ => rfl) fun _ => rfl)
  · rw [Bool.or_eq_true, decide_eq_true_iff, decide_eq_true_iff]
    rfl
  · rw [Bool.not_eq_true', ← Bool.not_eq_true, tableValid_iff]

theorem KindSet.without_has (x k : KindSet) (j : Kind) : (x.without k).has j = (x.has j && !k.has j) := by
  have hlt : j.num - 1 < 20 := by cases j <;> decide
  rw [KindSet.without, KindSet.has, KindSet.has, KindSet.has, BitVec.getLsbD_and, BitVec.getLsbD_not]
  simp [hlt]

theorem ofNat_has (n : Nat) (j : Kind) : KindSet.has (BitVec.ofNat 20 n) j = n.testBit (j.num - 1) := by
  have hlt : j.num - 1 < 20 := by cases j <;> decide
  rw [KindSet.has, BitVec.getLsbD_ofNat]
  simp [hlt]

theorem answerClearEvents_of_body {r : Request} (hbody : r.HasBody 4) (s : State) : answerClearEvents r s =
    if 0x100000 ≤ field r.body 0 4 then Answer.refuse .badValue s
    else Answer.accept [] (s.modEvt fun e =>
      { e with pending := e.pending.without (BitVec.ofNat 20 (field r.body 0 4))
               noticeDue := e.noticeDue.without (BitVec.ofNat 20 (field r.body 0 4)) }) := by
  rw [answerClearEvents, bodyIs_iff.mpr hbody]
  rfl

theorem counterGroup_none {m : Monitor} {code : Nat} (h : 3 < code) : counterGroup m code = none := by
  obtain ⟨n, rfl⟩ := Nat.exists_eq_add_of_le h
  rw [Nat.add_comm]
  rfl

/-- Settles O54: each request that reads by its checks, and what READ-LOG, READ-EVENTS and CLEAR-EVENTS remove. -/
theorem readingRequests : Obligations.ReadingRequests := by
  unfold Obligations.ReadingRequests
  refine ⟨fun r rest s => ?_, fun r rest s => ?_⟩
  · intro u
    refine ⟨fun asked hbody => ?_, fun asked hbody => ?_, fun asked hbody => ?_, fun asked hbody => ?_⟩
    · intro id start count
      have hans := answerReadTable_of_body hbody u
      refine ⟨fun hzero => ?_, fun hpos hbad => ?_, fun h1 h8 hlong => ?_, fun hpos h1 h8 hfits hpast => ?_,
        fun hpos h1 h8 hfits hin => ?_⟩
      · rw [if_pos (.inl hzero)] at hans
        exact exec_refused rfl asked hans
      · have hsize : ¬ (count = 0 ∨ 1510 < count * entrySize id) := by
          rw [entrySize_of_undefined hbad]
          omega
        rw [if_neg hsize, if_pos (show ¬ (1 ≤ id ∧ id ≤ 8) by omega)] at hans
        exact exec_refused rfl asked hans
      · rw [if_pos (.inr hlong)] at hans
        exact exec_refused rfl asked hans
      · rw [if_neg (show ¬ (count = 0 ∨ 1510 < count * entrySize id) by omega), if_neg (not_not_intro ⟨h1, h8⟩),
          if_pos hpast] at hans
        exact exec_refused rfl asked hans
      · rw [if_neg (show ¬ (count = 0 ∨ 1510 < count * entrySize id) by omega), if_neg (not_not_intro ⟨h1, h8⟩),
          if_neg (Nat.not_lt.mpr hin)] at hans
        exact exec_accepted rfl asked hans
    · exact exec_accepted rfl asked (if_pos (bodyIs_iff.mpr hbody))
    · refine ⟨fun g hg => exec_accepted rfl asked ?_, fun hcode => exec_refused rfl asked ?_⟩
      · rw [answerReadCounters, bodyIs_iff.mpr hbody, hg]
        rfl
      · rw [answerReadCounters, bodyIs_iff.mpr hbody, counterGroup_none hcode]
        rfl
    · have hans : answerReadHistory r u = if 16 < byteAt r.body 0 then Answer.refuse .badValue u
          else Answer.accept (historyBody u.mon (byteAt r.body 0)) u := by
        rw [answerReadHistory, bodyIs_iff.mpr hbody]
        rfl
      refine ⟨fun hin => ?_, fun hpast => ?_⟩
      · rw [if_neg (Nat.not_lt.mpr hin)] at hans
        exact exec_accepted rfl asked hans
      · rw [if_pos hpast] at hans
        exact exec_refused rfl asked hans
  · intro u
    refine ⟨fun asked hbody => ?_, fun asked hbody => ?_, fun asked hbody => ?_⟩
    · exact exec_accepted rfl asked (if_pos (bodyIs_iff.mpr hbody))
    · exact exec_accepted rfl asked (if_pos (bodyIs_iff.mpr hbody))
    · have hans := answerClearEvents_of_body hbody u
      refine ⟨fun hbad => ?_, fun hgood => ?_⟩
      · rw [if_pos hbad] at hans
        exact exec_refused rfl asked hans
      · rw [if_neg (Nat.not_le.mpr hgood)] at hans
        refine ⟨_, exec_accepted rfl asked hans, rfl, fun k => ⟨?_, ?_⟩⟩
        · exact (KindSet.without_has _ _ k).trans (by rw [ofNat_has])
        · exact (KindSet.without_has _ _ k).trans (by rw [ofNat_has])

end Sys2Proof.Machine
end

section
/-! PROOFS. The deficit round robin: a selection ends, and what it selects (R89, R90, R97; log entry 20). -/

namespace Sys2Proof.Machine

/-! ## One visit -/

theorem Tri.set_set {α : Type} (x : Tri α) (d : Drr) (v w : α) : (x.set d v).set d w = x.set d w := by cases d <;> rfl

theorem Tri.set_get {α : Type} (x : Tri α) (d : Drr) : x.set d (x.get d) = x := by cases d <;> rfl

theorem Tri.get_set_same {α : Type} (x : Tri α) (d : Drr) (v : α) : (x.set d v).get d = v := by cases d <;> rfl

theorem Drr.succ_ne (d : Drr) : d.succ ≠ d ∧ d.succ.succ ≠ d ∧ d.succ.succ ≠ d.succ ∧ d.succ.succ.succ = d := by
  cases d <;> decide

theorem Drr.eq_cases (d e : Drr) : e = d ∨ e = d.succ ∨ e = d.succ.succ := by
  cases d <;> cases e <;> decide

/-- The deficit of the queue whose turn it is, with its quantum. -/
def turnDeficit (p : Params) (x : Scheduler) : Nat := x.deficit.get x.turn + (if x.mark then 0 else 8 * p.qWeight.get x.turn)

theorem giveQuantum_eq (p : Params) (x : Scheduler) :
    giveQuantum p x = { x with deficit := x.deficit.set x.turn (turnDeficit p x), mark := true } := by
  unfold giveQuantum turnDeficit quantum
  split
  · rename_i hmark
    rw [Nat.add_zero, Tri.set_get, ← hmark]
  · rfl

theorem drrVisit_of_idle (p : Params) {x : Scheduler} (h : idleQueue x x.turn = true) :
    drrVisit p x = { x with deficit := x.deficit.set x.turn 0, turn := x.turn.succ, mark := false } := if_pos h

theorem drrVisit_of_head (p : Params) {x : Scheduler} {f : FrameRec} {rest : List FrameRec} (h : idleQueue x x.turn = false)
    (hq : x.queues.get x.turn.queue = f :: rest) : drrVisit p x =
      if f.units ≤ turnDeficit p x then
        { x with deficit := x.deficit.set x.turn (turnDeficit p x - f.units), mark := true, inProgress := some x.turn.queue }
      else { x with deficit := x.deficit.set x.turn (turnDeficit p x), turn := x.turn.succ, mark := false } := by
  unfold drrVisit
  rw [h, giveQuantum_eq]
  dsimp only
  rw [hq, Tri.get_set_same]
  refine (if_neg Bool.false_ne_true).trans (ite_congr rfl (fun _ => ?_) fun _ => rfl)
  rw [Tri.set_set]

/-! ## How many visits a selection takes -/

/-- A bound on the visits of a queue until its head fits. -/
def visitsOf (x : Scheduler) (d : Drr) : Nat := if idleQueue x d then 0 else 1 + (26 - x.deficit.get d + 7) / 8

/-- The queues that are passed over, idle, before one that is not. -/
def idleAhead (x : Scheduler) : Nat := if idleQueue x x.turn then (if idleQueue x x.turn.succ then 2 else 1) else 0

/-- Q1, Q2 and Q3 are all shed or empty. -/
def allIdle (x : Scheduler) : Bool := idleQueue x .q1 && idleQueue x .q2 && idleQueue x .q3

/-- A bound on the visits of a selection. -/
def visitBound (x : Scheduler) : Nat :=
  3 * (visitsOf x .q1 + visitsOf x .q2 + visitsOf x .q3) + idleAhead x + (if x.mark then 3 else 0)

theorem visits_from (x : Scheduler) (d : Drr) :
    visitsOf x .q1 + visitsOf x .q2 + visitsOf x .q3 = visitsOf x d + visitsOf x d.succ + visitsOf x d.succ.succ := by
  cases d <;> simp only [Drr.succ] <;> omega

theorem allIdle_iff (x : Scheduler) : allIdle x = true ↔ ∀ d, idleQueue x d = true := by
  rw [allIdle, Bool.and_eq_true, Bool.and_eq_true]
  refine ⟨fun ⟨⟨h1, h2⟩, h3⟩ d => ?_, fun h => ⟨⟨h _, h _⟩, h _⟩⟩
  cases d
  · exact h1
  · exact h2
  · exact h3

theorem visitBound_le (x : Scheduler) : visitBound x ≤ 50 := by
  have hle : ∀ d, visitsOf x d ≤ 5 := by
    intro d
    unfold visitsOf
    split <;> omega
  have h1 := hle .q1
  have h2 := hle .q2
  have h3 := hle .q3
  have hahead : idleAhead x ≤ 2 := by
    unfold idleAhead
    repeat' split
    all_goals omega
  unfold visitBound
  split <;> omega

/-- `y` is `x` once the stale heads of the queue whose turn it is are gone. -/
structure LookedAt (x y : Scheduler) : Prop where
  deficit : y.deficit = x.deficit
  turn : y.turn = x.turn
  mark : y.mark = x.mark
  other : ∀ d, d ≠ x.turn → idleQueue y d = idleQueue x d
  own : idleQueue x x.turn = true → idleQueue y x.turn = true
  heads : y.queues.get x.turn.queue <:+ x.queues.get x.turn.queue

theorem visitsOf_same {x y : Scheduler} {d : Drr} (hidle : idleQueue y d = idleQueue x d)
    (hdeficit : y.deficit.get d = x.deficit.get d) : visitsOf y d = visitsOf x d := by
  rw [visitsOf, visitsOf, hidle, hdeficit]

theorem idleAhead_le (x : Scheduler) : idleAhead x ≤ 2 := by
  unfold idleAhead
  repeat' split
  all_goals omega

/-- A visit that puts no frame in progress brings the end of the selection nearer. -/
theorem drrVisit_nearer {p : Params} {x y : Scheduler} (h : LookedAt x y) (hweight : ∀ d, 1 ≤ p.qWeight.get d)
    (hframes : ∀ f ∈ x.queues.get x.turn.queue, f.units ≤ 26) (hnot : allIdle x = false)
    (hnone : (drrVisit p y).inProgress = none) :
    visitBound (drrVisit p y) < visitBound x := by
  obtain ⟨hne1, hne2, -, -⟩ := Drr.succ_ne x.turn
  have hturn := h.turn
  cases hidle : idleQueue y y.turn with
  | true =>
    rw [drrVisit_of_idle p hidle]
    generalize hz : ({ y with deficit := y.deficit.set y.turn 0, turn := y.turn.succ, mark := false } : Scheduler) = z
    have hzturn : z.turn = x.turn.succ := by rw [← hz, ← hturn]
    have hzmark : z.mark = false := by rw [← hz]
    have hzidle : ∀ d, idleQueue z d = idleQueue y d := fun d => by rw [← hz]; rfl
    have hzown : visitsOf z x.turn = 0 := by rw [visitsOf, hzidle, ← hturn, hidle]; rfl
    have hzother : ∀ d, d ≠ x.turn → visitsOf z d = visitsOf x d := fun d hd => visitsOf_same ((hzidle d).trans (h.other d hd)) (by
      rw [← hz, Tri.get_set, if_neg (by rw [hturn]; exact hd), h.deficit])
    unfold visitBound
    rw [visits_from z x.turn, visits_from x x.turn, hzown, hzother _ hne1, hzother _ hne2, hzmark]
    cases hown : idleQueue x x.turn with
    | true =>
      have hahead : idleAhead z < idleAhead x := by
        rw [idleAhead, idleAhead, hzturn, hown, hzidle, h.other _ hne1, hzidle, h.other _ hne2]
        cases h1 : idleQueue x x.turn.succ with
        | false => exact Nat.zero_lt_one
        | true =>
          cases h2 : idleQueue x x.turn.succ.succ with
          | false => decide
          | true =>
            have hall : allIdle x = true := (allIdle_iff x).mpr fun d => by
              rcases Drr.eq_cases x.turn d with rfl | rfl | rfl
              · exact hown
              · exact h1
              · exact h2
            rw [hall] at hnot
            cases hnot
      simp only [Bool.false_eq_true, if_false]
      omega
    | false =>
      have hpos : 1 ≤ visitsOf x x.turn := by
        rw [visitsOf, hown]
        simp
      have hahead := idleAhead_le z
      simp only [Bool.false_eq_true, if_false]
      omega
  | false =>
    obtain ⟨f, rest, hq⟩ : ∃ f rest, y.queues.get y.turn.queue = f :: rest := by
      cases hq : y.queues.get y.turn.queue with
      | nil => simp [idleQueue, hq] at hidle
      | cons f rest => exact ⟨f, rest, rfl⟩
    have hunits : f.units ≤ 26 := hframes f (h.heads.subset (by rw [← hturn, hq]; exact List.mem_cons_self))
    rw [drrVisit_of_head p hidle hq] at hnone ⊢
    split at hnone
    · cases hnone
    rename_i hshort
    rw [if_neg hshort]
    generalize hz : ({ y with deficit := y.deficit.set y.turn (turnDeficit p y), turn := y.turn.succ, mark := false } : Scheduler) = z
    have hzmark : z.mark = false := by rw [← hz]
    have hzidle : ∀ d, idleQueue z d = idleQueue y d := fun d => by rw [← hz]; rfl
    have hzother : ∀ d, d ≠ x.turn → visitsOf z d = visitsOf x d := fun d hd => visitsOf_same ((hzidle d).trans (h.other d hd)) (by
      rw [← hz, Tri.get_set, if_neg (by rw [hturn]; exact hd), h.deficit])
    have hxidle : idleQueue x x.turn = false := by
      cases hx : idleQueue x x.turn with
      | false => rfl
      | true => rw [hturn, h.own hx] at hidle; cases hidle
    have hzown : visitsOf z x.turn = 1 + (26 - turnDeficit p y + 7) / 8 := by
      rw [visitsOf, hzidle, ← hturn, hidle, ← hz, Tri.get_set_same]
      rfl
    have hxown : visitsOf x x.turn = 1 + (26 - x.deficit.get x.turn + 7) / 8 := by
      rw [visitsOf, hxidle]
      rfl
    have hxahead : idleAhead x = 0 := by rw [idleAhead, hxidle]; rfl
    have hzahead := idleAhead_le z
    have hw := hweight x.turn
    have hdeficit : turnDeficit p y = x.deficit.get x.turn + (if x.mark then 0 else 8 * p.qWeight.get x.turn) := by
      rw [turnDeficit, hturn, h.deficit, h.mark]
    unfold visitBound
    rw [visits_from z x.turn, visits_from x x.turn, hzown, hxown, hzother _ hne1, hzother _ hne2, hzmark, hxahead]
    cases hmark : x.mark with
    | true =>
      rw [hmark] at hdeficit
      simp only [if_true, Nat.add_zero] at hdeficit
      simp only [Bool.false_eq_true, if_false, if_true, hdeficit]
      omega
    | false =>
      rw [hmark] at hdeficit
      simp only [Bool.false_eq_true, if_false] at hdeficit ⊢
      omega

/-! ## A selection -/

/-- The queue whose turn it is looked at: its stale heads go, unless it is shed. -/
def lookedAt (s : State) : State := if shedAt s.sch.shedLevel s.sch.turn.queue then s else dropStale s.sch.turn.queue s

/-- The state after one visit. -/
def visited (s : State) : State := (lookedAt s).modSch (drrVisit (lookedAt s).params)

theorem drrSelect_succ (n : Nat) (s : State) : drrSelect (n + 1) s =
    if allIdle s.sch then s.modSch fun x => { x with deficit := ⟨0, 0, 0⟩, mark := false }
    else if (visited s).sch.inProgress.isSome then visited s else drrSelect n (visited s) := rfl

/-- A selection can begin: no frame is in progress, the weights are in range and no frame is above 26 units. -/
structure CanSelect (s : State) : Prop where
  free : s.sch.inProgress = none
  weight : ∀ d, 1 ≤ s.params.qWeight.get d
  frames : ∀ i, ∀ f ∈ s.sch.queues.get i, f.units ≤ 26

theorem dropStale_sch_same (i : Ix4) (s : State) : (dropStale i s).sch.deficit = s.sch.deficit ∧
    (dropStale i s).sch.turn = s.sch.turn ∧ (dropStale i s).sch.mark = s.sch.mark ∧
    (dropStale i s).sch.shedLevel = s.sch.shedLevel ∧ (dropStale i s).sch.credit = s.sch.credit ∧
    ∀ j, j ≠ i → (dropStale i s).sch.queues.get j = s.sch.queues.get j := by
  rw [dropStale_sch]
  split
  · exact ⟨rfl, rfl, rfl, rfl, rfl, fun _ _ => rfl⟩
  · exact ⟨rfl, rfl, rfl, rfl, rfl, fun j hj => Quad.get_set_of_ne _ _ hj⟩

theorem dropStale_params (i : Ix4) (s : State) : (dropStale i s).params = s.params := by
  unfold dropStale
  split <;> rfl

theorem Drr.queue_inj {d e : Drr} (h : d.queue = e.queue) : d = e := by
  cases d <;> cases e <;> first | rfl | cases h

theorem lookedAt_looks (s : State) : LookedAt s.sch (lookedAt s).sch := by
  unfold lookedAt
  split
  · exact ⟨rfl, rfl, rfl, fun _ _ => rfl, id, List.suffix_rfl⟩
  · obtain ⟨hdeficit, hturn, hmark, hlevel, -, hother⟩ := dropStale_sch_same s.sch.turn.queue s
    refine ⟨hdeficit, hturn, hmark, fun d hd => ?_, fun hidle => ?_, (dropStale_headsGone _ s).queue _⟩
    · rw [idleQueue, idleQueue, hlevel, hother _ fun hq => hd (Drr.queue_inj hq)]
    · rw [idleQueue, Bool.or_eq_true] at hidle ⊢
      rw [hlevel]
      refine hidle.imp_right fun hempty => ?_
      rw [List.isEmpty_iff] at hempty ⊢
      exact (dropStale_headsGone _ s).empty hempty

theorem lookedAt_heads (s : State) : HeadsGone s.sch (lookedAt s).sch := by
  unfold lookedAt
  split
  · exact .refl _
  · exact dropStale_headsGone _ s

theorem lookedAt_params (s : State) : (lookedAt s).params = s.params := by
  unfold lookedAt
  split
  · rfl
  · exact dropStale_params _ s

theorem CanSelect.visited {s : State} (h : CanSelect s) (hnone : (visited s).sch.inProgress = none) : CanSelect (visited s) where
  free := hnone
  weight := by
    show ∀ d, 1 ≤ (lookedAt s).params.qWeight.get d
    rw [lookedAt_params]
    exact h.weight
  frames i f hf := by
    have hqueues : (Machine.visited s).sch.queues = (lookedAt s).sch.queues := (drrVisit_queues _ _).1
    rw [hqueues] at hf
    exact h.frames i f ((lookedAt_heads s).mem hf)

theorem visited_nearer {s : State} (h : CanSelect s) (hnot : allIdle s.sch = false)
    (hnone : (visited s).sch.inProgress = none) : visitBound (visited s).sch < visitBound s.sch :=
  drrVisit_nearer (lookedAt_looks s) (by rw [lookedAt_params]; exact h.weight) (h.frames _) hnot hnone

/-- How a selection ends: with a frame in progress, or with nothing to send. -/
def SelectionEnded (t : State) : Prop := t.sch.inProgress.isSome = true ∨
  t.sch.inProgress = none ∧ allIdle t.sch = true ∧ t.sch.deficit = ⟨0, 0, 0⟩ ∧ t.sch.mark = false

/-- R97, log entry 20: a selection that has visits enough ends, and more visits do not change it. -/
theorem drrSelect_ends {n : Nat} {s : State} (h : CanSelect s) (hn : visitBound s.sch < n) :
    SelectionEnded (drrSelect n s) ∧ drrSelect (n + 1) s = drrSelect n s := by
  induction n generalizing s with
  | zero => exact absurd hn (Nat.not_lt_zero _)
  | succ n ih =>
    rw [drrSelect_succ, drrSelect_succ]
    cases hall : allIdle s.sch with
    | true => exact ⟨.inr ⟨h.free, hall, rfl, rfl⟩, rfl⟩
    | false =>
      simp only [Bool.false_eq_true, if_false]
      cases hsome : (visited s).sch.inProgress with
      | some i => exact ⟨.inl (by simp [hsome]), rfl⟩
      | none =>
        have hnearer := visited_nearer h hall hsome
        simp only [Option.isSome_none, Bool.false_eq_true, if_false]
        exact ih (h.visited hsome) (by omega)

/-! ## Selecting a data frame -/

theorem selectData_of_head {s : State} {f : FrameRec} {rest : List FrameRec} (h : (dropStale .i0 s).sch.queues.i0 = f :: rest) :
    selectData s = (dropStale .i0 s).modSch fun x => { x with inProgress := some .i0 } := by
  refine if_neg ?_
  rw [show (dropStale .i0 s).sch.queues.get .i0 = f :: rest from h]
  exact Bool.false_ne_true

theorem selectData_of_empty {s : State} (h : (dropStale .i0 s).sch.queues.i0 = []) :
    selectData s = drrSelect 64 (dropStale .i0 s) := by
  refine if_pos ?_
  rw [show (dropStale .i0 s).sch.queues.get .i0 = [] from h]
  rfl

theorem CanSelect.swept {s : State} (h : CanSelect s) (i : Ix4) : CanSelect (dropStale i s) where
  free := (dropStale_progress i s).trans h.free
  weight := by rw [dropStale_params]; exact h.weight
  frames j f hf := h.frames j f ((dropStale_headsGone i s).mem hf)

/-- Q0 has been swept and holds nothing. -/
structure SweptEmpty (s : State) : Prop where
  free : s.sch.inProgress = none
  empty : s.sch.queues.i0 = []
  counted : satAdd (s.mon.traffic.sch.stale.get .i0) 0 = s.mon.traffic.sch.stale.get .i0

theorem satAdd_satAdd_zero (n k : Nat) : satAdd (satAdd n k) 0 = satAdd n k := by
  unfold satAdd
  omega

theorem Quad.set_get {α : Type} (x : Quad α) (i : Ix4) : x.set i (x.get i) = x := by cases i <;> rfl

/-- R89: the stale heads of a queue that is not in progress. -/
theorem dropStale_of_idle {i : Ix4} {s : State} (h : s.sch.inProgress ≠ some i) : dropStale i s =
    { s with
      sch := { s.sch with queues := s.sch.queues.set i (freshFrom s.time.ms s.params.ageLimit (s.sch.queues.get i)) }
      mon := { s.mon with traffic := { s.mon.traffic with sch := { s.mon.traffic.sch with
        stale := s.mon.traffic.sch.stale.addAt i ((s.sch.queues.get i).length -
          (freshFrom s.time.ms s.params.ageLimit (s.sch.queues.get i)).length) } } } } := by
  refine if_neg ?_
  rw [Scheduler.progressIn, beq_iff_eq]
  exact h

theorem SweptEmpty.dropStale_eq {s : State} (h : SweptEmpty s) : dropStale .i0 s = s := by
  rw [dropStale_of_idle (by rw [h.free]; nofun), show s.sch.queues.get .i0 = [] from h.empty]
  have hqueues : s.sch.queues.set .i0 (freshFrom s.time.ms s.params.ageLimit []) = s.sch.queues := by
    rw [show freshFrom s.time.ms s.params.ageLimit [] = s.sch.queues.get .i0 from h.empty.symm, Quad.set_get]
  have hcount : s.mon.traffic.sch.stale.addAt .i0 (([] : List FrameRec).length -
      (freshFrom s.time.ms s.params.ageLimit []).length) = s.mon.traffic.sch.stale := by
    rw [Quad.addAt]
    exact (congrArg (s.mon.traffic.sch.stale.set .i0) h.counted).trans (Quad.set_get _ _)
  rw [hqueues, hcount]

theorem sweptEmpty_first {s : State} (h : s.sch.inProgress = none) (hempty : (dropStale .i0 s).sch.queues.i0 = []) :
    SweptEmpty (dropStale .i0 s) where
  free := (dropStale_progress _ s).trans h
  empty := hempty
  counted := by
    rw [dropStale_of_idle (by rw [h]; nofun)]
    show satAdd ((s.mon.traffic.sch.stale.addAt .i0 _).get .i0) 0 = (s.mon.traffic.sch.stale.addAt .i0 _).get .i0
    rw [Quad.addAt, Quad.get_set_same]
    exact satAdd_satAdd_zero _ _

theorem Drr.queue_ne_i0 (d : Drr) : d.queue ≠ .i0 := by cases d <;> decide

theorem SweptEmpty.swept {s : State} (h : SweptEmpty s) (d : Drr) : SweptEmpty (dropStale d.queue s) where
  free := (dropStale_progress _ s).trans h.free
  empty := ((dropStale_sch_same d.queue s).2.2.2.2.2 .i0 (Drr.queue_ne_i0 d).symm).trans h.empty
  counted := by
    rw [dropStale_of_idle (by rw [h.free]; nofun)]
    show satAdd ((s.mon.traffic.sch.stale.addAt d.queue _).get .i0) 0 = (s.mon.traffic.sch.stale.addAt d.queue _).get .i0
    rw [Quad.addAt, Quad.get_set_of_ne _ _ (Drr.queue_ne_i0 d).symm]
    exact h.counted

theorem SweptEmpty.visited {s : State} (h : SweptEmpty s) (hnone : (visited s).sch.inProgress = none) :
    SweptEmpty (visited s) := by
  have hlooked : SweptEmpty (lookedAt s) := by
    unfold lookedAt
    split
    · exact h
    · exact h.swept s.sch.turn
  refine ⟨hnone, ?_, hlooked.counted⟩
  exact (congrArg Quad.i0 (drrVisit_queues _ _).1).trans hlooked.empty

/-- R97: a selection is the selection from the state that a pass of the turn leaves. -/
theorem drrSelect_pass {s : State} (h : CanSelect s) (hempty : SweptEmpty s) (hnot : allIdle s.sch = false)
    (hnone : (visited s).sch.inProgress = none) : drrSelect 64 s = selectData (visited s) := by
  have hswept := hempty.visited hnone
  have hbound := visited_nearer h hnot hnone
  have hle := visitBound_le s.sch
  have hmore := (drrSelect_ends (n := 63) (h.visited hnone) (by omega)).2
  have hsucc := drrSelect_succ 63 s
  rw [if_neg (by rw [hnot]; exact Bool.false_ne_true), if_neg (by rw [hnone]; exact Bool.false_ne_true)] at hsucc
  rw [selectData_of_empty (by rw [hswept.dropStale_eq]; exact hswept.empty), hswept.dropStale_eq]
  exact hsucc.trans hmore.symm

/-! ## O25 -/

theorem idleQueue_iff (x : Scheduler) (d : Drr) : idleQueue x d = true ↔
    shedAt x.shedLevel d.queue = true ∨ x.queues.get d.queue = [] := by
  rw [idleQueue, Bool.or_eq_true, List.isEmpty_iff]

/-- A queue of the round robin is idle once Q0 has been swept exactly when it was before. -/
theorem idle_first (s : State) (d : Drr) : idleQueue (dropStale .i0 s).sch d = true ↔
    shedAt s.sch.shedLevel d.queue = true ∨ s.sch.queues.get d.queue = [] := by
  obtain ⟨-, -, -, hlevel, -, hother⟩ := dropStale_sch_same .i0 s
  rw [idleQueue_iff, hlevel, hother _ (Drr.queue_ne_i0 d)]

theorem not_allIdle_first {s : State}
    (h : ∃ d : Drr, ¬ shedAt s.sch.shedLevel d.queue = true ∧ s.sch.queues.get d.queue ≠ []) :
    allIdle (dropStale .i0 s).sch = false := by
  obtain ⟨d, hunshed, hne⟩ := h
  rw [← Bool.not_eq_true, allIdle_iff]
  exact fun hall => ((idle_first s d).mp (hall d)).elim hunshed hne

/-- What a selection that ends leaves. -/
theorem selectData_ends {s : State} (h : CanSelect s) :
    (∃ i f rest, (selectData s).sch.inProgress = some i ∧ (selectData s).sch.queues.get i = f :: rest ∧
      shedAt s.sch.shedLevel i = false ∧ f ∈ s.sch.queues.get i) ∨
    ((selectData s).sch.inProgress = none ∧ (selectData s).sch.queues.i0 = [] ∧
      (∀ i, shedAt s.sch.shedLevel i = true ∨ (selectData s).sch.queues.get i = []) ∧
      (selectData s).sch.deficit = ⟨0, 0, 0⟩ ∧ (selectData s).sch.mark = false) := by
  obtain ⟨hheads, hchosen⟩ := selectData_selects h.free
  cases hprogress : (selectData s).sch.inProgress with
  | some i =>
    obtain ⟨hne, hunshed⟩ := hchosen i hprogress
    obtain ⟨f, rest, hq⟩ := List.exists_cons_of_ne_nil hne
    exact .inl ⟨i, f, rest, rfl, hq, hunshed, hheads.mem (by rw [hq]; exact List.mem_cons_self)⟩
  | none =>
    refine .inr ⟨rfl, ?_⟩
    cases hfirst : (dropStale .i0 s).sch.queues.i0 with
    | cons f rest =>
      rw [selectData_of_head hfirst] at hprogress
      cases hprogress
    | nil =>
      have hselect := selectData_of_empty hfirst
      have hbound := visitBound_le (dropStale .i0 s).sch
      obtain ⟨hend, -⟩ := drrSelect_ends (n := 64) (h.swept .i0) (by omega)
      rw [← hselect] at hend
      obtain ⟨-, hidle, hdeficit, hmark⟩ := hend.resolve_left (by rw [hprogress]; exact Bool.false_ne_true)
      have hzero : (selectData s).sch.queues.i0 = [] := by
        rw [hselect]
        exact (drrSelect_selects 64 (h.swept .i0).free).heads.empty (i := .i0) hfirst
      refine ⟨hzero, fun i => ?_, hdeficit, hmark⟩
      have hdrr : ∀ d : Drr, shedAt s.sch.shedLevel d.queue = true ∨ (selectData s).sch.queues.get d.queue = [] := fun d => by
        have hd := (idleQueue_iff _ d).mp ((allIdle_iff _).mp hidle d)
        rwa [hheads.level] at hd
      cases i
      · exact .inr hzero
      · exact hdrr .q1
      · exact hdrr .q2
      · exact hdrr .q3

theorem dropStale_spec (i : Ix4) (s : State) :
    let kept := (s.sch.queues.get i).dropWhile fun f => decide (s.params.ageLimit * 100 < (s.time.ms - f.arrival).toNat)
    (s.sch.inProgress = some i → dropStale i s = s) ∧
    (s.sch.inProgress ≠ some i → dropStale i s = { s with
      sch := { s.sch with queues := s.sch.queues.set i kept }
      mon := { s.mon with traffic := { s.mon.traffic with sch := { s.mon.traffic.sch with
        stale := s.mon.traffic.sch.stale.set i
          (satAdd (s.mon.traffic.sch.stale.get i) ((s.sch.queues.get i).length - kept.length)) } } } }) :=
  ⟨fun h => if_pos (by rw [Scheduler.progressIn, h, beq_self_eq_true]), fun h => dropStale_of_idle h⟩

/-- The passes of the turn, from the state in which Q0 has been swept. -/
theorem selectData_pass {s : State} (h : CanSelect s) (hfirst : (dropStale .i0 s).sch.queues.i0 = [])
    (hsome : ∃ d : Drr, ¬ shedAt s.sch.shedLevel d.queue = true ∧ s.sch.queues.get d.queue ≠ [])
    (hnone : (visited (dropStale .i0 s)).sch.inProgress = none) : selectData s = selectData (visited (dropStale .i0 s)) := by
  rw [selectData_of_empty hfirst]
  exact drrSelect_pass (h.swept .i0) (sweptEmpty_first h.free hfirst) (not_allIdle_first hsome) hnone

/-- A visit of an idle queue. -/
theorem visited_of_idle {s : State} (hidle : idleQueue (lookedAt s).sch (lookedAt s).sch.turn = true) : visited s =
    (lookedAt s).modSch fun x => { x with deficit := s.sch.deficit.set s.sch.turn 0, turn := s.sch.turn.succ, mark := false } := by
  have hlooks := lookedAt_looks s
  unfold visited
  rw [State.modSch, drrVisit_of_idle _ hidle, hlooks.deficit, hlooks.turn]
  rfl

/-- A visit of a queue with a head. -/
theorem visited_of_head {s : State} {f : FrameRec} {rest : List FrameRec} (hunshed : shedAt s.sch.shedLevel s.sch.turn.queue = false)
    (hq : (lookedAt s).sch.queues.get s.sch.turn.queue = f :: rest) : visited s = (lookedAt s).modSch fun x =>
      if f.units ≤ turnDeficit s.params s.sch then
        { x with deficit := s.sch.deficit.set s.sch.turn (turnDeficit s.params s.sch - f.units), mark := true
                 inProgress := some s.sch.turn.queue }
      else { x with deficit := s.sch.deficit.set s.sch.turn (turnDeficit s.params s.sch), turn := s.sch.turn.succ, mark := false } := by
  have hlooks := lookedAt_looks s
  have hidle : idleQueue (lookedAt s).sch (lookedAt s).sch.turn = false := by
    rw [← Bool.not_eq_true, idleQueue_iff, (lookedAt_heads s).level, hlooks.turn, hunshed, hq]
    rintro (h | h)
    · cases h
    · cases h
  have hdeficit : turnDeficit (lookedAt s).params (lookedAt s).sch = turnDeficit s.params s.sch := by
    rw [turnDeficit, turnDeficit, lookedAt_params, hlooks.deficit, hlooks.turn, hlooks.mark]
  unfold visited
  rw [State.modSch, State.modSch, drrVisit_of_head _ hidle (by rw [hlooks.turn]; exact hq), hdeficit, hlooks.deficit]
  rw [hlooks.turn]

/-- Settles O25: how a selection ends, what a look at a queue drops, and what each visit does. -/
theorem selectionEnds : Obligations.SelectionEnds := by
  unfold Obligations.SelectionEnds
  have hcan : ∀ s : State, s.sch.inProgress = none → ParamsOk s.params → (∀ i f, f ∈ s.sch.queues.get i → f.units ≤ 26) →
      CanSelect s := fun s hnone hparams hframes => ⟨hnone, fun d => (hparams.qWeight d).1, hframes⟩
  refine ⟨fun s hnone hparams hframes => selectData_ends (hcan s hnone hparams hframes), dropStale_spec, ?_⟩
  intro s hnone hparams hframes first turn shed
  have hready := hcan s hnone hparams hframes
  obtain ⟨hdeficit, hturn, hmark, hlevel, -, -⟩ := dropStale_sch_same .i0 s
  have hfirst : dropStale .i0 s = first := rfl
  have hparamsFirst : first.params = s.params := dropStale_params .i0 s
  rw [hfirst] at hdeficit hturn hmark hlevel
  refine ⟨fun f rest hq => selectData_of_head hq, fun hempty hall => ?_, fun hempty hshed hsome => ?_, fun hempty hunshed => ?_⟩
  · have hidle : allIdle first.sch = true := (allIdle_iff _).mpr fun d => (idle_first s d).mpr (hall d)
    rw [selectData_of_empty hempty, hfirst]
    exact (drrSelect_succ 63 first).trans (if_pos hidle)
  · have hlooked : lookedAt first = first := if_pos (by rw [hlevel, hturn]; exact hshed)
    have hvisit := visited_of_idle (s := first) (by
      rw [hlooked, idleQueue_iff, hlevel, hturn]
      exact .inl hshed)
    rw [hlooked, hdeficit, hturn] at hvisit
    have hpass := selectData_pass hready hempty hsome (by
      rw [hfirst, hvisit]
      exact (dropStale_progress _ s).trans hnone)
    rw [hfirst, hvisit] at hpass
    exact hpass
  · intro looked
    have hlooked : lookedAt first = looked := by
      have hnot : ¬ shedAt first.sch.shedLevel first.sch.turn.queue = true := by
        rw [hlevel, hturn]
        exact hunshed
      rw [lookedAt, if_neg hnot, hturn]
    have hlturn : looked.sch.turn = turn := by
      rw [← hlooked, (lookedAt_looks first).turn, hturn]
    have hprogress : looked.sch.inProgress = none := (dropStale_progress _ _).trans ((dropStale_progress _ s).trans hnone)
    have hheads : HeadsGone first.sch looked.sch := dropStale_headsGone _ _
    refine ⟨fun hgone hsome => ?_, fun f rest hq => ?_⟩
    · have hvisit := visited_of_idle (s := first) (by
        rw [hlooked, idleQueue_iff, hlturn]
        exact .inr hgone)
      rw [hlooked, hdeficit, hturn] at hvisit
      have hpass := selectData_pass hready hempty hsome (by
        rw [hfirst, hvisit]
        exact hprogress)
      rw [hfirst, hvisit] at hpass
      exact hpass
    · have hne : s.sch.queues.get turn.queue ≠ [] := by
        intro hnil
        have hgone : looked.sch.queues.get turn.queue = [] :=
          hheads.empty ((dropStale_headsGone .i0 s).empty hnil)
        rw [hgone] at hq
        cases hq
      have hsome : ∃ d : Drr, ¬ shedAt s.sch.shedLevel d.queue = true ∧ s.sch.queues.get d.queue ≠ [] := ⟨turn, hunshed, hne⟩
      have hvisit := visited_of_head (s := first) (f := f) (rest := rest)
        (by rw [hlevel, hturn, ← Bool.not_eq_true]; exact hunshed) (by rw [hlooked, hturn]; exact hq)
      have hpays : turnDeficit first.params first.sch = s.sch.deficit.get turn + (if s.sch.mark then 0 else 8 * s.params.qWeight.get turn) := by
        rw [turnDeficit, hdeficit, hturn, hmark, hparamsFirst]
      rw [hlooked, hdeficit, hturn, hpays] at hvisit
      intro deficit
      refine ⟨fun hfits => ?_, fun hshort => ?_⟩
      · have hstate : visited first = looked.modSch fun x =>
            { x with deficit := s.sch.deficit.set turn (deficit - f.units), mark := true, inProgress := some turn.queue } := by
          rw [hvisit]
          simp only [if_pos (show f.units ≤ s.sch.deficit.get turn + (if s.sch.mark then 0 else 8 * s.params.qWeight.get turn) from hfits)]
          rfl
        have hnot : ¬ allIdle first.sch = true := by
          rw [show allIdle first.sch = false from not_allIdle_first hsome]
          exact Bool.false_ne_true
        have hsome' : (visited first).sch.inProgress.isSome = true := by rw [hstate]; rfl
        rw [selectData_of_empty hempty, hfirst]
        exact ((drrSelect_succ 63 first).trans ((if_neg hnot).trans (if_pos hsome'))).trans hstate
      · have hlong : ¬ f.units ≤ s.sch.deficit.get turn + (if s.sch.mark then 0 else 8 * s.params.qWeight.get turn) :=
          Nat.not_le.mpr hshort
        have hstate : visited first = looked.modSch fun x =>
            { x with deficit := s.sch.deficit.set turn deficit, turn := turn.succ, mark := false } := by
          rw [hvisit]
          simp only [if_neg hlong]
          rfl
        have hpass := selectData_pass hready hempty hsome (by
          rw [hfirst, hstate]
          exact hprogress)
        rw [hfirst, hstate] at hpass
        exact hpass

end Sys2Proof.Machine
end

section
/-! PROOFS. The answer to a pull (R18, R94 to R97, R100, R145). -/

namespace Sys2Proof.Machine

/-! ## What the scheduler is asked for -/

theorem pullUnit_of_down {s : State} (h : s.line.state ≠ .run) : pullUnit s = answerUnit fillUnit s := by
  refine if_neg ?_
  rw [State.inRun, beq_iff_eq]
  exact h

theorem pullUnit_of_run {s t : State} {x : Option Bytes} (h : s.line.state = .run) (hnext : nextUnit s = (t, x)) :
    pullUnit s = x.elim (answerUnit fillUnit (t.countSch fun c => { c with fillUnits := satInc c.fillUnits }))
      fun b => answerUnit b t := by
  have hin : s.inRun = true := by rw [State.inRun, beq_iff_eq]; exact h
  rw [pullUnit, if_pos hin, hnext]
  cases x <;> rfl

section
variable {s : State} (hcredit : 1000 ≤ s.sch.credit)
include hcredit

theorem nextUnit_of_slot {x : Slot} (h : s.sch.slot = some x) : nextUnit s = giveMessage x.msg x.sent s := by
  rw [nextUnit, if_neg (show ¬ s.sch.credit < Config.unitCredit from Nat.not_lt.mpr hcredit), h]

theorem nextUnit_of_mq {m : Message} {rest : List Message} (hslot : s.sch.slot = none) (h : s.sch.mq = m :: rest) :
    nextUnit s = giveMessage m 0 (s.modSch fun x => { x with mq := rest }) := by
  rw [nextUnit, if_neg (show ¬ s.sch.credit < Config.unitCredit from Nat.not_lt.mpr hcredit), hslot, h]

theorem nextUnit_of_vq {f : VqFrame} {rest : List VqFrame} (hslot : s.sch.slot = none) (hmq : s.sch.mq = [])
    (h : s.sch.vq = f :: rest) : nextUnit s = giveVoice s := by
  rw [nextUnit, if_neg (show ¬ s.sch.credit < Config.unitCredit from Nat.not_lt.mpr hcredit), hslot, hmq, h]

theorem nextUnit_of_data (hslot : s.sch.slot = none) (hmq : s.sch.mq = []) (h : s.sch.vq = []) : nextUnit s = nextData s := by
  rw [nextUnit, if_neg (show ¬ s.sch.credit < Config.unitCredit from Nat.not_lt.mpr hcredit), hslot, hmq, h]

end

theorem nextUnit_of_poor {s : State} (h : s.sch.credit < 1000) : nextUnit s = (s, none) := if_pos h

/-! ## The units given -/

/-- R96: the state after a message's last unit, before the watches see it. -/
def messageGone (s : State) : State :=
  ((s.countSch fun c => { c with manageUnits := satInc c.manageUnits }).modSch fun x => payUnit { x with slot := none }).countSch
    fun c => { c with messagesSent := satInc c.messagesSent }

theorem giveMessage_eq (m : Message) (sent : Nat) (s : State) : giveMessage m sent s =
    if unitsOf m.bytes.length ≤ sent + 1 then
      (seeMessage false m.kind (messageGone s), some (itemUnit .manage 0 m.bytes sent))
    else ((s.countSch fun c => { c with manageUnits := satInc c.manageUnits }).modSch fun x =>
      payUnit { x with slot := some { msg := m, sent := sent + 1 } }, some (itemUnit .manage 0 m.bytes sent)) := rfl

theorem giveVoice_of_started {s : State} {f : VqFrame} {rest : List VqFrame} (h : s.sch.vq = f :: rest)
    (hf : f.started = true) : giveVoice s =
      (((s.countSch fun c => { c with voiceUnits := satInc c.voiceUnits }).modSch fun x => payUnit { x with vq := rest }).countVoice
        fun v => { v with framesSent := satInc v.framesSent }, some (itemUnit .voice f.stream f.bytes 1)) := by
  have hfind : s.sch.vq.find? (·.started) = some f := by rw [h, List.find?_cons_of_pos hf]
  have herase : s.sch.vq.eraseP (·.started) = rest := by rw [h, List.eraseP_cons_of_pos hf]
  rw [giveVoice, hfind, ← herase]
  rfl

theorem giveVoice_of_fresh {s : State} {f : VqFrame} {rest : List VqFrame} (h : s.sch.vq = f :: rest)
    (hnone : ∀ g ∈ s.sch.vq, g.started = false) : giveVoice s =
      ((s.countSch fun c => { c with voiceUnits := satInc c.voiceUnits }).modSch fun x =>
        payUnit { x with vq := { f with started := true } :: rest }, some (itemUnit .voice f.stream f.bytes 0)) := by
  have hfind : s.sch.vq.find? (·.started) = none := by
    rw [List.find?_eq_none]
    intro g hg
    rw [hnone g hg]
    exact Bool.false_ne_true
  rw [giveVoice, hfind, h]

/-- R96: a data frame with its last unit given, or another. -/
theorem giveData_of_head {s : State} {i : Ix4} {f : FrameRec} {rest : List FrameRec} (h : s.sch.queues.get i = f :: rest) :
    giveData i s =
      if f.units ≤ f.sent + 1 then
        (((s.countSch fun c => { c with dataUnits := satInc c.dataUnits }).modSch fun x =>
          payUnit { x with queues := x.queues.set i rest, inProgress := none }).countSch fun c =>
            { c with framesSent := c.framesSent.inc i }, some (itemUnit .data 0 f.bytes f.sent))
      else ((s.countSch fun c => { c with dataUnits := satInc c.dataUnits }).modSch fun x =>
        payUnit { x with queues := x.queues.set i ({ f with sent := f.sent + 1 } :: rest) },
          some (itemUnit .data 0 f.bytes f.sent)) := by
  rw [giveData, h]

theorem nextData_of_progress {s : State} {i : Ix4} (h : s.sch.inProgress = some i) : nextData s = giveData i s := by
  rw [nextData, h]

theorem nextData_of_selected {s : State} {i : Ix4} (h : s.sch.inProgress = none)
    (hsel : (selectData s).sch.inProgress = some i) : nextData s = giveData i (selectData s) := by
  rw [nextData, h]
  dsimp only
  rw [hsel]

theorem nextData_of_none {s : State} (h : s.sch.inProgress = none) (hsel : (selectData s).sch.inProgress = none) :
    nextData s = (selectData s, none) := by
  rw [nextData, h]
  dsimp only
  rw [hsel]

/-! ## What a selection leaves of the credit -/

theorem drrVisit_credit (p : Params) (x : Scheduler) : (drrVisit p x).credit = x.credit := by
  unfold drrVisit giveQuantum passTurn
  dsimp only
  repeat' split
  all_goals rfl

theorem lookedAt_credit (s : State) : (lookedAt s).sch.credit = s.sch.credit := by
  unfold lookedAt
  split
  · rfl
  · exact (dropStale_sch_same _ s).2.2.2.2.1

theorem drrSelect_credit (n : Nat) (s : State) : (drrSelect n s).sch.credit = s.sch.credit := by
  induction n generalizing s with
  | zero => rfl
  | succ n ih =>
    have hvisit : (visited s).sch.credit = s.sch.credit := (drrVisit_credit _ _).trans (lookedAt_credit s)
    rw [drrSelect_succ]
    split
    · rfl
    · split
      · exact hvisit
      · exact (ih _).trans hvisit

theorem selectData_credit (s : State) : (selectData s).sch.credit = s.sch.credit := by
  have hfirst := (dropStale_sch_same .i0 s).2.2.2.2.1
  unfold selectData
  dsimp only
  split
  · exact (drrSelect_credit _ _).trans hfirst
  · exact hfirst

theorem freshFrom_of_young {now : Word32} {ageLimit : Nat} {f : FrameRec} {rest : List FrameRec}
    (h : (now - f.arrival).toNat ≤ ageLimit * 100) : freshFrom now ageLimit (f :: rest) = f :: rest := by
  rw [freshFrom, List.dropWhile_cons_of_neg]
  rw [FrameRec.stale, decide_eq_true_iff]
  exact Nat.not_lt.mpr h

/-- A selection with every queue empty. -/
theorem selectData_of_allEmpty {s : State} (hq : s.sch.queues = ⟨[], [], [], []⟩) :
    selectData s = (dropStale .i0 s).modSch fun x => { x with deficit := ⟨0, 0, 0⟩, mark := false } := by
  have hempty : ∀ i, s.sch.queues.get i = [] := fun i => by rw [hq]; cases i <;> rfl
  have hidle : allIdle (dropStale .i0 s).sch = true := (allIdle_iff _).mpr fun d => (idle_first s d).mpr (.inr (hempty _))
  rw [selectData_of_empty ((dropStale_headsGone .i0 s).empty (hempty .i0))]
  exact (drrSelect_succ 63 _).trans (if_pos hidle)

/-! ## O40 -/

/-- R96: the state after a message's last unit, and what its watches count. -/
theorem messageGone_seen (k : MsgKind) (b : Bytes) (s : State) :
    MessageSeen false k s (answerUnit b (seeMessage false k (messageGone s))) ∧
      Raised [] (answerUnit b (messageGone s)) (answerUnit b (seeMessage false k (messageGone s))) := by
  have hbefore : Untold s (messageGone s) := .same rfl rfl rfl rfl
  have hafter : Untold (seeMessage false k (messageGone s)) (answerUnit b (seeMessage false k (messageGone s))) := .modOut _ _
  have hback : Untold (answerUnit b (messageGone s)) (messageGone s) := .same rfl rfl rfl rfl
  have htells := (seeMessage_tells false k (messageGone s)).untold hafter
  exact ⟨.of_tells (hbefore.then htells) fun i x y => rfl, (hback.then htells).raised .nil ((seeMessage_quiet false k _).modOut _)⟩

theorem answer_message {s t : State} {m : Message} {sent : Nat} (hrun : s.line.state = .run)
    (hnext : nextUnit s = giveMessage m sent t) :
    (sent + 1 < unitsOf m.bytes.length → pullUnit s = answerUnit (itemUnit .manage 0 m.bytes sent)
      ((t.countSch fun c => { c with manageUnits := satInc c.manageUnits }).modSch fun x =>
        payUnit { x with slot := some { msg := m, sent := sent + 1 } })) ∧
    (unitsOf m.bytes.length ≤ sent + 1 → pullUnit s = answerUnit (itemUnit .manage 0 m.bytes sent)
      (seeMessage false m.kind (messageGone t))) := by
  have hgive := giveMessage_eq m sent t
  rw [← hnext] at hgive
  refine ⟨fun hmore => ?_, fun hlast => ?_⟩
  · rw [if_neg (Nat.not_le.mpr hmore)] at hgive
    exact pullUnit_of_run hrun hgive
  · rw [if_pos hlast] at hgive
    exact pullUnit_of_run hrun hgive

theorem answer_data {s t : State} {i : Ix4} {f : FrameRec} {rest : List FrameRec} (hrun : s.line.state = .run)
    (hnext : nextUnit s = giveData i t) (hq : t.sch.queues.get i = f :: rest) (hprogress : t.sch.inProgress = some i)
    {paid : Nat} (hpaid : t.sch.credit - 1000 = paid) :
    (f.sent + 1 < f.units → pullUnit s = answerUnit (itemUnit .data 0 f.bytes f.sent)
      ((t.countSch fun c => { c with dataUnits := satInc c.dataUnits }).modSch fun x =>
        { x with queues := t.sch.queues.set i ({ f with sent := f.sent + 1 } :: rest), inProgress := some i, credit := paid })) ∧
    (f.units ≤ f.sent + 1 → pullUnit s = answerUnit (itemUnit .data 0 f.bytes f.sent)
      (((t.countSch fun c => { c with dataUnits := satInc c.dataUnits }).modSch fun x =>
        { x with queues := t.sch.queues.set i rest, inProgress := none, credit := paid }).countSch fun c =>
          { c with framesSent := c.framesSent.inc i })) := by
  have hgive := giveData_of_head hq
  rw [← hnext] at hgive
  subst hpaid
  refine ⟨fun hmore => ?_, fun hlast => ?_⟩
  · rw [if_neg (Nat.not_le.mpr hmore)] at hgive
    rw [← hprogress]
    exact pullUnit_of_run hrun hgive
  · rw [if_pos hlast] at hgive
    exact pullUnit_of_run hrun hgive

theorem selectData_of_young {s : State} {f : FrameRec} {rest : List FrameRec}
    (hq : s.sch.queues.i0 = f :: rest) (hyoung : (s.time.ms - f.arrival).toNat ≤ s.params.ageLimit * 100) :
    (selectData s).sch = { s.sch with inProgress := some .i0 } := by
  have hfirst : (dropStale .i0 s).sch = s.sch := by
    have hfresh : freshFrom s.time.ms s.params.ageLimit (s.sch.queues.get .i0) = s.sch.queues.get .i0 := by
      rw [show s.sch.queues.get .i0 = f :: rest from hq]
      exact freshFrom_of_young hyoung
    rw [dropStale_sch, hfresh, Quad.set_get]
    split <;> rfl
  rw [selectData_of_head (by rw [hfirst]; exact hq), State.modSch, hfirst]
  rfl

/-- Settles O40: each source of the next unit in its order, and what a unit of it changes. -/
theorem pullOrder : Obligations.PullOrder := by
  unfold Obligations.PullOrder
  intro s u paid given fill ready manage data
  have hexec : exec .unitPull s = .next (pullUnit u) := rfl
  clear_value u
  refine ⟨fun hdown => ?_, fun hrun hpoor => ?_, fun x hready hslot => ?_, fun m rest hready hslot hmq => ?_,
    fun f rest hready hslot hmq hvq hf => ?_, fun f rest hready hslot hmq hvq hf => ?_,
    fun i f rest hready hslot hmq hvq hprogress hq => ?_, fun i f rest hready hslot hmq hvq hnone hsel hq => ?_,
    fun f rest hready hnone hq hyoung => selectData_of_young hq hyoung,
    fun hready hslot hmq hvq hnone hsel => ⟨selectData_credit u, ?_⟩, fun hready hslot hmq hvq hnone hq => ?_⟩
  · rw [hexec, pullUnit_of_down hdown]
    rfl
  · rw [hexec, pullUnit_of_run hrun (nextUnit_of_poor hpoor)]
    rfl
  all_goals obtain ⟨hrun, hcredit⟩ := hready
  · obtain ⟨hmore, hlast⟩ := answer_message hrun (nextUnit_of_slot hcredit hslot)
    refine ⟨fun h => by rw [hexec, hmore h]; rfl, fun h => ⟨_, hexec, ?_⟩⟩
    rw [hlast h]
    exact messageGone_seen x.msg.kind _ u
  · obtain ⟨hmore, hlast⟩ := answer_message hrun (nextUnit_of_mq hcredit hslot hmq)
    refine ⟨fun h => by rw [hexec, hmore h]; rfl, fun h => ⟨_, hexec, ?_⟩⟩
    rw [hlast h]
    exact messageGone_seen m.kind _ (u.modSch fun x => { x with mq := rest })
  · rw [hexec, pullUnit_of_run hrun ((nextUnit_of_vq hcredit hslot hmq hvq).trans (giveVoice_of_started hvq hf))]
    rfl
  · rw [hexec, pullUnit_of_run hrun ((nextUnit_of_vq hcredit hslot hmq hvq).trans (giveVoice_of_fresh hvq hf))]
    rfl
  all_goals have hnext := nextUnit_of_data hcredit hslot hmq hvq
  · obtain ⟨hmore, hlast⟩ := answer_data hrun (hnext.trans (nextData_of_progress hprogress)) hq hprogress (paid := paid) rfl
    refine ⟨fun h => ?_, fun h => ?_⟩
    · rw [hexec, hmore h]
      simp only [answerUnit, State.modOut, State.countSch, State.modSch, State.countTraffic, State.modMon, State.setSch,
        State.setMon, State.setOut, given]
    · rw [hexec, hlast h]
      simp only [answerUnit, State.modOut, State.countSch, State.modSch, State.countTraffic, State.modMon, State.setSch,
        State.setMon, State.setOut, given]
  · have hpaid : (selectData u).sch.credit - 1000 = paid := by rw [selectData_credit]
    obtain ⟨hmore, hlast⟩ := answer_data hrun (hnext.trans (nextData_of_selected hnone hsel)) hq hsel (paid := paid) hpaid
    refine ⟨fun h => ?_, fun h => ?_⟩
    · rw [hexec, hmore h]
      simp only [answerUnit, State.modOut, State.countSch, State.modSch, State.countTraffic, State.modMon, State.setSch,
        State.setMon, State.setOut, given]
    · rw [hexec, hlast h]
      simp only [answerUnit, State.modOut, State.countSch, State.modSch, State.countTraffic, State.modMon, State.setSch,
        State.setMon, State.setOut, given]
  · rw [hexec, pullUnit_of_run hrun (hnext.trans (nextData_of_none hnone hsel))]
    rfl
  · have hselect := selectData_of_allEmpty hq
    have hsel : (selectData u).sch.inProgress = none := by
      rw [hselect]
      exact (dropStale_progress _ u).trans hnone
    obtain ⟨-, hturn, -, -, -, -⟩ := dropStale_sch_same .i0 u
    refine ⟨_, hexec, ?_⟩
    rw [pullUnit_of_run hrun (hnext.trans (nextData_of_none hnone hsel))]
    refine ⟨rfl, selectData_credit u, ?_, ?_, ?_, ?_⟩
    · show (selectData u).sch.deficit = _
      rw [hselect]
      rfl
    · show (selectData u).sch.turn = _
      rw [hselect]
      exact hturn
    · show (selectData u).sch.mark = _
      rw [hselect]
      rfl
    · show satInc (selectData u).mon.traffic.sch.fillUnits = _
      rw [hselect, dropStale_of_idle (by rw [hnone]; nofun)]
      rfl

end Sys2Proof.Machine
end

section
/-! PROOFS. Received units and their reassembly (R19, R20, R145, R174). -/

namespace Sys2Proof.Machine

/-! ## A unit and its context -/

theorem grow_of_le {limit : Nat} {held : Bytes} (h : held.length ≤ limit) (broken : Bool) :
    grow limit held false broken = { context := .collecting held, broken := broken } ∧
      grow limit held true broken = { context := .idle, broken := broken, frame := some held } :=
  ⟨if_neg (Nat.not_lt.mpr h), if_neg (Nat.not_lt.mpr h)⟩

theorem grow_of_gt {limit : Nat} {held : Bytes} (h : limit < held.length) (broken : Bool) :
    grow limit held false broken = { context := .skipping, broken := broken, oversize := true } ∧
      grow limit held true broken = { context := .idle, broken := broken, oversize := true } :=
  ⟨if_pos h, if_pos h⟩

/-! ## What a received unit brings -/

/-- A unit with a count outside 1..60 is damaged. -/
def unitBad (unit : Bytes) (damaged : Bool) : Bool :=
  damaged || decide ((unitHeader unit).count = 0) || decide (60 < (unitHeader unit).count)

/-- What a unit does to the context of its lane. -/
def laneTaken (lane : Lane) (unit : Bytes) (damaged : Bool) (s : State) : Taken :=
  takeUnit lane.limit (s.line.context lane) (unitBad unit damaged) (unitHeader unit).start (unitHeader unit).last (unitPayload unit)

/-- The state after a unit has acted on its context, before a completed frame is handed on. -/
def unitCounted (lane : Lane) (k : Taken) (s : State) : State :=
  countTaken lane k (s.modLine fun l => l.setContext lane k.context)

theorem receiveUnit_of_down {s : State} (h : s.line.state ≠ .run) (unit : Bytes) (damaged : Bool) : receiveUnit unit damaged s = s := by
  refine if_pos ?_
  rw [State.inRun, Bool.not_eq_true', beq_eq_false_iff_ne]
  exact h

section
variable {s : State} (hrun : s.line.state = .run) (unit : Bytes) (damaged : Bool)
include hrun

theorem receiveUnit_of_unknown (h : (unitHeader unit).channel = none) :
    receiveUnit unit damaged s = s.countTraffic fun c => { c with unknownChannel := satInc c.unknownChannel } := by
  have hin : (!s.inRun) = false := by rw [State.inRun, hrun]; rfl
  rw [receiveUnit, h, hin]
  rfl

theorem receiveUnit_of_channel {ch : Channel} (h : (unitHeader unit).channel = some ch) :
    receiveUnit unit damaged s = (laneOf ch (unitHeader unit).stream).elim s fun lane =>
      ((laneTaken lane unit damaged s).frame.elim (unitCounted lane (laneTaken lane unit damaged s) s) fun f =>
        handOn lane f (unitCounted lane (laneTaken lane unit damaged s) s)) := by
  have hin : (!s.inRun) = false := by rw [State.inRun, hrun]; rfl
  rw [receiveUnit, h, hin]
  dsimp only
  cases laneOf ch (unitHeader unit).stream with
  | none => rfl
  | some lane =>
    dsimp only [Option.elim]
    generalize hk : laneTaken lane unit damaged s = k
    rw [laneTaken] at hk
    rw [show takeUnit lane.limit (s.line.context lane) (damaged || decide ((unitHeader unit).count = 0) || decide (Config.unitPayload < (unitHeader unit).count)) (unitHeader unit).start (unitHeader unit).last (unitPayload unit) = k from hk]
    cases hframe : k.frame <;> rfl

end

/-! ## A message -/

theorem handMessage_of_bad {f : Bytes} (h : readMessage f = none) (s : State) : handMessage f s = countMalformed s := by
  rw [handMessage, h]

/-- R20, R174: a message that reads is seen by the watches, and handed on or counted. -/
theorem handMessage_of_good {f : Bytes} {kind : MsgKind} {tag : Byte} {body : Bytes} (h : readMessage f = some (kind, tag, body))
    (s : State) : handMessage f s =
      if kind = .faultReport then (seeMessage true kind s).countTraffic fun c => { c with inboundReports := satInc c.inboundReports }
      else if kind = .farAnswer then countMalformed (seeMessage true kind s)
      else (seeMessage true kind s).makeDue (.arrival (.message kind tag body)) := by
  rw [handMessage, h]
  cases kind <;> rfl

theorem handMessage_line (f : Bytes) (s : State) : (handMessage f s).line = s.line := by
  rcases h : readMessage f with _ | ⟨kind, tag, body⟩
  · rw [handMessage_of_bad h]
    rfl
  · have hline := (seeMessage_quiet true kind s).line
    rw [handMessage_of_good h]
    split
    · exact hline
    · split <;> exact hline

/-- What a message that reads makes due, is counted as and is seen as, `u` being the state before its unit's counts. -/
theorem handMessage_spec {f : Bytes} {kind : MsgKind} {tag : Byte} {body : Bytes} (h : readMessage f = some (kind, tag, body))
    {u s : State} (huntold : Untold u s) :
    (handMessage f s).due = (if kind = .faultReport ∨ kind = .farAnswer then s.due else s.due ++ [.arrival (.message kind tag body)]) ∧
    (handMessage f s).mon.traffic = { s.mon.traffic with
      inboundReports := if kind = .faultReport then satInc s.mon.traffic.inboundReports else s.mon.traffic.inboundReports
      malformed := if kind = .farAnswer then satInc s.mon.traffic.malformed else s.mon.traffic.malformed } ∧
    MessageSeen true kind u (handMessage f s) := by
  have hquiet := seeMessage_quiet true kind s
  have htells := huntold.then (seeMessage_tells true kind s)
  have htraffic : (seeMessage true kind s).mon.traffic = s.mon.traffic := (congrArg Monitor.traffic hquiet.mon).trans rfl
  have hseen : ∀ t, Untold (seeMessage true kind s) t → MessageSeen true kind u t := fun t ht =>
    .of_tells (htells.untold ht) fun _ _ _ => rfl
  rw [handMessage_of_good h]
  by_cases hreport : kind = .faultReport
  · subst hreport
    refine ⟨hquiet.due, ?_, hseen _ (.same rfl rfl rfl rfl)⟩
    exact congrArg (fun c : TrafficCounters => { c with inboundReports := satInc c.inboundReports }) htraffic
  · rw [if_neg hreport, if_neg hreport]
    by_cases hanswer : kind = .farAnswer
    · subst hanswer
      refine ⟨hquiet.due, ?_, hseen _ (.same rfl rfl rfl rfl)⟩
      exact congrArg (fun c : TrafficCounters => { c with malformed := satInc c.malformed }) htraffic
    · rw [if_neg hanswer, if_neg hanswer, if_neg (by tauto)]
      refine ⟨?_, htraffic, hseen _ (.same rfl rfl rfl rfl)⟩
      exact congrArg (· ++ [Due.arrival (.message kind tag body)]) hquiet.due

/-- Settles O41: a unit by its context and marks, and what a completed frame brings by its channel and kind. -/
theorem reassemblyOfUnits : Obligations.ReassemblyOfUnits := by
  unfold Obligations.ReassemblyOfUnits
  refine ⟨fun limit held p start last => ?_, fun r k => rfl, ?_⟩
  · refine ⟨rfl, rfl, rfl, fun ctx hctx hle => ?_, grow_of_le (broken := true), rfl, fun hle => ?_, fun hgt => ?_, rfl, rfl⟩
    · rcases hctx with rfl | rfl <;> exact grow_of_le hle false
    · exact grow_of_le (by rwa [List.length_append]) false
    · exact grow_of_gt (by rwa [List.length_append]) false
  · intro unit damaged s u h bad
    have hexec : exec (.receivedUnit unit damaged) s = .next (receiveUnit unit damaged u) := rfl
    clear_value u
    refine ⟨fun hdown => ?_, fun hrun hch => ?_, fun hrun hch => ?_, fun hrun hch => ?_, fun c hrun hch hc => ?_, fun hrun hch => ?_⟩
    · rw [hexec, receiveUnit_of_down hdown]
    · rw [hexec, receiveUnit_of_unknown hrun _ _ hch]
    · rw [hexec, receiveUnit_of_channel hrun _ _ hch]
      rfl
    · intro k
      rw [hexec, receiveUnit_of_channel hrun _ _ hch]
      show Host.Outcome.next (k.frame.elim (unitCounted .data k u) fun f => handOn .data f (unitCounted .data k u)) = _
      cases hframe : k.frame <;> rfl
    · intro k
      have hcontext : u.line.context (.voice h.stream) = c := by
        rw [LinePort.context, List.getD_eq_getElem?_getD, hc]
        rfl
      have htaken : laneTaken (.voice h.stream) unit damaged u = k := by
        rw [laneTaken, hcontext]
        rfl
      have hreceive := receiveUnit_of_channel hrun unit damaged hch
      rw [show laneOf .voice (unitHeader unit).stream = some (.voice h.stream) from rfl] at hreceive
      refine ⟨_, hexec, ?_⟩
      rw [hreceive]
      dsimp only [Option.elim]
      rw [htaken]
      cases hframe : k.frame with
      | none => exact ⟨rfl, rfl, rfl, rfl, rfl, rfl, rfl⟩
      | some f =>
        show (handOn (.voice h.stream) f (unitCounted (.voice h.stream) k u)).line = _ ∧ _
        dsimp only
        rw [handOn]
        split
        · exact ⟨rfl, rfl, rfl, rfl, rfl, rfl, rfl⟩
        · exact ⟨rfl, rfl, rfl, rfl, rfl, rfl, rfl⟩
    · intro k
      have hreceive := receiveUnit_of_channel hrun unit damaged hch
      have htaken : laneTaken .manage unit damaged u = k := rfl
      rw [show laneOf .manage (unitHeader unit).stream = some .manage from rfl] at hreceive
      dsimp only [Option.elim] at hreceive
      rw [htaken] at hreceive
      clear_value k
      have hline : (unitCounted .manage k u).line = { u.line with manage := k.context } := rfl
      have hdue : (unitCounted .manage k u).due = u.due := rfl
      have hwatches : (unitCounted .manage k u).mon.watches = u.mon.watches := rfl
      have htraffic : (unitCounted .manage k u).mon.traffic = { u.mon.traffic with manage := u.mon.traffic.manage.after k } := rfl
      have huntold : Untold u (unitCounted .manage k u) := .same rfl rfl rfl rfl
      generalize unitCounted .manage k u = v at hreceive hline hdue hwatches htraffic huntold
      rw [hreceive] at hexec
      clear hreceive
      refine ⟨_, hexec, ?_⟩
      cases hframe : k.frame with
      | none => exact ⟨hline, fun _ => hdue, fun _ => htraffic, nofun, nofun⟩
      | some f =>
        show (handMessage f v).line = _ ∧ (_ → (handMessage f v).due = _) ∧ (_ → (handMessage f v).mon.traffic = _) ∧
          (∀ g, _ → _ → (handMessage f v).due = _ ∧ (handMessage f v).mon.watches = _ ∧ (handMessage f v).mon.traffic = _) ∧
          ∀ g kind tag body, _ → _ → (handMessage f v).due = _ ∧ (handMessage f v).mon.traffic = _ ∧ MessageSeen _ _ _ (handMessage f v)
        refine ⟨(handMessage_line f v).trans hline, nofun, nofun, fun g hg hbad => ?_, fun g kind tag body hg hgood => ?_⟩
        · cases hg
          rw [handMessage_of_bad hbad]
          exact ⟨hdue, hwatches, congrArg (fun c : TrafficCounters => { c with malformed := satInc c.malformed }) htraffic⟩
        · cases hg
          obtain ⟨hdue', htraffic', hseen⟩ := handMessage_spec hgood huntold
          exact ⟨hdue'.trans (by rw [hdue]), htraffic'.trans (by rw [htraffic]), hseen⟩

end Sys2Proof.Machine
end

section
/-! PROOFS. A TRAINED record that passes its check brings the line up (R9, R41, R53, R66, R146). -/

namespace Sys2Proof.Machine

/-! ## The cutback test -/

theorem mqOffer_untold (m : Message) (s : State) : Untold s (mqOffer m s) := by
  unfold mqOffer
  repeat' split
  all_goals exact .same rfl rfl rfl rfl

theorem sendCutback_untold (s : State) : Untold s (sendCutback s) := by
  unfold sendCutback
  exact ((mqOffer_untold _ s).untold (.send _ _)).untold (.modLoad _ _)

theorem cutbackTest_untold (s : State) : Untold s (cutbackTest s) := by
  rcases cutbackTest_cases s with ⟨heq, -⟩ | ⟨-, -, heq⟩ <;> rw [heq]
  · exact .refl s
  · exact sendCutback_untold s

theorem cutbackTest_conditionHolds (s : State) (c : Condition) : conditionHolds (cutbackTest s) c = conditionHolds s c := by
  obtain ⟨-, -, -, hline, htrack, hrate, -, hphone, -, hsupply, -, -⟩ := cutbackTest_frame s
  cases c <;> simp only [conditionHolds, hline, htrack, hrate, hphone, hsupply, State.inRun]

theorem Enters.andCutbackTest {es : List Event} {s t : State} (h : Enters es s t) : Enters es s (cutbackTest t) :=
  h.andUntold (cutbackTest_untold t) (cutbackTest_conditionHolds t)

/-- The parts of the loading record that a cutback does not write. -/
structure SameLoading (x y : Loading) : Prop where
  rxLoads : y.rxLoads = x.rxLoads
  txLoads : y.txLoads = x.txLoads
  prot : y.prot = x.prot
  raiseCount : y.raiseCount = x.raiseCount
  holdoff : y.holdoff = x.holdoff
  failures : y.failures = x.failures
  own : y.own = x.own
  thresh : y.thresh = x.thresh
  offerNumber : y.offerNumber = x.offerNumber

theorem cutbackTest_loading (s : State) : SameLoading s.load (cutbackTest s).load := by
  rcases cutbackTest_cases s with ⟨heq, -⟩ | ⟨-, -, heq⟩ <;> rw [heq]
  · exact ⟨rfl, rfl, rfl, rfl, rfl, rfl, rfl, rfl, rfl⟩
  · rw [sendCutback_load]
    exact ⟨rfl, rfl, rfl, rfl, rfl, rfl, rfl, rfl, rfl⟩

theorem cutbackTest_of_mains {s : State} (h : s.supply.mode = .mains) : cutbackTest s = s := by
  rcases cutbackTest_cases s with ⟨heq, -⟩ | ⟨hneeded, -, -⟩
  · exact heq
  · exact absurd h (cutbackNeeded_iff.mp hneeded).1

theorem cutbackTest_sends {s : State} (hneeded : cutbackNeeded s = true) (hnone : s.load.tx = .none) :
    ∃ c, (cutbackTest s).load.tx = .cutbackOut c := by
  rcases cutbackTest_cases s with ⟨-, hkept⟩ | ⟨-, -, heq⟩
  · exact absurd hnone (hkept hneeded)
  · rw [heq, sendCutback_load]
    exact ⟨_, rfl⟩

theorem mqOffer_queues (m : Message) (s : State) : (mqOffer m s).sch.queues = s.sch.queues ∧
    (mqOffer m s).sch.vq = s.sch.vq ∧ (mqOffer m s).sch.credit = s.sch.credit := by
  unfold mqOffer
  repeat' split
  all_goals exact ⟨rfl, rfl, rfl⟩

theorem cutbackTest_queues (s : State) : (cutbackTest s).sch.queues = s.sch.queues ∧
    (cutbackTest s).sch.vq = s.sch.vq ∧ (cutbackTest s).sch.credit = s.sch.credit := by
  rcases cutbackTest_cases s with ⟨heq, -⟩ | ⟨-, -, heq⟩ <;> rw [heq]
  · exact ⟨rfl, rfl, rfl⟩
  · exact mqOffer_queues _ s

/-! ## Entry to RUN -/

theorem Level.ofCode_code (l : Level) : Level.ofCode l.code = some l := by cases l <;> rfl

theorem checkTrained_of_good {r : TrainedRecord} {lr lt : Level} (hrx : ∀ b ∈ r.rxLoads, b ≤ 12) (htx : ∀ b ∈ r.txLoads, b ≤ 12)
    (hlr : r.rxLevel = lr.code) (hlt : r.txLevel = lt.code) : checkTrained r = some ⟨lr, lt⟩ := by
  have hrx' : r.rxLoads.all (· ≤ Config.maxLoad) = true := List.all_eq_true.mpr fun b hb => decide_eq_true (hrx b hb)
  have htx' : r.txLoads.all (· ≤ Config.maxLoad) = true := List.all_eq_true.mpr fun b hb => decide_eq_true (htx b hb)
  rw [checkTrained, hrx', htx', hlr, hlt, Level.ofCode_code, Level.ofCode_code]
  rfl

/-- The tables, the levels and the line state of an entry to RUN, before anything is told of it. -/
def runTables (r : TrainedRecord) (lv : Dirs Level) (s : State) : State :=
  ((s.modLoad (installTrained r lv)).modTrack fun x => { clearSchedules x with lowerHold := 0 }).modLine fun l =>
    { l with state := .run, training := none, silence := some 0 }

/-- The same, told to the event unit and the watches. -/
def runTold (r : TrainedRecord) (lv : Dirs Level) (s : State) : State :=
  enterCondition .lineRun (raise (.plain .lineUp) (runTables r lv s))

theorem enterRun_eq (r : TrainedRecord) (lv : Dirs Level) (s : State) :
    enterRun r lv s = cutbackTest (recompute (runTold r lv s)) := rfl

theorem runTold_quiet (r : TrainedRecord) (lv : Dirs Level) (s : State) : Quiet (runTables r lv s) (runTold r lv s) :=
  (raise_quiet _ _).trans (enterCondition_quiet _ _)

theorem runTables_untold (r : TrainedRecord) (lv : Dirs Level) (s : State) : Untold s (runTables r lv s) := .same rfl rfl rfl rfl

/-- An entry to RUN enters LINE-RUN; it can end GUARD-ARMED, and enters nothing else. -/
theorem runTables_entered {s : State} (h : s.line.state ≠ .run) (r : TrainedRecord) (lv : Dirs Level) (c : Condition) :
    entered s (runTables r lv s) c = decide (c = .lineRun) := by
  have hin : s.inRun = false := Bool.eq_false_iff.mpr (mt State.inRun_iff.mp h)
  cases c with
  | lineRun =>
    rw [entered, show conditionHolds s .lineRun = false from hin]
    rfl
  | guardArmed =>
    rw [entered, show conditionHolds (runTables r lv s) .guardArmed = false from rfl]
    simp
  | bindingSupply => exact entered_of_same rfl
  | bindingProvider => exact entered_of_same rfl
  | bindingLine => exact entered_of_same rfl
  | cadenceLocked => exact entered_of_same rfl
  | onBattery => exact entered_of_same rfl
  | port1OffHook => exact entered_of_same rfl
  | port2OffHook => exact entered_of_same rfl

theorem runTold_enters {s : State} (h : s.line.state ≠ .run) (r : TrainedRecord) (lv : Dirs Level) :
    Enters [.plain .lineUp] s (runTold r lv s) := by
  have htells := ((runTables_untold r lv s).then (raise_tells (.plain .lineUp) _)).trans
    (enterCondition_tells .lineRun (raise (.plain .lineUp) (runTables r lv s)))
  refine ⟨_, htells, fun i c => ?_⟩
  have hsame : entered s (runTold r lv s) c = entered s (runTables r lv s) c := by
    rw [entered, entered, (runTold_quiet r lv s).conditionHolds]
  rw [hsame, runTables_entered h]
  by_cases hc : c = .lineRun
  · subst hc
    simp [hitBy]
  · simp [hitBy, hc]

theorem enterRun_enters {s : State} (h : s.line.state ≠ .run) (r : TrainedRecord) (lv : Dirs Level) :
    Enters [.plain .lineUp] s (enterRun r lv s) :=
  ((runTold_enters h r lv).andRecompute (runTold_quiet r lv s).rate).andCutbackTest

theorem trainedStep_of_good {r : TrainedRecord} {lv : Dirs Level} {s : State} (h : s.line.state = .training)
    (hcheck : checkTrained r = some lv) : trainedStep r s = enterRun r lv s := by
  rw [trainedStep, if_pos h, hcheck]

/-- The rate record of an entry to RUN: with no guard, the transmit capacity is that of the net load. -/
theorem rateRecord_runTables (r : TrainedRecord) (lv : Dirs Level) (s : State) :
    (rateRecord (runTables r lv s)).raw = ⟨8 * r.rxLoads.sum, 8 * r.txLoads.sum⟩ ∧
      (rateRecord (runTables r lv s)).capacity.tx = 125 * (rateRecord (runTables r lv s)).net.tx / 16 := ⟨rfl, rfl⟩

/-- Settles O29, by what an entry to RUN enters and what the cutback test leaves. -/
theorem trainedBringsTheLineUp : Obligations.TrainedBringsTheLineUp := by
  unfold Obligations.TrainedBringsTheLineUp
  intro r s lr lt
  dsimp only
  have hstep : exec (.trained r) s = .next (trainedStep r (settle s)) := rfl
  generalize settle s = u at hstep
  intro hstate hrx htx hlr hlt
  have hrun : u.line.state ≠ .run := by rw [hstate]; decide
  rw [trainedStep_of_good hstate (checkTrained_of_good hrx htx hlr hlt), enterRun_eq] at hstep
  refine ⟨_, hstep, ?_⟩
  clear hstep
  have henters := enterRun_enters hrun r ⟨lr, lt⟩
  obtain ⟨hpending, hdue, htime, hphone, hvoice, hsupply, hagent, htable, hhome⟩ := enterRun_frame u r ⟨lr, lt⟩
  have hset := henters.set _ (List.mem_singleton_self _)
  have hlog := henters.logGains (.one _)
  have hedges := henters.edgesCounted
  have hline := enterRun_line r ⟨lr, lt⟩ u
  rw [enterRun_eq] at henters hpending hdue htime hphone hvoice hsupply hagent htable hhome hset hlog hedges hline
  generalize hw : recompute (runTold r ⟨lr, lt⟩ u) = w at *
  have hquiet : Quiet ((runTables r ⟨lr, lt⟩ u).setRate (rateRecord (runTables r ⟨lr, lt⟩ u))) w := by
    rw [← hw]
    exact (runTold_quiet r ⟨lr, lt⟩ u).recompute
  have hloading := cutbackTest_loading w
  obtain ⟨hqueues, hvq, hcredit⟩ := cutbackTest_queues w
  obtain ⟨-, -, -, -, htrack, hrate, -, -, -, -, -, -⟩ := cutbackTest_frame w
  have hload := hquiet.load
  have hsch := hquiet.sch
  rw [hquiet.track] at htrack
  rw [hquiet.rate] at hrate
  refine ⟨hline, hloading.rxLoads.trans (congrArg _ hload), hloading.txLoads.trans (congrArg _ hload),
    hloading.prot.trans (congrArg _ hload), hloading.raiseCount.trans (congrArg _ hload), hloading.holdoff.trans (congrArg _ hload),
    hloading.failures.trans (congrArg _ hload), hloading.own.trans ((congrArg Loading.own hload).trans rfl), hloading.thresh.trans ((congrArg Loading.thresh hload).trans rfl),
    hloading.offerNumber.trans ((congrArg Loading.offerNumber hload).trans rfl), htrack, ?_, ?_, hset, hlog, hedges, fun hnone hmode hover => ?_, fun hmains => ?_,
    hpending, hdue, htime, hphone, hvoice, hsupply, hagent, htable, hhome,
    hqueues.trans (congrArg _ hsch), hvq.trans (congrArg _ hsch), hcredit.trans (congrArg _ hsch)⟩
  · rw [hrate]
    exact (rateRecord_runTables r ⟨lr, lt⟩ u).1
  · rw [hrate]
    exact (rateRecord_runTables r ⟨lr, lt⟩ u).2
  · refine cutbackTest_sends (cutbackNeeded_iff.mpr ⟨?_, ?_, ?_⟩) ((congrArg Loading.tx hload).trans hnone)
    · rw [hquiet.supply]
      exact hmode
    · rw [hquiet.line]
      rfl
    · rw [loadCeiling, State.params, hquiet.agent, hquiet.supply, hload]
      exact hover
  · rw [cutbackTest_of_mains (hquiet.supply ▸ hmains)]
    exact ⟨(congrArg Loading.tx hload).trans rfl, hsch, hquiet.out⟩

end Sys2Proof.Machine
end

section
/-! PROOFS. The acceptance of a pin, the mode it works out, and what a mode entry does (R131 to R133), with the loss of port
2's feed (R113, R121). -/

namespace Sys2Proof.Machine

/-- A step that tells of nothing, and may end a condition but enters none. -/
theorem Enters.ends {s t : State} (h : Untold s t) (hnone : ∀ c, entered s t c = false) : Enters [] s t :=
  ⟨_, h, fun i c => by rw [hnone]; rfl⟩

/-! ## Shedding -/

theorem setShedLevel_untold (n : Nat) (s : State) : Untold s (setShedLevel n s) := by
  refine .same (by simp) ?_ (by simp) (by simp)
  exact foldl_keep (fun t : State => t.mon.watches) _ (fun t i => by split <;> rfl) Ix4.all _

theorem setShedLevel_conditionHolds (n : Nat) (s : State) (c : Condition) :
    conditionHolds (setShedLevel n s) c = conditionHolds s c := by
  obtain ⟨-, -, -, hline, -, htrack, hrate, -, hphone, -, hsupply, -, -, -⟩ := setShedLevel_frame s n
  cases c <;> simp only [conditionHolds, hline, htrack, hrate, hphone, hsupply, State.inRun]

/-! ## Port 2 loses its feed -/

/-- Port 2 without its feed. -/
def unfeed (s : State) : State :=
  (s.modPort .p2 fun q => { q.endRing .unfed with pulses := 0, digits := [], stable := 0 }).setDue
    (s.due.filter fun d => !d.ofPort .p2)

/-- The same, and its ring told of. -/
def unfeedRing (s : State) : State :=
  if (s.port .p2).state = .ringing then raiseRingDone .p2 1 (unfeed s) else unfeed s

theorem loseFeed_eq (s : State) : loseFeed s = feedLossClose (unfeedRing s) := by
  unfold loseFeed unfeedRing
  simp only [beq_iff_eq]
  rfl

/-- RING-DONE of a loss of feed. -/
def ringLost (s : State) : List Event := if (s.port .p2).state = .ringing then [.withA .ringDone 1] else []

/-- CHANNEL-CLOSED of a loss of feed, by what port 2's record holds. -/
def callLost (s : State) : List Event :=
  match (s.record .p2).call with
  | .free => []
  | .line _ => [.withA .channelClosed 2]
  | .intercom _ => [.withA .channelClosed 1, .withA .channelClosed 2]

theorem feedLossEvents_of_unfed {s : State} (h : (s.port .p2).state = .unfed) : feedLossEvents s = [] := if_pos h

theorem feedLossEvents_of_fed {s : State} (h : (s.port .p2).state ≠ .unfed) : feedLossEvents s = ringLost s ++ callLost s := by
  refine (if_neg h).trans ?_
  unfold ringLost callLost
  cases (s.record .p2).call <;> rfl

/-- Occurrences of kinds that are logged each time, or not at all. -/
theorem onSetOnce_of_each {es : List Event} (h : ∀ e ∈ es, e.kind.logged ≠ .onSet) : OnSetOnce es :=
  (List.Pairwise.filter _ (List.pairwise_of_forall_mem_list fun a ha _ _ _ => h a ha))

theorem feedLossEvents_kinds (s : State) : ∀ e ∈ feedLossEvents s, e.kind = .ringDone ∨ e.kind = .channelClosed := by
  intro e he
  by_cases hfed : (s.port .p2).state = .unfed
  · rw [feedLossEvents_of_unfed hfed] at he
    exact absurd he List.not_mem_nil
  · rw [feedLossEvents_of_fed hfed, List.mem_append] at he
    rcases he with hring | hcall
    · unfold ringLost at hring
      split at hring
      · rw [List.mem_singleton] at hring
        exact .inl (hring ▸ rfl)
      · exact absurd hring List.not_mem_nil
    · unfold callLost at hcall
      right
      split at hcall
      · exact absurd hcall List.not_mem_nil
      · rw [List.mem_singleton] at hcall
        exact hcall ▸ rfl
      · rw [List.mem_pair] at hcall
        rcases hcall with rfl | rfl <;> rfl

theorem feedLossEvents_each (s : State) : ∀ e ∈ feedLossEvents s, e.kind.logged ≠ .onSet := by
  intro e he
  rcases feedLossEvents_kinds s e he with h | h <;> rw [h] <;> decide

theorem unfeed_entered (s : State) (c : Condition) : entered s (unfeed s) c = false := by
  have hholds : conditionHolds (unfeed s) c = if c = offHookCondition .p2 then false else conditionHolds s c := by
    have hport := modPort_conditionHolds s .p2 (fun q => { q.endRing .unfed with pulses := 0, digits := [], stable := 0 }) c
    exact Eq.trans (by cases c <;> rfl) hport
  rw [entered, hholds]
  split
  · rfl
  · exact Bool.and_not_self _

theorem unfeedRing_enters (s : State) : Enters (ringLost s) s (unfeedRing s) ∧ (unfeedRing s).voice = s.voice := by
  have hunfed : Enters [] s (unfeed s) := .ends (.same rfl rfl rfl rfl) (unfeed_entered s)
  unfold unfeedRing ringLost
  split
  · refine ⟨(hunfed.andUntold (.countPort _ _ _) (countPort_conditionHolds _ _ _)).andRaise _, ?_⟩
    exact ((raise_quiet _ _).voice).trans rfl
  · exact ⟨hunfed, rfl⟩

theorem freeRecord_untold (p : PortId) (s : State) : Untold s (freeRecord p s) := .same rfl rfl rfl rfl

theorem freeRecord_conditionHolds (p : PortId) (s : State) (c : Condition) :
    conditionHolds (freeRecord p s) c = conditionHolds s c := by
  cases c <;> rfl

theorem feedLossClose_enters (s : State) : Enters (callLost s) s (feedLossClose s) ∧
    ∀ c, conditionHolds (feedLossClose s) c = conditionHolds s c := by
  have hfreed : ∀ p, Enters [] s (freeRecord p s) := fun p => .untold (freeRecord_untold p s) (freeRecord_conditionHolds p s)
  unfold feedLossClose callLost State.record
  cases (s.voice.get .p2).call with
  | free => exact ⟨.untold (.refl s) fun _ => rfl, fun _ => rfl⟩
  | line n =>
    refine ⟨(hfreed .p2).andRaise _, fun c => ?_⟩
    rw [(raise_quiet _ _).conditionHolds, freeRecord_conditionHolds]
  | intercom n =>
    refine ⟨(((hfreed .p2).andUntold (freeRecord_untold .p1 _) (freeRecord_conditionHolds .p1 _)).andRaise _).andRaise _,
      fun c => ?_⟩
    rw [(raise_quiet _ _).conditionHolds, (raise_quiet _ _).conditionHolds, freeRecord_conditionHolds,
      freeRecord_conditionHolds]

theorem loseFeed_enters {s : State} (h : (s.port .p2).state ≠ .unfed) : Enters (feedLossEvents s) s (loseFeed s) := by
  obtain ⟨hring, hvoice⟩ := unfeedRing_enters s
  obtain ⟨hclose, hsame⟩ := feedLossClose_enters (unfeedRing s)
  have hcall : callLost (unfeedRing s) = callLost s := by
    unfold callLost
    rw [State.record_of_voice hvoice]
  rw [loseFeed_eq, feedLossEvents_of_fed h, ← hcall]
  exact hring.trans hclose fun c => .inr (hsame c)

theorem PhonePort.hookCode_unfed (q : PhonePort) (h : q.state = .unfed) : q.hookCode = 2 := by
  rw [PhonePort.hookCode, h]

theorem returnFeed_enters {s : State} (h : (s.port .p2).state = .unfed) : Enters [] s (returnFeed s) :=
  modPort_enters (by rw [(s.port .p2).hookCode_unfed h]; rfl)

theorem fed_iff {q : PhonePort} : q.fed = true ↔ q.state ≠ .unfed := by
  rw [PhonePort.fed, bne_iff_ne]

theorem setPort2Feed_of_kept {on : Bool} {s : State} (h : (s.port .p2).fed = on) : setPort2Feed on s = s := by
  rw [setPort2Feed, h]
  cases on <;> rfl

theorem setPort2Feed_enters (on : Bool) (s : State) :
    Enters (if on then [] else feedLossEvents s) s (setPort2Feed on s) := by
  have hkept : Enters [] s s := .untold (.refl s) fun _ => rfl
  by_cases hfed : (s.port .p2).state = .unfed
  · have hun : (s.port .p2).fed = false := by rw [PhonePort.fed, hfed]; rfl
    cases on with
    | false => rw [setPort2Feed_of_kept hun, if_neg Bool.false_ne_true, feedLossEvents_of_unfed hfed]; exact hkept
    | true => rw [setPort2Feed, hun]; exact returnFeed_enters hfed
  · have hon : (s.port .p2).fed = true := fed_iff.mpr hfed
    cases on with
    | false => rw [setPort2Feed, hon]; exact loseFeed_enters hfed
    | true => rw [setPort2Feed_of_kept hon]; exact hkept

/-- Port 2 with its feed, or without. -/
def PhonePort.fedAs (on : Bool) (q : PhonePort) : PhonePort :=
  if q.fed = on then q
  else if on then { q with state := .onHook, pulses := 0, accepted := false, stable := 0 }
  else { q with state := .unfed, ring := none, pulses := 0, digits := [], stable := 0 }

theorem PhonePort.fedAs_unfed (on : Bool) (q : PhonePort) : (q.fedAs on).state = .unfed ↔ on = false := by
  unfold PhonePort.fedAs
  split
  · rename_i h
    rw [← h, PhonePort.fed, bne_eq_false_iff_eq]
  · cases on <;> simp

theorem setPort2Feed_phone (on : Bool) (s : State) :
    (setPort2Feed on s).phone = { s.phone with ports := ⟨s.port .p1, (s.port .p2).fedAs on⟩ } := by
  by_cases hfed : (s.port .p2).fed = on
  · rw [setPort2Feed_of_kept hfed, PhonePort.fedAs, if_pos hfed]
    rfl
  · rw [setPort2Feed, PhonePort.fedAs, if_neg hfed]
    cases on with
    | true =>
      rw [Bool.not_eq_true] at hfed
      rw [hfed]
      rfl
    | false =>
      rw [Bool.not_eq_false] at hfed
      rw [hfed]
      exact loseFeed_phone s

theorem setPort2Feed_conditionHolds (on : Bool) (s : State) {c : Condition} (hc : c ≠ .port2OffHook) :
    conditionHolds (setPort2Feed on s) c = conditionHolds s c := by
  obtain ⟨-, -, hline, -, htrack, hrate, hsupply, -, -, -, -⟩ := setPort2Feed_frame s on
  have hone : (setPort2Feed on s).phone.ports.one = s.phone.ports.one := by rw [setPort2Feed_phone]; rfl
  cases c with
  | port2OffHook => exact absurd rfl hc
  | lineRun => simp only [conditionHolds, State.inRun, hline]
  | bindingSupply => simp only [conditionHolds, hrate]
  | bindingProvider => simp only [conditionHolds, hrate]
  | bindingLine => simp only [conditionHolds, hrate]
  | guardArmed => simp only [conditionHolds, htrack]
  | cadenceLocked => simp only [conditionHolds, htrack]
  | onBattery => simp only [conditionHolds, hsupply]
  | port1OffHook => simp only [conditionHolds, hone]

/-! ## A mode entry -/

/-- The state of a mode entry whose rates are to be recomputed. -/
def inMode (m : Mode) (s : State) : State := s.setSupply { s.supply with mode := m }

/-- A mode entry up to its cutback test. -/
def modeTested (m : Mode) (s : State) : State := cutbackTest (setShedLevel (s.params.shed.get m) (recompute (inMode m s)))

/-- A mode entry up to port 2's feed. -/
def modeFed (m : Mode) (s : State) : State := setPort2Feed (port2FedIn s.params m) (modeTested m s)

theorem modeTested_agent (m : Mode) (s : State) : (modeTested m s).agent = s.agent := by
  simp [modeTested, inMode]

theorem enterMode_eq (m : Mode) (s : State) : enterMode m s = raise (.withA .supplyChange m.code)
    (if s.supply.mode = .mains then enterCondition .onBattery (modeFed m s) else modeFed m s) := by
  have hparams : (recompute (s.setSupply { s.supply with mode := m })).params = s.params := by simp [State.params]
  have hparams' : (cutbackTest (setShedLevel (s.params.shed.get m) (recompute (s.setSupply { s.supply with mode := m })))).params =
      s.params := congrArg Agent.params (modeTested_agent m s)
  unfold enterMode
  simp only [hparams, hparams', beq_iff_eq]
  unfold modeFed modeTested inMode
  rfl

theorem modeTested_phone (m : Mode) (s : State) : (modeTested m s).phone = s.phone ∧ (modeTested m s).voice = s.voice := by
  constructor <;> simp [modeTested, inMode]

theorem feedLossEvents_of_same {s t : State} (hphone : t.phone = s.phone) (hvoice : t.voice = s.voice) :
    feedLossEvents t = feedLossEvents s := by
  unfold feedLossEvents
  rw [State.port_of_phone hphone, State.record_of_voice hvoice]

/-- The occurrences of port 2's feed as a mode has it. -/
def feedEvents (p : Params) (m : Mode) (s : State) : List Event := if p.port2Feed.get m = 1 then [] else feedLossEvents s

theorem modeFed_enters (m : Mode) (s : State) : Enters (feedEvents s.params m s) (inMode m s) (modeFed m s) := by
  obtain ⟨hphone, hvoice⟩ := modeTested_phone m s
  have hrated : Enters [] (inMode m s) (recompute (inMode m s)) := .recompute _
  have htested : Enters [] (inMode m s) (modeTested m s) :=
    (hrated.andUntold (setShedLevel_untold _ _) (setShedLevel_conditionHolds _ _)).andCutbackTest
  have hfeed := setPort2Feed_enters (port2FedIn s.params m) (modeTested m s)
  rw [feedLossEvents_of_same (t := modeTested m s) hphone hvoice] at hfeed
  have hevents : feedEvents s.params m s = if port2FedIn s.params m then [] else feedLossEvents s := by
    rw [feedEvents]
    exact (if_congr (port2FedIn_iff s.params m) rfl rfl).symm
  rw [hevents]
  refine htested.trans hfeed fun c => ?_
  by_cases hc : c = .port2OffHook
  · subst hc
    left
    simp only [conditionHolds, hphone]
    rfl
  · exact .inr (setPort2Feed_conditionHolds _ _ hc)

theorem modeFed_mode (m : Mode) (s : State) : (modeFed m s).supply.mode = m := by simp [modeFed, modeTested, inMode]

/-- ON-BATTERY is entered by an entry from MAINS to another mode. -/
theorem modeFed_entered (m : Mode) (s : State) (c : Condition) : entered s (modeFed m s) c =
    if c = .onBattery then m != .mains && s.supply.mode == .mains else entered (inMode m s) (modeFed m s) c := by
  by_cases hc : c = .onBattery
  · subst hc
    rw [if_pos rfl, entered, conditionHolds, conditionHolds, modeFed_mode]
    cases s.supply.mode <;> rfl
  · have hsame : conditionHolds (inMode m s) c = conditionHolds s c := by
      cases c with
      | onBattery => exact absurd rfl hc
      | _ => rfl
    rw [if_neg hc, entered, entered, hsame]

theorem modeFed_keepsBattery (m : Mode) (s : State) : entered (inMode m s) (modeFed m s) .onBattery = false := by
  rw [entered, conditionHolds, conditionHolds, modeFed_mode]
  exact Bool.and_not_self _

/-- What a mode entry tells of; and, of a mode other than the one in force, the conditions that it enters. -/
theorem enterMode_enters (m : Mode) (s : State) :
    (∃ hits, Tells (feedEvents s.params m s ++ [.withA .supplyChange m.code]) hits s (enterMode m s)) ∧
      (m ≠ s.supply.mode → Enters (feedEvents s.params m s ++ [.withA .supplyChange m.code]) s (enterMode m s)) := by
  obtain ⟨hits, hfed, hedges⟩ := (modeFed_enters m s).told
  have htold : Tells _ hits s (modeFed m s) := (Untold.setSupply s _).then hfed
  rw [enterMode_eq]
  by_cases hmains : s.supply.mode = .mains
  · rw [if_pos hmains]
    have htells := htold.trans (enterCondition_tells .onBattery (modeFed m s))
    rw [List.append_nil] at htells
    refine ⟨⟨_, htells.trans (raise_tells _ _)⟩, fun hm => Enters.andRaise ⟨_, htells, fun i c => ?_⟩ _⟩
    have hquiet := (enterCondition_quiet .onBattery (modeFed m s)).conditionHolds c
    have hkeeps := modeFed_keepsBattery m s
    rw [entered, hquiet, ← entered, modeFed_entered, hedges, hmains]
    by_cases hc : c = .onBattery
    · subst hc
      have hne : (m != .mains) = true := bne_iff_ne.mpr (hmains ▸ hm)
      rw [hkeeps, hne]
      simp [hitBy]
    · simp [hitBy, hc]
  · rw [if_neg hmains]
    refine ⟨⟨_, htold.trans (raise_tells _ _)⟩, fun hm => Enters.andRaise ⟨_, htold, fun i c => ?_⟩ _⟩
    rw [modeFed_entered, hedges]
    by_cases hc : c = .onBattery
    · subst hc
      rw [modeFed_keepsBattery, show (s.supply.mode == .mains) = false from beq_eq_false_iff_ne.mpr hmains]
      simp
    · rw [if_neg hc]

/-! ## A pin's acceptance -/

theorem workOutMode_of_none {s : State} (h : s.supply.mainsOk.accepted = none ∨ s.supply.battLow.accepted = none) :
    workOutMode s = s := by
  unfold workOutMode
  rcases h with h | h <;> rw [h]
  cases s.supply.mainsOk.accepted <;> rfl

theorem workOutMode_of_some {s : State} {m b : Bool} (hm : s.supply.mainsOk.accepted = some m)
    (hb : s.supply.battLow.accepted = some b) :
    workOutMode s = if modeOf m b = s.supply.mode then s else enterMode (modeOf m b) s := by
  rw [workOutMode, hm, hb]

theorem acceptPin_of_seen {pin : PinId} {level : Bool} {s : State} (h : (s.supply.pin pin).seen = some level) :
    acceptPin pin s = workOutMode (s.setSupply (s.supply.setPin pin { s.supply.pin pin with accepted := some level, stable := 0 })) := by
  unfold acceptPin
  simp only [h]

/-! ## What a mode entry leaves -/

theorem enterMode_sch (m : Mode) (s : State) : (enterMode m s).sch = (modeFed m s).sch := by
  rw [enterMode_eq]
  split
  · exact (raise_quiet _ _).sch.trans (enterCondition_quiet _ _).sch
  · exact (raise_quiet _ _).sch

theorem freeRecord_lineQueues (p : PortId) (s : State) : (freeRecord p s).sch.queues = s.sch.queues ∧
    (freeRecord p s).sch.shedLevel = s.sch.shedLevel := ⟨rfl, rfl⟩

theorem feedLossClose_queues (s : State) : (feedLossClose s).sch.queues = s.sch.queues ∧
    (feedLossClose s).sch.shedLevel = s.sch.shedLevel := by
  unfold feedLossClose
  split <;> simp [freeRecord, vqRemove]

theorem setPort2Feed_queues (on : Bool) (s : State) : (setPort2Feed on s).sch.queues = s.sch.queues ∧
    (setPort2Feed on s).sch.shedLevel = s.sch.shedLevel := by
  have hring : (unfeedRing s).sch = s.sch := by
    unfold unfeedRing
    split
    · exact (raise_quiet _ _).sch.trans rfl
    · rfl
  have hlose : (loseFeed s).sch.queues = s.sch.queues ∧ (loseFeed s).sch.shedLevel = s.sch.shedLevel := by
    rw [loseFeed_eq, ← hring]
    exact feedLossClose_queues _
  unfold setPort2Feed
  split <;> split
  · exact ⟨rfl, rfl⟩
  · exact hlose
  · exact ⟨rfl, rfl⟩
  · exact ⟨rfl, rfl⟩

theorem mqOffer_shedLevel (m : Message) (s : State) : (mqOffer m s).sch.shedLevel = s.sch.shedLevel := by
  unfold mqOffer
  repeat' split
  all_goals rfl

theorem cutbackTest_shedLevel (s : State) : (cutbackTest s).sch.shedLevel = s.sch.shedLevel := by
  rcases cutbackTest_cases s with ⟨heq, -⟩ | ⟨-, -, heq⟩ <;> rw [heq]
  exact mqOffer_shedLevel _ s

theorem enterMode_queues (m : Mode) (s : State) : (enterMode m s).sch.shedLevel = s.params.shed.get m ∧
    ∀ i, (enterMode m s).sch.queues.get i =
      if newlyShed s.sch.shedLevel (s.params.shed.get m) i then [] else s.sch.queues.get i := by
  obtain ⟨hqueues, hlevel⟩ := setPort2Feed_queues (port2FedIn s.params m) (modeTested m s)
  have hsch : (recompute (inMode m s)).sch = s.sch := (recompute_quiet _).sch
  rw [enterMode_sch, modeFed, hqueues, hlevel, modeTested, (cutbackTest_queues _).1, cutbackTest_shedLevel]
  refine ⟨setShedLevel_level _ _, fun i => ?_⟩
  rw [setShedLevel_queue, hsch]

theorem enterMode_load (m : Mode) (s : State) : (enterMode m s).load = (modeTested m s).load := (enterMode_sameLine m s).load

/-- R37: on battery a mode entry leaves no loading above the ceiling without a change in flight. -/
theorem modeTested_tx {m : Mode} {s : State} (hrun : s.line.state = .run) (hm : m ≠ .mains)
    (hover : s.params.loadCeiling.get m < 8 * s.load.txLoads.sum) : (modeTested m s).load.tx ≠ .none := by
  have hok := cutbackTest_cutbackOk (setShedLevel (s.params.shed.get m) (recompute (inMode m s)))
  rw [cutbackOk_iff] at hok
  refine hok (cutbackNeeded_iff.mpr ⟨?_, ?_, ?_⟩)
  · simpa [inMode] using hm
  · simpa [inMode] using hrun
  · have htx : (cutbackTest (setShedLevel (s.params.shed.get m) (recompute (inMode m s)))).load.txLoads = s.load.txLoads :=
      (cutbackTest_loading _).txLoads.trans (by simp [inMode])
    rw [htx]
    simpa [inMode, loadCeiling, State.params, rawOf] using hover

theorem enterMode_loads (m : Mode) (s : State) : (enterMode m s).load.txLoads = s.load.txLoads ∧
    (enterMode m s).load.rxLoads = s.load.rxLoads := by
  have hloading := cutbackTest_loading (setShedLevel (s.params.shed.get m) (recompute (inMode m s)))
  rw [enterMode_load]
  exact ⟨hloading.txLoads.trans (by simp [inMode]), hloading.rxLoads.trans (by simp [inMode])⟩

theorem enterMode_supply (m : Mode) (s : State) : (enterMode m s).supply = { s.supply with mode := m } := by
  have hfed : (modeFed m s).supply = { s.supply with mode := m } := by simp [modeFed, modeTested, inMode]
  rw [enterMode_eq, (raise_quiet _ _).supply]
  split
  · exact (enterCondition_quiet _ _).supply.trans hfed
  · exact hfed

theorem enterMode_ports (m : Mode) (s : State) : (enterMode m s).port .p1 = s.port .p1 ∧
    (enterMode m s).port .p2 = (s.port .p2).fedAs (port2FedIn s.params m) := by
  obtain ⟨u, hphone, -, hphone', -⟩ := enterMode_phone m s
  rw [setPort2Feed_phone, hphone, State.port_of_phone hphone, State.port_of_phone hphone] at hphone'
  exact ⟨(congrArg (fun x : Phone => x.ports.one) hphone').trans rfl, (congrArg (fun x : Phone => x.ports.two) hphone').trans rfl⟩

theorem feedEvents_each (p : Params) (m : Mode) (s : State) : ∀ e ∈ feedEvents p m s, e.kind.logged ≠ .onSet := by
  unfold feedEvents
  split
  · exact fun e he => absurd he List.not_mem_nil
  · exact feedLossEvents_each s

/-- Settles O52: the mode of two accepted levels, and the parts that a mode entry writes. -/
theorem pinAcceptances : Obligations.PinAcceptances := by
  unfold Obligations.PinAcceptances
  refine ⟨fun pin level s hdue hseen => ?_, fun m s => ?_⟩
  · intro u v
    have hexec : exec (.pinAcceptance pin) s = .next (workOutMode v) :=
      (exec_due (c := .pinAcceptance pin) (d := .pin pin) rfl hdue).trans (congrArg _ (acceptPin_of_seen hseen))
    have hmode : v.supply.mode = s.supply.mode := by cases pin <;> rfl
    clear_value v
    refine ⟨fun hnone => ?_, fun mains batt hm hb => ⟨fun hsame => ?_, fun hne => ?_⟩⟩
    · rw [hexec, workOutMode_of_none hnone]
    · rw [hexec, workOutMode_of_some hm hb, hmode]
      exact congrArg _ (if_pos hsame)
    · rw [hexec, workOutMode_of_some hm hb, hmode]
      exact congrArg _ (if_neg hne)
  · dsimp only
    obtain ⟨-, htime, hline, -, hagent, htable, hhome⟩ := enterMode_frame s m
    obtain ⟨⟨hits, htells⟩, henters⟩ := enterMode_enters m s
    obtain ⟨hlevel, hqueue⟩ := enterMode_queues m s
    obtain ⟨hone, htwo⟩ := enterMode_ports m s
    obtain ⟨htx, hrx⟩ := enterMode_loads m s
    refine ⟨enterMode_supply m s, hlevel, fun i hnew hold => ?_, fun i hnew => ?_, ?_, hone,
      htells.set (.withA .supplyChange m.code) (by simp), htells.logGains (onSetOnce_of_each fun e he => ?_),
      fun hm => (henters hm).edgesCounted, hline, htime, hagent, htx, hrx, fun hrun hm hover => ?_, htable, hhome⟩
    · rw [hqueue, if_pos]
      rw [newlyShed, hnew, hold]
      rfl
    · rw [hqueue, if_neg]
      rw [newlyShed, hnew]
      exact Bool.false_ne_true
    · rw [htwo, PhonePort.fedAs_unfed, ← Bool.not_eq_true]
      exact not_congr (port2FedIn_iff _ _)
    · rcases List.mem_append.mp he with hfeed | hchange
      · exact feedEvents_each _ _ _ e hfeed
      · rw [List.mem_singleton.mp hchange]
        exact fun h => nomatch h
    · rw [enterMode_load]
      exact modeTested_tx hrun hm hover

end Sys2Proof.Machine
end

section
/-! PROOFS. The counts that a 1 s tick makes before a retrain is ordered (R138 to R143). -/

namespace Sys2Proof.Machine

/-! ## The second that has ended (R139) -/

/-- The state at a tick with the second classified, before SES is raised. -/
def classified (s : State) : State :=
  s.modMon fun m =>
    { m with
      seconds := satInc m.seconds
      perf := { m.perf with
        es := if isEs s then satInc m.perf.es else m.perf.es
        ses := if isSes s then satInc m.perf.ses else m.perf.ses }
      interval := { m.interval with
        es := if isEs s then satInc m.interval.es else m.interval.es
        ses := if isSes s then satInc m.interval.ses else m.interval.ses }
      damage := 0
      lossMark := false }

theorem beginSecond_eq (s : State) : beginSecond s = if isSes s then raise (.plain .ses) (classified s) else classified s := rfl

theorem beginSecond_quiet (s : State) : Quiet (classified s) (beginSecond s) := by
  rw [beginSecond_eq]
  split
  · exact raise_quiet _ _
  · exact .refl _

/-! ## The runs and the availability state (R140) -/

def sesRunAfter (ses : Bool) (n : Nat) : Nat := if ses then min (n + 1) 255 else 0

def clearRunAfter (ses inRun : Bool) (n : Nat) : Nat := if !ses && inRun then min (n + 1) 255 else 0

def availableAfter (ses inRun : Bool) (m : Monitor) : Bool :=
  if m.available then decide (sesRunAfter ses m.sesRun < 10) else decide (10 ≤ clearRunAfter ses inRun m.clearRun)

/-- The monitor after the runs, the availability state and the unavailable second. -/
def availMon (ses inRun : Bool) (m : Monitor) : Monitor := countUas (updateAvailability (updateRuns ses inRun m)).2

theorem updateRuns_eq (ses inRun : Bool) (m : Monitor) : updateRuns ses inRun m =
    { m with sesRun := sesRunAfter ses m.sesRun, clearRun := clearRunAfter ses inRun m.clearRun } := by
  cases ses <;> cases inRun <;> rfl

theorem updateAvailability_runs (ses inRun : Bool) (m : Monitor) : updateAvailability (updateRuns ses inRun m) =
    (m.available && !availableAfter ses inRun m,
      { m with sesRun := sesRunAfter ses m.sesRun, clearRun := clearRunAfter ses inRun m.clearRun
               available := availableAfter ses inRun m }) := by
  rw [updateRuns_eq, updateAvailability, availableAfter]
  by_cases havail : m.available = true
  · by_cases hrun : sesRunAfter ses m.sesRun < 10
    · simp [havail, hrun, Config.availabilityRun]
    · simp [havail, hrun, Config.availabilityRun]
  · by_cases hrun : 10 ≤ clearRunAfter ses inRun m.clearRun
    · simp [havail, hrun, Config.availabilityRun]
    · simp [havail, hrun, Config.availabilityRun]

theorem availMon_eq (ses inRun : Bool) (m : Monitor) : availMon ses inRun m =
    { m with
      sesRun := sesRunAfter ses m.sesRun
      clearRun := clearRunAfter ses inRun m.clearRun
      available := availableAfter ses inRun m
      perf := { m.perf with uas := if availableAfter ses inRun m then m.perf.uas else satInc m.perf.uas }
      interval := { m.interval with uas := if availableAfter ses inRun m then m.interval.uas else satInc m.interval.uas } } := by
  rw [availMon, updateAvailability_runs, countUas]
  cases availableAfter ses inRun m <;> rfl

/-- A second after which the line has become UNAVAILABLE. -/
def becomesUnavailable (s : State) : Bool := s.mon.available && !availableAfter (isSes s) s.inRun s.mon

theorem availabilityAt_fst (s : State) : (availabilityAt (isSes s) (beginSecond s)).1 = becomesUnavailable s := by
  have hquiet := beginSecond_quiet s
  have hin : (beginSecond s).inRun = s.inRun := by rw [State.inRun, hquiet.line]; rfl
  rw [availabilityAt, updateAvailability_runs, hin, hquiet.mon]
  rfl

theorem takeAvailability_eq (s : State) : takeAvailability (isSes s) (beginSecond s) =
    if becomesUnavailable s then raise (.plain .unavailable) ((beginSecond s).modMon (availMon (isSes s) s.inRun))
    else (beginSecond s).modMon (availMon (isSes s) s.inRun) := by
  have hin : (beginSecond s).inRun = s.inRun := by rw [State.inRun, (beginSecond_quiet s).line]; rfl
  rw [← availabilityAt_fst, ← hin]
  rfl

theorem takeAvailability_quiet (s : State) : Quiet ((classified s).modMon (availMon (isSes s) s.inRun))
    (takeAvailability (isSes s) (beginSecond s)) := by
  have hcounted := (beginSecond_quiet s).modMon (f := availMon (isSes s) s.inRun) fun m w => by
    rw [availMon_eq, availMon_eq]
    rfl
  rw [takeAvailability_eq]
  split
  · exact hcounted.trans (raise_quiet _ _)
  · exact hcounted

/-! ## Residency (R141) -/

/-- R141: one second more in a line state. -/
def addLineState (l : LineState) (p : PerfCounters) : PerfCounters :=
  { p with
    inOff := if l = .off then satInc p.inOff else p.inOff
    inTraining := if l = .training then satInc p.inTraining else p.inTraining
    inRun := if l = .run then satInc p.inRun else p.inRun
    inHoldoff := if l = .holdoff then satInc p.inHoldoff else p.inHoldoff }

/-- R141: one second more in a supply mode. -/
def addMode (m : Mode) (p : PerfCounters) : PerfCounters :=
  { p with
    inMains := if m = .mains then satInc p.inMains else p.inMains
    inLifeline := if m = .lifeline then satInc p.inLifeline else p.inLifeline
    inReserve := if m = .reserve then satInc p.inReserve else p.inReserve }

/-- R141: one second more at a binding limit. -/
def addBinding (b : Binding) (p : PerfCounters) : PerfCounters :=
  { p with
    boundSupply := if b = .supply then satInc p.boundSupply else p.boundSupply
    boundProvider := if b = .provider then satInc p.boundProvider else p.boundProvider
    boundLine := if b = .line then satInc p.boundLine else p.boundLine }

/-- R141: one of each residency set, by the line state, the mode, the binding limit in RUN, and the cost of protection. -/
def addResidency (l : LineState) (m : Mode) (b : Binding) (cost : Bool) (p : PerfCounters) : PerfCounters :=
  let q := addMode m (addLineState l p)
  let q := if l == .run then addBinding b q else q
  if (l == .run) && cost then { q with impulseCost := satInc q.impulseCost } else q

/-- R141: protection costs capacity on receive. -/
def protectionCosts (s : State) : Bool := s.track.sched.rx.isSome || s.load.prot.rx.level != .p0

theorem countResidency_eq (s : State) : countResidency s = s.modMon fun m =>
    { m with perf := addResidency s.line.state s.supply.mode s.rate.binding (protectionCosts s) m.perf } := by
  unfold countResidency addResidency protectionCosts State.inRun
  congr 1
  funext m
  cases s.line.state <;> cases s.supply.mode <;> cases s.rate.binding <;> rfl

theorem Quiet.countResidency {s t : State} (h : Quiet s t) : Quiet (countResidency s) (countResidency t) := by
  have hcost : protectionCosts t = protectionCosts s := by rw [protectionCosts, h.track, h.load, protectionCosts]
  rw [countResidency_eq, countResidency_eq, h.line, h.supply, h.rate, hcost]
  exact h.modMon fun _ _ => rfl

theorem Quiet.tickInterval {s t : State} (h : Quiet s t) : Quiet (tickInterval s) (tickInterval t) := by
  unfold Machine.tickInterval State.inRun
  rw [h.line, h.supply, h.rate]
  exact h.modInterval _

/-- The state at a tick with all its counts made, before a retrain is ordered. -/
def secondCounted (s : State) : State :=
  Machine.tickInterval (countResidency ((classified s).modMon (availMon (isSes s) s.inRun)))

/-- The counts of a tick concern the monitor alone. -/
theorem secondCounted_eq (s : State) : secondCounted s = s.setMon (secondCounted s).mon := by
  unfold secondCounted
  rw [countResidency_eq]
  generalize availMon (isSes s) s.inRun = f
  rfl

theorem secondCounted_mon (s : State) : (secondCounted s).mon =
    { s.mon with
      seconds := satInc s.mon.seconds, damage := 0, lossMark := false
      sesRun := sesRunAfter (isSes s) s.mon.sesRun
      clearRun := clearRunAfter (isSes s) s.inRun s.mon.clearRun
      available := availableAfter (isSes s) s.inRun s.mon
      perf := addResidency s.line.state s.supply.mode s.rate.binding (protectionCosts s) { s.mon.perf with
        es := if isEs s then satInc s.mon.perf.es else s.mon.perf.es
        ses := if isSes s then satInc s.mon.perf.ses else s.mon.perf.ses
        uas := if availableAfter (isSes s) s.inRun s.mon then s.mon.perf.uas else satInc s.mon.perf.uas }
      interval := { s.mon.interval with
        elapsed := min (s.mon.interval.elapsed + 1) 900
        es := if isEs s then satInc s.mon.interval.es else s.mon.interval.es
        ses := if isSes s then satInc s.mon.interval.ses else s.mon.interval.ses
        uas := if availableAfter (isSes s) s.inRun s.mon then s.mon.interval.uas else satInc s.mon.interval.uas
        lifeline := if s.supply.mode != .mains then satInc s.mon.interval.lifeline else s.mon.interval.lifeline
        minEffTx := if s.inRun then lowerTo s.mon.interval.minEffTx s.rate.effTx else s.mon.interval.minEffTx
        minRx := if s.inRun then lowerTo s.mon.interval.minRx s.rate.capacity.rx else s.mon.interval.minRx
        noRun := s.mon.interval.noRun || !s.inRun } } := by
  unfold secondCounted
  rw [countResidency_eq]
  unfold tickInterval State.modInterval State.modMon State.setMon
  dsimp only
  rw [availMon_eq]
  rfl

/-- The work of a tick up to the retrain order. -/
def secondWork (s : State) : State := countSecond (takeAvailability (isSes s) (beginSecond s))

theorem secondWork_quiet (s : State) : Quiet (secondCounted s) (secondWork s) :=
  (takeAvailability_quiet s).countResidency.tickInterval.trans (countTimeWatches_quiet _)

theorem secondStep_eq (s : State) : secondStep s =
    dueInterval (farReport (staleSweep (orderRetrain (becomesUnavailable s) (secondWork s)))) := by
  rw [← availabilityAt_fst]
  rfl

/-! ## The monitor after the whole tick -/

/-- The monitor, but for the traffic counts. -/
def Monitor.withoutTraffic (m : Monitor) (c : TrafficCounters) : Monitor := { m with traffic := c }

theorem staleSweep_mon (s : State) : (staleSweep s).mon = { s.mon with traffic := (staleSweep s).mon.traffic } :=
  foldl_keep (fun t : State => t.mon.withoutTraffic (staleSweep s).mon.traffic) _
    (fun t i => by unfold dropStale; split <;> rfl) Ix4.all s

theorem mqOffer_mon (m : Message) (s : State) : (mqOffer m s).mon = { s.mon with traffic := (mqOffer m s).mon.traffic } := by
  unfold mqOffer
  repeat' split
  all_goals rfl

theorem farReport_mon (s : State) : (farReport s).mon = { s.mon with traffic := (farReport s).mon.traffic } := by
  unfold farReport
  dsimp only
  split
  · split <;> exact mqOffer_mon _ _
  · rfl

/-- The monitor `n` keeps what a tick counts in `m`, but for `r` retrains in the interval. -/
structure KeepsTick (r : Nat) (m n : Monitor) : Prop where
  seconds : n.seconds = m.seconds
  damage : n.damage = m.damage
  lossMark : n.lossMark = m.lossMark
  available : n.available = m.available
  sesRun : n.sesRun = m.sesRun
  clearRun : n.clearRun = m.clearRun
  perf : n.perf = m.perf
  history : n.history = m.history
  ports : n.voice.ports = m.voice.ports
  interval : n.interval = { m.interval with retrains := r }

theorem KeepsTick.then {r : Nat} {m n : Monitor} (h : KeepsTick r m n) {k : Monitor}
    (hk : k = { n with traffic := k.traffic }) : KeepsTick r m k := by
  rw [hk]
  exact ⟨h.seconds, h.damage, h.lossMark, h.available, h.sesRun, h.clearRun, h.perf, h.history, h.ports, h.interval⟩

theorem KeepsTick.quiet {r : Nat} {m : Monitor} {s t : State} (h : KeepsTick r m s.mon) (hst : Quiet s t) : KeepsTick r m t.mon := by
  rw [hst.mon]
  exact ⟨h.seconds, h.damage, h.lossMark, h.available, h.sesRun, h.clearRun, h.perf, h.history, h.ports, h.interval⟩

theorem retrainedFrom_keepsTick (s : State) : KeepsTick (satInc s.mon.interval.retrains) s.mon (retrainedFrom s).mon := by
  unfold retrainedFrom
  rw [leaveRun_eq (by decide)]
  exact ⟨rfl, rfl, rfl, rfl, rfl, rfl, rfl, rfl, rfl, rfl⟩

theorem orderRetrain_of_run {s : State} (h : s.line.state = .run) : Raised [.withA .lineDown 4, .withA .retrain 4] (retrainedFrom s)
    (orderRetrain true s) := retrainFromRun_raised h .unavailable

theorem orderRetrain_of_not_run {s : State} (h : s.line.state ≠ .run) (b : Bool) : orderRetrain b s = s := by
  have hin : s.inRun = false := Bool.eq_false_iff.mpr (mt State.inRun_iff.mp h)
  cases b with
  | false => rfl
  | true =>
    rw [orderRetrain, retrainFromRun, hin]
    rfl

theorem orderRetrain_keepsTick (b : Bool) (s : State) : KeepsTick
    (if b && s.inRun then satInc s.mon.interval.retrains else s.mon.interval.retrains) s.mon (orderRetrain b s).mon := by
  by_cases hrun : s.line.state = .run
  · cases b with
    | false => exact ⟨rfl, rfl, rfl, rfl, rfl, rfl, rfl, rfl, rfl, rfl⟩
    | true =>
      rw [State.inRun_iff.mpr hrun]
      exact (retrainedFrom_keepsTick s).quiet (orderRetrain_of_run hrun).quiet
  · have hin : s.inRun = false := Bool.eq_false_iff.mpr (mt State.inRun_iff.mp hrun)
    rw [orderRetrain_of_not_run hrun, hin, Bool.and_false]
    exact ⟨rfl, rfl, rfl, rfl, rfl, rfl, rfl, rfl, rfl, rfl⟩

/-- The monitor's counts at the end of a tick: those made before the retrain order, and the retrain. -/
theorem secondStep_keepsTick (s : State) : KeepsTick
    (if becomesUnavailable s && s.inRun then satInc s.mon.interval.retrains else s.mon.interval.retrains)
    (secondCounted s).mon (secondStep s).mon := by
  have hwork := secondWork_quiet s
  have hin : (secondWork s).inRun = s.inRun := by
    rw [State.inRun, hwork.line]
    rfl
  have hdue : ∀ t, (dueInterval t).mon = t.mon := fun t => by simp
  have horder := orderRetrain_keepsTick (becomesUnavailable s) (secondWork s)
  rw [hin] at horder
  rw [secondStep_eq, hdue]
  refine KeepsTick.then (KeepsTick.then ?_ (staleSweep_mon _)) (farReport_mon _)
  have hretrains : (secondWork s).mon.interval.retrains = s.mon.interval.retrains := by
    rw [hwork.mon, secondCounted_mon]
  rw [hretrains] at horder
  generalize orderRetrain (becomesUnavailable s) (secondWork s) = d at horder
  rw [hwork.mon] at horder
  exact ⟨horder.seconds, horder.damage, horder.lossMark, horder.available, horder.sesRun, horder.clearRun, horder.perf,
    horder.history, horder.ports, horder.interval⟩

end Sys2Proof.Machine
end

section
/-! PROOFS. A 1 s tick: what it tells of, its stale sweep, its far report, and the close of an interval (R89, R138 to R146,
R156). -/

namespace Sys2Proof.Machine

/-! ## The stale sweep (R89) -/

/-- A walk of the data queues that at each of them changes what the state holds of it, by what the walk keeps. -/
theorem foldl_cells {α β : Type} {cell : State → Ix4 → α} {κ : State → β} {g : β → Ix4 → α → α} {f : State → Ix4 → State}
    (keeps : ∀ t i, κ (f t i) = κ t) (step : ∀ t i j, cell (f t i) j = if j = i then g (κ t) i (cell t i) else cell t j)
    {l : List Ix4} (hl : l.Nodup) (s : State) (j : Ix4) :
    cell (l.foldl f s) j = if j ∈ l then g (κ s) j (cell s j) else cell s j := by
  induction l generalizing s with
  | nil => rfl
  | cons i l ih =>
    obtain ⟨hi, hl⟩ := List.nodup_cons.mp hl
    rw [List.foldl_cons, ih hl, keeps, step]
    by_cases hj : j = i
    · subst hj
      simp [hi]
    · simp [hj]

/-- What the scheduler holds of a data queue, and the frames counted stale from it. -/
def staleCell (s : State) (i : Ix4) : List FrameRec × Nat := (s.sch.queues.get i, s.mon.traffic.sch.stale.get i)

/-- What the stale test of a queue leaves: a queue in progress stays. -/
def staleTested (k : Option Ix4 × Word32 × Nat) (i : Ix4) (x : List FrameRec × Nat) : List FrameRec × Nat :=
  if k.1 = some i then x
  else (freshFrom k.2.1 k.2.2 x.1, satAdd x.2 (x.1.length - (freshFrom k.2.1 k.2.2 x.1).length))

theorem staleSweep_cell (s : State) (i : Ix4) : staleCell (staleSweep s) i =
    staleTested (s.sch.inProgress, s.time.ms, s.params.ageLimit) i (staleCell s i) := by
  refine (foldl_cells (κ := fun t => (t.sch.inProgress, t.time.ms, t.params.ageLimit)) (fun t j => ?_) (fun t j k => ?_)
    (l := Ix4.all) (by decide) s i).trans (if_pos i.mem_all)
  · rw [dropStale_progress, dropStale_params]
    simp
  · unfold staleTested
    by_cases hprogress : t.sch.inProgress = some j
    · have hkept : dropStale j t = t := if_pos (by rw [Scheduler.progressIn, hprogress]; exact beq_self_eq_true _)
      rw [hkept, if_pos hprogress]
      split <;> simp_all
    · rw [if_neg hprogress, dropStale_of_idle hprogress]
      unfold staleCell
      dsimp only
      rw [Quad.addAt, Quad.get_set, Quad.get_set]
      split <;> rfl

theorem staleSweep_untold (s : State) : Untold s (staleSweep s) := by
  refine .same (by simp) ?_ (by simp) (by simp)
  rw [staleSweep_mon]

theorem staleSweep_conditionHolds (s : State) (c : Condition) : conditionHolds (staleSweep s) c = conditionHolds s c := by
  obtain ⟨-, -, -, hline, -, htrack, hrate, -, hphone, -, hsupply, -, -, -⟩ := staleSweep_frame s
  cases c <;> simp only [conditionHolds, hline, htrack, hrate, hphone, hsupply, State.inRun]

/-! ## What a tick tells of (R139, R140) -/

/-- SES of a severely errored second. -/
def sesEvents (s : State) : List Event := if isSes s then [.plain .ses] else []

/-- UNAVAILABLE of a second after which the line has become so. -/
def unavailableEvents (s : State) : List Event := if becomesUnavailable s then [.plain .unavailable] else []

/-- LINE-DOWN and RETRAIN of the retrain that an unavailable line in RUN is ordered. -/
def orderEvents (s : State) : List Event :=
  if becomesUnavailable s && s.inRun then [.withA .lineDown 4, .withA .retrain 4] else []

theorem classified_untold (s : State) : Untold s (classified s) := .same rfl rfl rfl rfl

theorem beginSecond_tells (s : State) : ∃ hits, Tells (sesEvents s) hits s (beginSecond s) ∧
    (∀ i c, hits i (.edge c) = 0) ∧ ∀ i c, hits i (.time c) = 0 := by
  rw [beginSecond_eq, sesEvents]
  split
  · exact ⟨_, (classified_untold s).then (raise_tells _ _), fun i c => by simp [hitBy], fun i c => by simp [hitBy]⟩
  · exact ⟨_, classified_untold s, fun _ _ => rfl, fun _ _ => rfl⟩

theorem availMon_untold (ses inRun : Bool) (s : State) : Untold s (s.modMon (availMon ses inRun)) := by
  refine .same rfl ?_ rfl rfl
  show (availMon ses inRun s.mon).watches = s.mon.watches
  rw [availMon_eq]

theorem takeAvailability_tells (s : State) : ∃ hits,
    Tells (unavailableEvents s) hits (beginSecond s) (takeAvailability (isSes s) (beginSecond s)) ∧
    (∀ i c, hits i (.edge c) = 0) ∧ ∀ i c, hits i (.time c) = 0 := by
  have hmon := availMon_untold (isSes s) s.inRun (beginSecond s)
  rw [takeAvailability_eq, unavailableEvents]
  split
  · exact ⟨_, hmon.then (raise_tells _ _), fun i c => by simp [hitBy], fun i c => by simp [hitBy]⟩
  · exact ⟨_, hmon, fun _ _ => rfl, fun _ _ => rfl⟩

theorem setMon_conditionHolds (s : State) (m : Monitor) (c : Condition) : conditionHolds (s.setMon m) c = conditionHolds s c := by
  cases c <;> rfl

theorem secondCounted_conditionHolds (s : State) (c : Condition) : conditionHolds (secondCounted s) c = conditionHolds s c := by
  rw [secondCounted_eq]
  exact setMon_conditionHolds _ _ c

theorem countSecond_tells (s : State) : Tells [] (hitBy (timedBy (conditionHolds s))) s (countSecond s) := by
  have hcounted : Untold s (tickInterval (countResidency s)) := .same rfl rfl rfl rfl
  have hsame : conditionHolds (tickInterval (countResidency s)) = conditionHolds s := funext fun c => by cases c <;> rfl
  rw [← hsame]
  exact hcounted.then (countTimeWatches_tells _)

theorem orderRetrain_tells (s t : State) (hrun : t.inRun = s.inRun) : ∃ hits,
    Tells (orderEvents s) hits t (orderRetrain (becomesUnavailable s) t) ∧
    (∀ i c, hits i (.edge c) = 0) ∧ ∀ i c, hits i (.time c) = 0 := by
  have hkept : ∃ hits, Tells [] hits t t ∧ (∀ i c, hits i (.edge c) = 0) ∧ ∀ i c, hits i (.time c) = 0 :=
    ⟨_, Untold.refl t, fun _ _ => rfl, fun _ _ => rfl⟩
  rw [orderEvents]
  by_cases hin : s.inRun = true
  · cases becomesUnavailable s with
    | false => exact hkept
    | true =>
      have hstate : t.line.state = .run := State.inRun_iff.mp (hrun.trans hin)
      rw [hin, show orderRetrain true t = retrainFromRun .unavailable t from rfl, retrainFromRun_eq hstate]
      exact ⟨_, ((raise_tells _ _).untold (retrainBefore_untold _)).trans (raise_tells _ _), fun i c => by simp [hitBy],
        fun i c => by simp [hitBy]⟩
  · rw [orderRetrain_of_not_run (fun h => hin (hrun ▸ State.inRun_iff.mpr h)), Bool.eq_false_iff.mpr hin, Bool.and_false]
    exact hkept

/-- A tick up to its far report. -/
def secondSwept (s : State) : State := staleSweep (orderRetrain (becomesUnavailable s) (secondWork s))

theorem secondSwept_tells (s : State) : ∃ hits,
    Tells (sesEvents s ++ unavailableEvents s ++ orderEvents s) hits s (secondSwept s) ∧
    (∀ i c, hits i (.edge c) = 0) ∧ ∀ i c, hits i (.time c) = if conditionHolds s c then 1 else 0 := by
  obtain ⟨hits, hbegun, hedge, htime⟩ := beginSecond_tells s
  obtain ⟨hits', htaken, hedge', htime'⟩ := takeAvailability_tells s
  have hcounted := countSecond_tells (takeAvailability (isSes s) (beginSecond s))
  have hwork := secondWork_quiet s
  have hin : (secondWork s).inRun = s.inRun := by
    rw [State.inRun, hwork.line]
    rfl
  obtain ⟨hits'', hordered, hedge'', htime''⟩ := orderRetrain_tells s (secondWork s) hin
  have hall := (((hbegun.trans htaken).trans hcounted).trans hordered).untold (staleSweep_untold _)
  rw [List.append_nil] at hall
  refine ⟨_, hall, fun i c => ?_, fun i c => ?_⟩
  · simp [hedge, hedge', hedge'', hitBy, timedBy]
  · have hsame : conditionHolds (takeAvailability (isSes s) (beginSecond s)) c = conditionHolds s c := by
      rw [(takeAvailability_quiet s).conditionHolds]
      cases c <;> rfl
    simp [htime, htime', htime'', hitBy, timedBy, hsame]

/-- A retrain enters no condition. -/
theorem retrainedFrom_conditionHolds (s : State) (c : Condition) :
    conditionHolds (retrainedFrom s) c = true → conditionHolds s c = true := by
  obtain ⟨-, -, -, hphone, -, hsupply, -, -, -, -⟩ := leaveRun_frame s .training
  have hphone' : (retrainedFrom s).phone = s.phone := hphone
  have hsupply' : (retrainedFrom s).supply = s.supply := hsupply
  have hdown : (retrainedFrom s).line.state = .training ∧ (retrainedFrom s).rate.binding = .none ∧
      (retrainedFrom s).track = clearSchedules s.track := by
    unfold retrainedFrom
    rw [leaveRun_eq (by decide)]
    exact ⟨rfl, rfl, rfl⟩
  obtain ⟨hstate, hbinding, htrack⟩ := hdown
  cases c with
  | lineRun => simp [conditionHolds, State.inRun, hstate]
  | bindingSupply => simp [conditionHolds, hbinding]
  | bindingProvider => simp [conditionHolds, hbinding]
  | bindingLine => simp [conditionHolds, hbinding]
  | guardArmed => simp [conditionHolds, htrack, clearSchedules]
  | cadenceLocked => simp [conditionHolds, htrack, clearSchedules]
  | onBattery => simp [conditionHolds, hsupply']
  | port1OffHook => simp [conditionHolds, hphone']
  | port2OffHook => simp [conditionHolds, hphone']

theorem secondSwept_entered (s : State) (c : Condition) : entered s (secondSwept s) c = false := by
  have hwork : conditionHolds (secondWork s) c = conditionHolds s c :=
    ((secondWork_quiet s).conditionHolds c).trans (secondCounted_conditionHolds s c)
  have hleaves : conditionHolds (orderRetrain (becomesUnavailable s) (secondWork s)) c = true → conditionHolds s c = true := by
    rw [← hwork]
    by_cases hrun : (secondWork s).line.state = .run
    · cases becomesUnavailable s with
      | false => exact fun h => h
      | true =>
        rw [(orderRetrain_of_run hrun).quiet.conditionHolds]
        exact retrainedFrom_conditionHolds _ c
    · rw [orderRetrain_of_not_run hrun]
      exact fun h => h
  rw [entered, secondSwept, staleSweep_conditionHolds]
  cases hafter : conditionHolds (orderRetrain (becomesUnavailable s) (secondWork s)) c with
  | false => rfl
  | true => rw [hleaves hafter]; rfl

/-! ## The far report (R156) -/

/-- The report age that a tick makes. -/
def ageAfter (s : State) : Nat := min (s.evt.reportAge + 1) 255

/-- R156: a FAULT-REPORT is due at the tick. -/
def reportDue (s : State) : Prop := s.params.farReportEvery ≤ ageAfter s ∧ s.evt.farPending ≠ 0

/-- The state at a tick with its report age. -/
def aged (s : State) : State := s.modEvt fun e => { e with reportAge := ageAfter s }

theorem farReport_of_none {s : State} (h : ¬ reportDue s) : farReport s = aged s := if_neg h

theorem farReport_of_due {s : State} (h : reportDue s) : farReport s =
    if s.inRun then (mqOffer (mkMessage .faultReport 0 (faultReportBody (aged s))) (aged s)).modEvt fun e =>
      { e with farPending := 0, reportAge := 0 }
    else mqOffer (mkMessage .faultReport 0 (faultReportBody (aged s))) (aged s) := if_pos h

theorem farReport_evt (s : State) : (farReport s).evt =
    { s.evt with
      reportAge := if s.params.farReportEvery ≤ ageAfter s ∧ s.evt.farPending ≠ 0 ∧ s.inRun = true then 0 else ageAfter s
      farPending := if s.params.farReportEvery ≤ ageAfter s ∧ s.evt.farPending ≠ 0 ∧ s.inRun = true then 0 else s.evt.farPending } := by
  by_cases hdue : reportDue s
  · obtain ⟨hage, hfar⟩ := hdue
    rw [farReport_of_due ⟨hage, hfar⟩]
    have hevt : (mqOffer (mkMessage .faultReport 0 (faultReportBody (aged s))) (aged s)).evt = (aged s).evt := by simp
    by_cases hrun : s.inRun = true
    · rw [if_pos hrun, if_pos ⟨hage, hfar, hrun⟩, if_pos ⟨hage, hfar, hrun⟩]
      show { (mqOffer _ (aged s)).evt with farPending := 0, reportAge := 0 } = _
      rw [hevt]
      rfl
    · have hnot : ¬ (s.params.farReportEvery ≤ ageAfter s ∧ s.evt.farPending ≠ 0 ∧ s.inRun = true) := fun h => hrun h.2.2
      rw [if_neg hrun, if_neg hnot, if_neg hnot, hevt]
      rfl
  · have hnot : ¬ (s.params.farReportEvery ≤ ageAfter s ∧ s.evt.farPending ≠ 0 ∧ s.inRun = true) := fun h => hdue ⟨h.1, h.2.1⟩
    rw [farReport_of_none hdue, if_neg hnot, if_neg hnot]
    rfl

theorem farReport_mq {s : State} (hrun : s.line.state = .run) :
    (¬ reportDue s → (farReport s).sch = s.sch) ∧
    (reportDue s → s.sch.mq.length < 8 → (farReport s).sch.mq = s.sch.mq ++ [mkMessage .faultReport 0 (faultReportBody s)]) := by
  refine ⟨fun hnot => by rw [farReport_of_none hnot]; rfl, fun hdue hroom => ?_⟩
  have hoffer := mqOffer_of_room (m := mkMessage .faultReport 0 (faultReportBody (aged s))) (s := aged s) hrun hroom
  rw [farReport_of_due hdue, if_pos (State.inRun_iff.mpr hrun), hoffer]
  rfl

theorem mqOffer_cells (m : Message) (s : State) : (mqOffer m s).sch.queues = s.sch.queues ∧
    (mqOffer m s).mon.traffic.sch.stale = s.mon.traffic.sch.stale := by
  unfold mqOffer
  repeat' split
  all_goals exact ⟨rfl, rfl⟩

theorem farReport_cell (s : State) (i : Ix4) : staleCell (farReport s) i = staleCell s i := by
  have hoffer : ∀ m, staleCell (mqOffer m (aged s)) i = staleCell s i := by
    intro m
    obtain ⟨hqueues, hstale⟩ := mqOffer_cells m (aged s)
    unfold staleCell
    rw [hqueues, hstale]
    rfl
  by_cases hdue : reportDue s
  · rw [farReport_of_due hdue]
    split <;> exact hoffer _
  · rw [farReport_of_none hdue]
    rfl

/-! ## The tick as a whole -/

theorem secondStep_swept (s : State) : secondStep s = dueInterval (farReport (secondSwept s)) := secondStep_eq s

/-- The log, the flags, the watches and the conditions are those before the far report. -/
theorem secondStep_told (s : State) : (secondStep s).evt.log = (secondSwept s).evt.log ∧
    (secondStep s).evt.pending = (secondSwept s).evt.pending ∧ (secondStep s).mon.watches = (secondSwept s).mon.watches ∧
    ∀ c, conditionHolds (secondStep s) c = conditionHolds (secondSwept s) c := by
  rw [secondStep_swept]
  have hmon : (dueInterval (farReport (secondSwept s))).mon = (farReport (secondSwept s)).mon := by simp
  have hevt : (dueInterval (farReport (secondSwept s))).evt = (farReport (secondSwept s)).evt := by simp
  refine ⟨?_, ?_, ?_, fun c => ?_⟩
  · rw [hevt, farReport_evt]
  · rw [hevt, farReport_evt]
  · rw [hmon, farReport_mon]
  · cases c <;> simp [conditionHolds, State.inRun]

end Sys2Proof.Machine
end

section
/-! PROOFS. The clauses of a 1 s tick, and the close of an interval (R89, R138 to R146, R156). -/

namespace Sys2Proof.Machine

/-! ## Counts -/

theorem addResidency_eq (l : LineState) (m : Mode) (b : Binding) (cost : Bool) (p : PerfCounters) : addResidency l m b cost p =
    { p with
      inOff := if l = .off then satInc p.inOff else p.inOff
      inTraining := if l = .training then satInc p.inTraining else p.inTraining
      inRun := if l = .run then satInc p.inRun else p.inRun
      inHoldoff := if l = .holdoff then satInc p.inHoldoff else p.inHoldoff
      inMains := if m = .mains then satInc p.inMains else p.inMains
      inLifeline := if m = .lifeline then satInc p.inLifeline else p.inLifeline
      inReserve := if m = .reserve then satInc p.inReserve else p.inReserve
      boundSupply := if l = .run ∧ b = .supply then satInc p.boundSupply else p.boundSupply
      boundProvider := if l = .run ∧ b = .provider then satInc p.boundProvider else p.boundProvider
      boundLine := if l = .run ∧ b = .line then satInc p.boundLine else p.boundLine
      impulseCost := if l = .run ∧ cost = true then satInc p.impulseCost else p.impulseCost } := by
  unfold addResidency
  by_cases hrun : l = .run
  · subst hrun
    cases cost <;> simp [addMode, addLineState, addBinding]
  · have hne : (l == .run) = false := beq_eq_false_iff_ne.mpr hrun
    simp [hne, hrun, addMode, addLineState]

theorem becomesUnavailable_iff {s : State} {t : Monitor} (h : t.available = availableAfter (isSes s) s.inRun s.mon) :
    becomesUnavailable s = true ↔ s.mon.available = true ∧ t.available = false := by
  rw [becomesUnavailable, Bool.and_eq_true, Bool.not_eq_true', h]

theorem lowerTo_eq (x : Option Nat) (n : Nat) : lowerTo x n = some (x.elim n fun k => min k n) := by cases x <;> rfl

theorem protectionCosts_iff (s : State) : protectionCosts s = true ↔ s.track.sched.rx ≠ none ∨ s.load.prot.rx.level ≠ .p0 := by
  rw [protectionCosts, Bool.or_eq_true, bne_iff_ne, Option.isSome_iff_ne_none]

/-! ## The line and what is told -/

theorem secondStep_line (s : State) : (secondStep s).line = (orderRetrain (becomesUnavailable s) (secondWork s)).line := by
  rw [secondStep_eq]
  simp

theorem secondWork_line (s : State) : (secondWork s).line = s.line := by
  rw [(secondWork_quiet s).line, secondCounted_eq]
  rfl

/-- A line that is not ordered to retrain stays; one that is, from RUN, is in TRAINING. -/
theorem secondStep_line_cases (s : State) :
    ((becomesUnavailable s && s.inRun) = false → (secondStep s).line = s.line ∧
      orderRetrain (becomesUnavailable s) (secondWork s) = secondWork s) ∧
    ((becomesUnavailable s && s.inRun) = true → (secondStep s).line.state = .training ∧
      Quiet (retrainedFrom (secondWork s)) (orderRetrain (becomesUnavailable s) (secondWork s))) := by
  have hline := secondWork_line s
  refine ⟨fun hnot => ?_, fun hyes => ?_⟩
  · have hkept : orderRetrain (becomesUnavailable s) (secondWork s) = secondWork s := by
      cases hbecomes : becomesUnavailable s with
      | false => rfl
      | true =>
        refine orderRetrain_of_not_run (fun hrun => ?_) true
        rw [hbecomes, Bool.true_and, ← Bool.not_eq_true] at hnot
        exact hnot (State.inRun_iff.mpr (hline ▸ hrun))
    exact ⟨by rw [secondStep_line, hkept, hline], hkept⟩
  · obtain ⟨hbecomes, hin⟩ := Bool.and_eq_true_iff.mp hyes
    have hrun : (secondWork s).line.state = .run := by rw [hline]; exact State.inRun_iff.mp hin
    have hquiet := (orderRetrain_of_run hrun).quiet
    rw [secondStep_line, hbecomes]
    refine ⟨?_, hquiet⟩
    rw [hquiet.line]
    unfold retrainedFrom
    rw [leaveRun_eq (by decide)]
    rfl

theorem LogGains.of_log {es : List Event} {s t u : State} (h : LogGains es s t) (hlog : u.evt.log = t.evt.log) : LogGains es s u := by
  obtain ⟨new, hnew, hrest⟩ := h
  exact ⟨new, hlog.trans hnew, hrest⟩

theorem WatchCounts.of_same {hit : Prop} {i : Ix4} {s t u : State} (h : WatchCounts hit i s t)
    (hwatches : u.mon.watches = t.mon.watches) (hpending : u.evt.pending = t.evt.pending) : WatchCounts hit i s u := by
  unfold WatchCounts at *
  rw [hwatches, hpending]
  exact h

theorem secondEvents_once (s : State) : OnSetOnce (sesEvents s ++ unavailableEvents s ++ orderEvents s) := by
  refine onSetOnce_of_each fun e he => ?_
  have hkinds : e.kind = .ses ∨ e.kind = .unavailable ∨ e.kind = .lineDown ∨ e.kind = .retrain := by
    unfold sesEvents unavailableEvents orderEvents at he
    rw [List.mem_append, List.mem_append] at he
    rcases he with (hses | hunavailable) | horder
    · exact .inl ((mem_if_singleton.mp hses).2 ▸ rfl)
    · exact .inr (.inl ((mem_if_singleton.mp hunavailable).2 ▸ rfl))
    · split at horder
      · rcases List.mem_pair.mp horder with rfl | rfl
        · exact .inr (.inr (.inl rfl))
        · exact .inr (.inr (.inr rfl))
      · exact absurd horder List.not_mem_nil
  rcases hkinds with h | h | h | h <;> rw [h] <;> decide

theorem secondStep_logGains (s : State) : LogGains (sesEvents s ++ unavailableEvents s ++ orderEvents s) s (secondStep s) := by
  obtain ⟨hits, htells, -⟩ := secondSwept_tells s
  exact (htells.logGains (secondEvents_once s)).of_log (secondStep_told s).1

theorem secondStep_set (s : State) {e : Event} (he : e ∈ sesEvents s ++ unavailableEvents s ++ orderEvents s) :
    (secondStep s).evt.pending.has e.kind = true := by
  obtain ⟨hits, htells, -⟩ := secondSwept_tells s
  rw [(secondStep_told s).2.1]
  exact htells.set e he

theorem secondStep_edges (s : State) : EdgesCounted s (secondStep s) := by
  obtain ⟨hits, htells, hedge, -⟩ := secondSwept_tells s
  obtain ⟨-, hpending, hwatches, hholds⟩ := secondStep_told s
  have hswept : EdgesCounted s (secondSwept s) := htells.edges fun i c => by rw [hedge, secondSwept_entered]; rfl
  intro i c hsource
  have hcount := (hswept i c hsource).of_same hwatches hpending
  have hsame : c.Holds (secondStep s) ↔ c.Holds (secondSwept s) := by
    rw [← conditionHolds_iff, ← conditionHolds_iff, hholds]
  rwa [hsame]

theorem secondStep_times (s : State) {i : Ix4} {c : Condition} (hsource : (s.mon.watches.get i).source = .time c) :
    WatchCounts (c.Holds s) i s (secondStep s) := by
  obtain ⟨hits, htells, -, htime⟩ := secondSwept_tells s
  obtain ⟨-, hpending, hwatches, -⟩ := secondStep_told s
  refine (htells.counts (by rw [hsource]; simp) (fun hyes => ?_) fun hno => ?_).of_same hwatches hpending
  · rw [hsource, htime, if_pos ((conditionHolds_iff s c).mpr hyes)]
  · rw [hsource, htime, if_neg fun h => hno ((conditionHolds_iff s c).mp h)]

/-! ## The queues (R89) -/

theorem secondStep_cell (s : State) (i : Ix4) : staleCell (secondStep s) i =
    staleTested ((orderRetrain (becomesUnavailable s) (secondWork s)).sch.inProgress, s.time.ms, s.params.ageLimit) i
      (staleCell (orderRetrain (becomesUnavailable s) (secondWork s)) i) := by
  have hdue : ∀ t, staleCell (dueInterval t) i = staleCell t i := by
    intro t
    unfold staleCell
    simp
  have hwork := secondWork_quiet s
  have htime : (orderRetrain (becomesUnavailable s) (secondWork s)).time = s.time := by
    obtain ⟨-, -, htime, -, -, -, -, -, -⟩ := orderRetrain_frame (secondWork s) (becomesUnavailable s)
    rw [htime, hwork.time, secondCounted_eq]
    rfl
  have hparams : (orderRetrain (becomesUnavailable s) (secondWork s)).params = s.params := by
    have hagent : (orderRetrain (becomesUnavailable s) (secondWork s)).agent = s.agent := by
      obtain ⟨-, -, -, -, -, -, hagent, -, -⟩ := orderRetrain_frame (secondWork s) (becomesUnavailable s)
      rw [hagent, hwork.agent, secondCounted_eq]
      rfl
    exact congrArg Agent.params hagent
  rw [secondStep_swept, hdue, farReport_cell, secondSwept, staleSweep_cell, htime, hparams]

theorem secondWork_cell (s : State) (i : Ix4) : staleCell (secondWork s) i = staleCell s i ∧ (secondWork s).sch = s.sch := by
  have hsch : (secondWork s).sch = s.sch := by
    rw [(secondWork_quiet s).sch, secondCounted_eq]
    rfl
  refine ⟨?_, hsch⟩
  have htraffic : (secondWork s).mon.traffic = s.mon.traffic := by
    rw [(secondWork_quiet s).mon, secondCounted_mon]
  unfold staleCell
  rw [hsch, htraffic]

theorem freshFrom_restartHead (now : Word32) (ageLimit : Nat) (q : List FrameRec) :
    (freshFrom now ageLimit (restartHead q)).map FrameRec.bytes = (freshFrom now ageLimit q).map FrameRec.bytes := by
  cases q with
  | nil => rfl
  | cons f rest =>
    unfold freshFrom restartHead
    rw [List.dropWhile_cons, List.dropWhile_cons]
    show (if f.stale now ageLimit then _ else _ : List FrameRec).map _ = _
    split <;> rfl

theorem retrainedFrom_sch (s : State) : (retrainedFrom s).sch = emptyLineQueues (restartProgress s.sch) := by
  unfold retrainedFrom
  rw [leaveRun_eq (by decide)]
  rfl

/-- R89: the stale sweep of a tick, with no retrain ordered and with one. -/
theorem secondStep_queue (s : State) (i : Ix4) :
    ((secondStep s).line = s.line → s.sch.inProgress ≠ some i →
      staleCell (secondStep s) i = staleTested (none, s.time.ms, s.params.ageLimit) i (staleCell s i)) ∧
    ((secondStep s).line = s.line → s.sch.inProgress = some i → staleCell (secondStep s) i = staleCell s i) ∧
    ((secondStep s).line ≠ s.line → ((secondStep s).sch.queues.get i).map FrameRec.bytes =
      (freshFrom s.time.ms s.params.ageLimit (s.sch.queues.get i)).map FrameRec.bytes) := by
  obtain ⟨hkept, hordered⟩ := secondStep_line_cases s
  obtain ⟨hwork, hsch⟩ := secondWork_cell s i
  have hcell := secondStep_cell s i
  have hsame : (secondStep s).line = s.line → (becomesUnavailable s && s.inRun) = false := by
    intro hline
    by_contra hyes
    rw [Bool.not_eq_false] at hyes
    have hrun := State.inRun_iff.mp (Bool.and_eq_true_iff.mp hyes).2
    rw [← hline, (hordered hyes).1] at hrun
    exact nomatch hrun
  refine ⟨fun hline hprogress => ?_, fun hline hprogress => ?_, fun hline => ?_⟩
  · rw [hcell, (hkept (hsame hline)).2, hwork, hsch, staleTested, staleTested, if_neg hprogress, if_neg nofun]
  · rw [hcell, (hkept (hsame hline)).2, hwork, hsch, staleTested, if_pos hprogress]
  · have hyes : (becomesUnavailable s && s.inRun) = true := by
      by_contra hno
      exact hline (hkept (Bool.not_eq_true _ ▸ hno)).1
    have hstate : (orderRetrain (becomesUnavailable s) (secondWork s)).sch = emptyLineQueues (restartProgress s.sch) := by
      rw [(hordered hyes).2.sch, retrainedFrom_sch, hsch]
    have hfree : (emptyLineQueues (restartProgress s.sch)).inProgress = none := (restartProgress_rest s.sch).1
    have hqueue := congrArg Prod.fst hcell
    rw [hstate, hfree, staleTested, if_neg nofun] at hqueue
    have hqueue' : (secondStep s).sch.queues.get i = freshFrom s.time.ms s.params.ageLimit ((restartProgress s.sch).queues.get i) := by
      refine hqueue.trans ?_
      show freshFrom _ _ ((orderRetrain (becomesUnavailable s) (secondWork s)).sch.queues.get i) = _
      rw [hstate]
      rfl
    rw [hqueue', restartProgress_queue]
    split
    · exact freshFrom_restartHead _ _ _
    · rfl

/-! ## The far report (R156) -/

theorem eq_zero_of_joined {m p : KindSet} {es : List Event} (h : joined m p es = 0) : p = 0 := by
  induction es generalizing p with
  | nil => exact h
  | cons e es ih =>
    have hfirst : insertUnder m p e.kind = 0 := ih h
    unfold insertUnder at hfirst
    split at hfirst
    · exact (BitVec.or_eq_zero_iff.mp hfirst).1
    · exact hfirst

theorem joined_of_masked {m p : KindSet} {es : List Event} (h : ∀ e ∈ es, m.has e.kind = false) : joined m p es = p := by
  induction es generalizing p with
  | nil => rfl
  | cons e es ih =>
    show joined m (insertUnder m p e.kind) es = p
    rw [insertUnder, h e List.mem_cons_self, if_neg Bool.false_ne_true]
    exact ih fun f hf => h f (List.mem_cons_of_mem e hf)

theorem orderEvents_of_run {s : State} (h : (secondStep s).line.state = .run) : orderEvents s = [] ∧
    orderRetrain (becomesUnavailable s) (secondWork s) = secondWork s ∧ (becomesUnavailable s && s.inRun) = false := by
  have hno : (becomesUnavailable s && s.inRun) = false := by
    by_contra hyes
    rw [((secondStep_line_cases s).2 (Bool.not_eq_false _ ▸ hyes)).1] at h
    exact nomatch h
  exact ⟨if_neg (by rw [hno]; exact Bool.false_ne_true), ((secondStep_line_cases s).1 hno).2, hno⟩

/-- A tick after which the line is in RUN tells of SES and of WATCH alone. -/
theorem secondSwept_occurs {s : State} (h : (secondStep s).line.state = .run) : ∃ all : List Event, Occurs all s (secondSwept s) ∧
    ∀ e ∈ all, e.kind = .ses ∨ e.kind = .watch := by
  obtain ⟨hits, htells, -⟩ := secondSwept_tells s
  obtain ⟨all, hall, hrest, -, -⟩ := htells.occurs
  obtain ⟨horder, -, hno⟩ := orderEvents_of_run h
  refine ⟨all, hall, fun e he => ?_⟩
  by_cases hwatch : e.kind = .watch
  · exact .inr hwatch
  · left
    have hin : e ∈ (sesEvents s ++ unavailableEvents s ++ orderEvents s).filter fun e => e.kind != .watch := by
      rw [← hrest, List.mem_filter]
      exact ⟨he, bne_iff_ne.mpr hwatch⟩
    have hbecomes : becomesUnavailable s = false := by
      have hin : s.inRun = true := State.inRun_iff.mpr ((congrArg LinePort.state ((secondStep_line_cases s).1 hno).1).symm.trans h)
      rwa [hin, Bool.and_true] at hno
    rw [horder, List.append_nil, unavailableEvents, hbecomes, if_neg Bool.false_ne_true, List.append_nil, sesEvents] at hin
    exact (mem_if_singleton.mp (List.mem_of_mem_filter hin)).2 ▸ rfl

theorem secondSwept_far (s : State) : (secondSwept s).evt.reportAge = s.evt.reportAge ∧
    (∀ k : Kind, s.evt.farPending.has k = true → (secondSwept s).evt.farPending.has k = true) ∧
    (s.evt.farPending ≠ 0 → (secondSwept s).evt.farPending ≠ 0) := by
  obtain ⟨hits, htells, -⟩ := secondSwept_tells s
  obtain ⟨all, hall, -⟩ := htells.occurs
  refine ⟨hall.age, fun k hk => ?_, fun hne hzero => hne ?_⟩
  · rw [hall.far, joined_has, hk, Bool.true_or]
  · rw [hall.far] at hzero
    exact eq_zero_of_joined hzero

theorem secondSwept_frame (s : State) : (secondSwept s).params = s.params ∧ (secondSwept s).line = (secondStep s).line ∧
    (secondSwept s).supply = s.supply ∧ (secondSwept s).mon.seconds = (secondStep s).mon.seconds := by
  obtain ⟨-, -, -, -, -, hsupply, hagent, -, -⟩ := orderRetrain_frame (secondWork s) (becomesUnavailable s)
  have hwork : (secondWork s).agent = s.agent ∧ (secondWork s).supply = s.supply := by
    rw [(secondWork_quiet s).agent, (secondWork_quiet s).supply, secondCounted_eq]
    exact ⟨rfl, rfl⟩
  refine ⟨?_, ?_, ?_, ?_⟩
  · rw [secondSwept, State.params, (staleSweep_frame _).2.2.2.2.2.2.2.2.2.2.2.2.1, hagent, hwork.1, State.params]
  · rw [secondStep_line, secondSwept]
    simp
  · rw [secondSwept, (staleSweep_frame _).2.2.2.2.2.2.2.2.2.2.1, hsupply, hwork.2]
  · rw [secondStep_swept]
    have hmon : (dueInterval (farReport (secondSwept s))).mon = (farReport (secondSwept s)).mon := by simp
    rw [hmon, farReport_mon]

theorem secondSwept_mq {s : State} (h : (secondStep s).line.state = .run) : (secondSwept s).sch.mq = s.sch.mq := by
  rw [secondSwept, (staleSweep_lineQueues _).mq, (orderEvents_of_run h).2.1, (secondWork_cell s .i0).2]

/-- The far report of a tick. -/
theorem secondStep_report (s : State) :
    (min (s.evt.reportAge + 1) 255 < s.params.farReportEvery ∨ (secondStep s).line.state ≠ .run →
      (secondStep s).evt.reportAge = min (s.evt.reportAge + 1) 255 ∧
        ∀ k : Kind, s.evt.farPending.has k = true → (secondStep s).evt.farPending.has k = true) ∧
    (min (s.evt.reportAge + 1) 255 < s.params.farReportEvery → (secondStep s).line.state = .run →
      (secondStep s).sch.mq = s.sch.mq) ∧
    (s.params.farReportEvery ≤ min (s.evt.reportAge + 1) 255 → (secondStep s).line.state = .run → s.evt.farPending ≠ 0 →
      (secondStep s).evt.reportAge = 0 ∧ (secondStep s).evt.farPending = 0 ∧
        (s.sch.mq.length < 8 → (secondStep s).sch.mq = s.sch.mq ++ [mkMessage .faultReport 0
          (KindSet.bytes (secondSwept s).evt.farPending ++ u32 (secondStep s).mon.seconds ++
            u8 (secondStep s).line.state.code ++ u8 s.supply.mode.code)])) ∧
    (s.params.farReportEvery ≤ min (s.evt.reportAge + 1) 255 → (secondStep s).line.state = .run → s.evt.farPending = 0 →
      (secondStep s).evt.farPending = 0 ∧ (s.params.farMask.has .ses = false → s.params.farMask.has .watch = false →
        (secondStep s).evt.reportAge = min (s.evt.reportAge + 1) 255 ∧ (secondStep s).sch.mq = s.sch.mq)) := by
  obtain ⟨hparams, hline, hsupply, hseconds⟩ := secondSwept_frame s
  obtain ⟨hage, hfar, hfar0⟩ := secondSwept_far s
  have hafter : ageAfter (secondSwept s) = min (s.evt.reportAge + 1) 255 := by rw [ageAfter, hage]
  have hevt : (secondStep s).evt = (farReport (secondSwept s)).evt := by
    rw [secondStep_swept]
    simp
  have hsch : (secondStep s).sch = (farReport (secondSwept s)).sch := by
    rw [secondStep_swept]
    simp
  have hrun : (secondSwept s).inRun = true ↔ (secondStep s).line.state = .run := by rw [State.inRun_iff, hline]
  rw [farReport_evt, hparams, hafter] at hevt
  refine ⟨fun hcase => ?_, fun hless hstate => ?_, fun hle hstate hne => ?_, fun hle hstate hzero => ?_⟩
  · have hnot : ¬ (s.params.farReportEvery ≤ min (s.evt.reportAge + 1) 255 ∧ (secondSwept s).evt.farPending ≠ 0 ∧
        (secondSwept s).inRun = true) := by
      rintro ⟨hle, -, hstate⟩
      rcases hcase with hless | hdown
      · exact absurd hle (Nat.not_le.mpr hless)
      · exact hdown (hrun.mp hstate)
    rw [if_neg hnot, if_neg hnot] at hevt
    rw [hevt]
    exact ⟨rfl, hfar⟩
  · have hnot : ¬ reportDue (secondSwept s) := by
      rw [reportDue, hparams, hafter]
      omega
    rw [hsch, (farReport_mq (hline ▸ hstate)).1 hnot, secondSwept_mq hstate]
  · have hyes := And.intro hle (And.intro (hfar0 hne) (hrun.mpr hstate))
    rw [if_pos hyes, if_pos hyes] at hevt
    refine ⟨by rw [hevt], by rw [hevt], fun hroom => ?_⟩
    have hdue : reportDue (secondSwept s) := by
      rw [reportDue, hparams, hafter]
      exact ⟨hle, hfar0 hne⟩
    rw [hsch, (farReport_mq (hline ▸ hstate)).2 hdue (by rwa [secondSwept_mq hstate]), secondSwept_mq hstate, faultReportBody,
      hseconds, hline, hsupply]
  · refine ⟨?_, fun hses hwatch => ?_⟩
    · rw [hevt]
      by_cases hnone : (secondSwept s).evt.farPending = 0
      · exact (if_neg fun h => h.2.1 hnone).trans hnone
      · exact if_pos ⟨hle, hnone, hrun.mpr hstate⟩
    · obtain ⟨all, hall, hkinds⟩ := secondSwept_occurs hstate
      have hnone : (secondSwept s).evt.farPending = 0 := by
        rw [hall.far, joined_of_masked fun e he => ?_, hzero]
        rcases hkinds e he with hk | hk <;> rw [hk]
        · exact hses
        · exact hwatch
      rw [if_neg fun h => h.2.1 hnone, if_neg fun h => h.2.1 hnone] at hevt
      have hnot : ¬ reportDue (secondSwept s) := fun h => h.2 hnone
      exact ⟨by rw [hevt], by rw [hsch, (farReport_mq (hline ▸ hstate)).1 hnot, secondSwept_mq hstate]⟩

/-- The kinds that a FAULT-REPORT of a tick tells of beside those pending before it. -/
theorem secondSwept_farKinds {s : State} (h : (secondStep s).line.state = .run) (k : Kind)
    (hk : (secondSwept s).evt.farPending.has k = true) : s.evt.farPending.has k = true ∨
      (s.params.farMask.has k = true ∧ (k = .ses ∨ k = .watch) ∧ (secondStep s).evt.pending.has k = true) := by
  obtain ⟨all, hall, hkinds⟩ := secondSwept_occurs h
  rw [hall.far, joined_has, Bool.or_eq_true, Bool.and_eq_true] at hk
  refine hk.imp_right fun ⟨hany, hmask⟩ => ⟨hmask, ?_, ?_⟩
  · obtain ⟨e, he, hek⟩ := List.any_eq_true.mp hany
    exact of_decide_eq_true hek ▸ hkinds e he
  · rw [(secondStep_told s).2.1, hall.has, hany, Bool.or_true]

/-! ## The statement -/

theorem mem_secondEvents_ses {s : State} (h : isSes s = true) :
    .plain .ses ∈ sesEvents s ++ unavailableEvents s ++ orderEvents s := by
  rw [sesEvents, if_pos h]
  exact List.mem_append_left _ (List.mem_append_left _ (List.mem_singleton_self _))

theorem mem_secondEvents_unavailable {s : State} (h : becomesUnavailable s = true) :
    .plain .unavailable ∈ sesEvents s ++ unavailableEvents s ++ orderEvents s := by
  rw [unavailableEvents, if_pos h]
  exact List.mem_append_left _ (List.mem_append_right _ (List.mem_singleton_self _))

theorem secondEvents_eq {s : State} {t : Monitor} (h : t.available = availableAfter (isSes s) s.inRun s.mon) :
    sesEvents s ++ unavailableEvents s ++ orderEvents s = sesEvents s ++
      if s.mon.available = true ∧ t.available = false then
        .plain .unavailable :: (if s.inRun then [.withA .lineDown 4, .withA .retrain 4] else [])
      else [] := by
  have hiff := becomesUnavailable_iff h
  rw [List.append_assoc, unavailableEvents, orderEvents]
  by_cases hyes : becomesUnavailable s = true
  · rw [if_pos hyes, if_pos (hiff.mp hyes), hyes, Bool.true_and]
    rfl
  · rw [if_neg hyes, if_neg (mt hiff.mpr hyes), Bool.not_eq_true _ |>.mp hyes, Bool.false_and]
    rfl

theorem secondStep_perf (s : State) : (secondStep s).mon.perf =
    { s.mon.perf with
      es := if isEs s then satInc s.mon.perf.es else s.mon.perf.es
      ses := if isSes s then satInc s.mon.perf.ses else s.mon.perf.ses
      uas := if (secondStep s).mon.available then s.mon.perf.uas else satInc s.mon.perf.uas
      inOff := if s.line.state = .off then satInc s.mon.perf.inOff else s.mon.perf.inOff
      inTraining := if s.line.state = .training then satInc s.mon.perf.inTraining else s.mon.perf.inTraining
      inRun := if s.line.state = .run then satInc s.mon.perf.inRun else s.mon.perf.inRun
      inHoldoff := if s.line.state = .holdoff then satInc s.mon.perf.inHoldoff else s.mon.perf.inHoldoff
      inMains := if s.supply.mode = .mains then satInc s.mon.perf.inMains else s.mon.perf.inMains
      inLifeline := if s.supply.mode = .lifeline then satInc s.mon.perf.inLifeline else s.mon.perf.inLifeline
      inReserve := if s.supply.mode = .reserve then satInc s.mon.perf.inReserve else s.mon.perf.inReserve
      boundSupply := if s.line.state = .run ∧ s.rate.binding = .supply then satInc s.mon.perf.boundSupply
        else s.mon.perf.boundSupply
      boundProvider := if s.line.state = .run ∧ s.rate.binding = .provider then satInc s.mon.perf.boundProvider
        else s.mon.perf.boundProvider
      boundLine := if s.line.state = .run ∧ s.rate.binding = .line then satInc s.mon.perf.boundLine else s.mon.perf.boundLine
      impulseCost := if s.line.state = .run ∧ protectionCosts s = true then satInc s.mon.perf.impulseCost
        else s.mon.perf.impulseCost } := by
  have hkeeps := secondStep_keepsTick s
  rw [hkeeps.perf, hkeeps.available, secondCounted_mon]
  exact addResidency_eq _ _ _ _ _

theorem secondStep_available (s : State) : (secondStep s).mon.available = availableAfter (isSes s) s.inRun s.mon := by
  rw [(secondStep_keepsTick s).available, secondCounted_mon]

theorem secondStep_interval (s : State) : (secondStep s).mon.interval =
    { s.mon.interval with
      elapsed := min (s.mon.interval.elapsed + 1) 900
      es := if isEs s then satInc s.mon.interval.es else s.mon.interval.es
      ses := if isSes s then satInc s.mon.interval.ses else s.mon.interval.ses
      uas := if (secondStep s).mon.available then s.mon.interval.uas else satInc s.mon.interval.uas
      retrains := if s.mon.available = true ∧ (secondStep s).mon.available = false ∧ s.inRun = true then
        satInc s.mon.interval.retrains else s.mon.interval.retrains
      lifeline := if s.supply.mode = .mains then s.mon.interval.lifeline else satInc s.mon.interval.lifeline
      minEffTx := if s.inRun then some (s.mon.interval.minEffTx.elim s.rate.effTx fun n => min n s.rate.effTx)
        else s.mon.interval.minEffTx
      minRx := if s.inRun then some (s.mon.interval.minRx.elim s.rate.capacity.rx fun n => min n s.rate.capacity.rx)
        else s.mon.interval.minRx
      noRun := s.mon.interval.noRun || !s.inRun } := by
  have hkeeps := secondStep_keepsTick s
  have hretrains : (becomesUnavailable s && s.inRun) = true ↔
      s.mon.available = true ∧ (secondStep s).mon.available = false ∧ s.inRun = true := by
    rw [Bool.and_eq_true, becomesUnavailable_iff (secondStep_available s), and_assoc]
  have hlifeline : (if s.supply.mode != .mains then satInc s.mon.interval.lifeline else s.mon.interval.lifeline) =
      if s.supply.mode = .mains then s.mon.interval.lifeline else satInc s.mon.interval.lifeline := by
    cases s.supply.mode <;> rfl
  rw [hkeeps.interval, if_congr hretrains rfl rfl, hkeeps.available, secondCounted_mon, ← hlifeline, ← lowerTo_eq, ← lowerTo_eq]

theorem secondStep_runs (s : State) : (secondStep s).mon.seconds = satInc s.mon.seconds ∧ (secondStep s).mon.damage = 0 ∧
    (secondStep s).mon.lossMark = false ∧ (secondStep s).mon.sesRun = sesRunAfter (isSes s) s.mon.sesRun ∧
    (secondStep s).mon.clearRun = clearRunAfter (isSes s) s.inRun s.mon.clearRun ∧
    (secondStep s).mon.history = s.mon.history ∧ (secondStep s).mon.voice.ports = s.mon.voice.ports := by
  have hkeeps := secondStep_keepsTick s
  rw [hkeeps.seconds, hkeeps.damage, hkeeps.lossMark, hkeeps.sesRun, hkeeps.clearRun, hkeeps.history, hkeeps.ports,
    secondCounted_mon]
  exact ⟨rfl, rfl, rfl, rfl, rfl, rfl, rfl⟩

theorem secondStep_due (s : State) : .intervalClose ∈ (secondStep s).due ↔
    .intervalClose ∈ s.due ∨ (secondStep s).mon.interval.elapsed = 900 := by
  have hdue : (farReport (secondSwept s)).due = s.due := by
    obtain ⟨-, hordered, -, -, -, -, -, -, -⟩ := orderRetrain_frame (secondWork s) (becomesUnavailable s)
    have hwork : (secondWork s).due = s.due := by
      rw [(secondWork_quiet s).due, secondCounted_eq]
      rfl
    rw [(farReport_frame _).2.1, secondSwept, (staleSweep_frame _).2.1, hordered, hwork]
  rw [secondStep_swept]
  have hmon : (dueInterval (farReport (secondSwept s))).mon = (farReport (secondSwept s)).mon := by simp
  rw [hmon, ← hdue]
  generalize farReport (secondSwept s) = t
  unfold dueInterval intervalFull
  by_cases hfull : t.mon.interval.elapsed = 900
  · have hyes : (t.mon.interval.elapsed == Config.intervalSeconds) = true := beq_iff_eq.mpr hfull
    rw [if_pos hyes]
    exact iff_of_true (List.mem_append_right _ (List.mem_singleton_self _)) (.inr hfull)
  · have hno : ¬ (t.mon.interval.elapsed == Config.intervalSeconds) = true := fun h => hfull (beq_iff_eq.mp h)
    rw [if_neg hno]
    exact (or_iff_left hfull).symm

/-- Settles O28, clause by clause. -/
theorem secondTickAndInterval : Obligations.SecondTickAndInterval := by
  unfold Obligations.SecondTickAndInterval
  have hexec : ∀ s : State, .secondTick ∈ s.due → exec .secondTick s = .next (secondStep (dueTaken .secondTick s)) :=
    fun s hdue => exec_due (c := .secondTick) (d := .secondTick) rfl hdue
  refine ⟨⟨fun s hdue => ⟨_, hexec s hdue, ?_⟩, fun i c s hdue hsource => ⟨_, hexec s hdue, ?_⟩, fun i s hdue => ?_, fun s hdue => ?_⟩,
    fun s hdue hfull => ?_⟩
  · generalize hu : dueTaken .secondTick s = u
    obtain ⟨hpending, htime, hphone, hvoice, hsupply, hagent, -, -⟩ := secondStep_frame u
    obtain ⟨hseconds, hdamage, hloss, hsesRun, hclearRun, hhistory, hports⟩ := secondStep_runs u
    have havail := secondStep_available u
    have hbecomes := becomesUnavailable_iff havail
    have hperf := secondStep_perf u
    have hinterval := secondStep_interval u
    have hdueAfter := secondStep_due u
    have hlog := secondStep_logGains u
    have hedges := secondStep_edges u
    obtain ⟨hkept, hordered⟩ := secondStep_line_cases u
    have hset := fun e he => secondStep_set u (e := e) he
    generalize secondStep u = t at *
    subst hu
    refine ⟨⟨hseconds, hdamage, hloss, by rw [hperf]; rfl, by rw [hperf]; rfl, hsesRun, hclearRun, ?_, by rw [hperf]; rfl,
      fun hses => ?_, fun hwas hnow => ?_, ?_, ?_, fun hstays => ?_, ?_⟩, ?_, ?_, ?_, ?_, ?_, ?_, ?_, ?_, ?_, ?_, ?_, ?_, hpending,
      htime, hphone, hvoice, hsupply, hagent, hhistory, hports⟩
    · rw [havail, availableAfter]
      show (if s.mon.available then _ else _ : Bool) = true ↔ _
      cases s.mon.available with
      | true => exact decide_eq_true_iff
      | false => exact decide_eq_true_iff
    · exact hset (.plain .ses) (mem_secondEvents_ses hses)
    · have hyes := hbecomes.mpr ⟨hwas, hnow⟩
      refine ⟨hset (.plain .unavailable) (mem_secondEvents_unavailable hyes), fun hin => ?_⟩
      · have hboth : (becomesUnavailable (dueTaken .secondTick s) && (dueTaken .secondTick s).inRun) = true :=
          Bool.and_eq_true_iff.mpr ⟨hyes, hin⟩
        rw [orderEvents, if_pos hboth] at hset
        exact ⟨(hordered hboth).1, hset (.withA .lineDown 4) (by simp), hset (.withA .retrain 4) (by simp)⟩
    · rw [secondEvents_eq havail] at hlog
      exact hlog
    · exact hedges.of_dueTaken
    · have hno : becomesUnavailable (dueTaken .secondTick s) = false := by
        by_contra hyes
        obtain ⟨hwas, hnow⟩ := hbecomes.mp (Bool.not_eq_false _ ▸ hyes)
        rcases hstays with h | h
        · exact Bool.false_ne_true (h.symm.trans hwas)
        · exact Bool.false_ne_true (hnow.symm.trans h)
      exact (hkept (by rw [hno]; rfl)).1
    · have hmin : ∀ (x : Option Nat) (n : Nat), (x.elim n fun k => min k n) = match x with | none => n | some k => min k n :=
        fun x n => by cases x <;> rfl
      rw [hinterval, hmin, hmin]
      rfl
    · rw [hperf]; rfl
    · rw [hperf]; rfl
    · rw [hperf]; rfl
    · rw [hperf]; rfl
    · rw [hperf]; rfl
    · rw [hperf]; rfl
    · rw [hperf]; rfl
    · rw [hperf]; rfl
    · rw [hperf]; rfl
    · rw [hperf]; rfl
    · rw [hperf]
      exact if_congr (and_congr_right' (protectionCosts_iff _)) rfl rfl
    · rw [hdueAfter]
      refine or_congr_left ?_
      exact List.mem_erase_of_ne (by decide)
  · exact secondStep_times (dueTaken .secondTick s) hsource
  · obtain ⟨hidle, hbusy, hretrained⟩ := secondStep_queue (dueTaken .secondTick s) i
    refine ⟨_, hexec s hdue, fun hline hprogress => ?_, fun hline hprogress => ?_, fun hline => ?_⟩
    · have hcell := hidle hline hprogress
      rw [staleTested, if_neg nofun] at hcell
      exact Prod.mk.inj hcell
    · exact congrArg Prod.fst (hbusy hline hprogress)
    · exact hretrained hline
  · obtain ⟨hwait, hkept, hsent, hnone⟩ := secondStep_report (dueTaken .secondTick s)
    refine ⟨_, hexec s hdue, hwait, hkept, fun hle hstate hne => ?_, hnone⟩
    obtain ⟨hage, hfar, hmq⟩ := hsent hle hstate hne
    have hsupply : (secondStep (dueTaken .secondTick s)).supply = s.supply := (secondStep_frame _).2.2.2.2.1
    refine ⟨hage, hfar, fun hroom => ⟨(secondSwept (dueTaken .secondTick s)).evt.farPending, (secondSwept_far (dueTaken .secondTick s)).2.1,
      secondSwept_farKinds hstate, ?_⟩⟩
    rw [hsupply]
    exact hmq hroom
  · refine (exec_due (c := .intervalClose) (d := .intervalClose) rfl hdue).trans (congrArg _ (if_pos ?_))
    exact beq_iff_eq.mpr hfull

end Sys2Proof.Machine
end

section
/-! PROOFS. The bursts of a report: their order, merging, the lock test, hits and misses (R4, R44 to R48). -/

namespace Sys2Proof.Machine

/-! ## Distances of starts -/

/-- A start lies within `n` of an earlier one, seen from both ends. -/
theorem atOrAfter_window {a b : Word32} {n : Nat} (hn : n < 2 ^ 31) :
    (atOrAfter b a && atOrAfter (a + BitVec.ofNat 32 n) b) = true ↔ (b - a).toNat ≤ n := by
  rw [Bool.and_eq_true, atOrAfter, atOrAfter, decide_eq_true_iff, decide_eq_true_iff]
  have hdist : (a + BitVec.ofNat 32 n - b).toNat = (n + (2 ^ 32 - (b - a).toNat)) % 2 ^ 32 := by
    have hsub : a + BitVec.ofNat 32 n - b = BitVec.ofNat 32 n - (b - a) := by
      ring
    rw [hsub, BitVec.toNat_sub, BitVec.toNat_ofNat]
    omega
  rw [hdist]
  have hlt := (b - a).isLt
  omega

theorem touches_iff {r b : Burst} (h : r.length ≤ 16) : b.touches r = true ↔ (b.start - r.start).toNat ≤ r.length :=
  atOrAfter_window (by omega)

theorem isHit_iff {tol : Nat} (h : tol ≤ 16) (predicted start : Word32) :
    isHit tol predicted start = true ↔ (start - (predicted - BitVec.ofNat 32 tol)).toNat ≤ 2 * tol := by
  have hlate : predicted + BitVec.ofNat 32 tol = predicted - BitVec.ofNat 32 tol + BitVec.ofNat 32 (2 * tol) := by
    rw [two_mul, BitVec.ofNat_add]
    ring
  rw [isHit, hlate]
  exact atOrAfter_window (by omega)

/-! ## A burst taken (R44, R45) -/

/-- The state with a burst as a new record, counted. -/
def recorded (b : Burst) (s : State) : State :=
  (s.modTrack fun t => { t with history := addBurst t.history b }).countLine fun c => { c with bursts := satInc c.bursts }

theorem takeBurst_merged {h : List Burst} {r b : Burst} {s : State} (hh : s.track.history = h ++ [r]) (ht : b.touches r = true) :
    takeBurst s b = s.modTrack fun t => { t with history := h ++ [r.mergedWith b] } := by
  have hlast : s.track.history.getLast? = some r := by rw [hh, List.getLast?_concat]
  unfold takeBurst
  rw [hlast]
  dsimp only
  rw [if_pos ht, State.modTrack, hh, List.dropLast_concat]
  rfl

theorem takeBurst_recorded {b : Burst} {s : State} (h : ∀ h r, s.track.history = h ++ [r] → b.touches r = false) :
    takeBurst s b = trackBurst b (recorded b s) := by
  unfold takeBurst
  rcases List.eq_nil_or_concat s.track.history with hnil | ⟨l, r, hl⟩
  · rw [hnil]
    rfl
  · have hr := h l r (hl.trans List.concat_eq_append)
    have hlast : s.track.history.getLast? = some r := by rw [hl, List.concat_eq_append, List.getLast?_concat]
    rw [hlast]
    dsimp only
    rw [hr]
    rfl

/-! ## The lock test (R46) -/

theorem newestFive_eq (old : List Burst) (e₁ e₂ e₃ e₄ e₅ : Burst) :
    newestFive (old ++ [e₁, e₂, e₃, e₄, e₅]) = [e₁, e₂, e₃, e₄, e₅] := by
  rw [newestFive, List.length_append]
  exact List.drop_left' (by simp)

/-- R46: the intervals make a beat. -/
def Beats (tol : Nat) (gaps : List Nat) : Prop :=
  ∀ x ∈ gaps, 400 ≤ x ∧ x ≤ 16000 ∧ x ≤ gaps.sum / 4 + tol ∧ gaps.sum / 4 ≤ x + tol

theorem lockTest_of_short {tol : Nat} {h : List Burst} (hlen : h.length < 5) : lockTest tol h = none := if_pos hlen

theorem lockTest_of_five (tol : Nat) (old : List Burst) (e₁ e₂ e₃ e₄ e₅ : Burst) :
    (Beats tol (intervals [e₁, e₂, e₃, e₄, e₅]) →
      lockTest tol (old ++ [e₁, e₂, e₃, e₄, e₅]) = some ((intervals [e₁, e₂, e₃, e₄, e₅]).sum / 4)) ∧
    (¬ Beats tol (intervals [e₁, e₂, e₃, e₄, e₅]) → lockTest tol (old ++ [e₁, e₂, e₃, e₄, e₅]) = none) := by
  have hlen : ¬ (old ++ [e₁, e₂, e₃, e₄, e₅]).length < 5 := by simp
  have hiff : ((intervals [e₁, e₂, e₃, e₄, e₅]).all fun x => 400 ≤ x && x ≤ 16000 &&
      x ≤ (intervals [e₁, e₂, e₃, e₄, e₅]).sum / 4 + tol && (intervals [e₁, e₂, e₃, e₄, e₅]).sum / 4 ≤ x + tol) = true ↔
      Beats tol (intervals [e₁, e₂, e₃, e₄, e₅]) := by
    rw [List.all_eq_true]
    exact forall₂_congr fun x hx => by simp [and_assoc]
  unfold lockTest
  rw [if_neg hlen, newestFive_eq]
  exact ⟨fun h => if_pos (hiff.mpr h), fun h => if_neg (mt hiff.mp h)⟩

/-! ## A new record tracked (R46, R47) -/

/-- The state with a lock found, counted, before it is told of. -/
def lockFound (p : Nat) (b : Burst) (s : State) : State :=
  (s.modTrack fun t => { t with lock := some { period := p, predicted := b.start + BitVec.ofNat 32 p, misses := 0 } }).countLine
    fun c => { c with locks := satInc c.locks }

theorem trackBurst_of_lock {k : Lock} {s : State} (h : s.track.lock = some k) (b : Burst) : trackBurst b s =
    if isHit s.params.cadenceTol k.predicted b.start then
      s.modTrack fun t => { t with lock := some { k with predicted := b.start + BitVec.ofNat 32 k.period, misses := 0 } }
    else s.countLine fun c => { c with strays := satInc c.strays } := by
  unfold trackBurst
  rw [h]

theorem trackBurst_of_search {s : State} (h : s.track.lock = none) (b : Burst) :
    (lockTest s.params.cadenceTol s.track.history = none → trackBurst b s = s) ∧
    (∀ p, lockTest s.params.cadenceTol s.track.history = some p → trackBurst b s =
      enterCondition .cadenceLocked (raise ⟨.cadenceLock, none, some p⟩ (lockFound p b s))) := by
  unfold trackBurst
  rw [h]
  refine ⟨fun hnone => ?_, fun p hp => ?_⟩
  · dsimp only
    rw [hnone]
  · dsimp only
    rw [hp]
    rfl

/-- A lock that is found is told of, and enters CADENCE-LOCKED. -/
theorem lockFound_enters {s u : State} (huntold : Untold u s) (hsame : ∀ c, conditionHolds s c = conditionHolds u c)
    (h : s.track.lock = none) (p : Nat) (b : Burst) : Enters [⟨.cadenceLock, none, some p⟩] u
      (enterCondition .cadenceLocked (raise ⟨.cadenceLock, none, some p⟩ (lockFound p b s))) := by
  have hquiet := (raise_quiet ⟨.cadenceLock, none, some p⟩ (lockFound p b s)).conditionHolds
  have hfound : Untold s (lockFound p b s) := .same rfl rfl rfl rfl
  refine .enterCondition_of_tells (Untold.then (huntold.untold hfound) (raise_tells _ _)) (fun i d => by simp [hitBy]) ?_ fun d hd => ?_
  · rw [entered, hquiet, ← hsame]
    simp [conditionHolds, lockFound, h]
  · rw [hquiet, ← hsame]
    cases d with
    | cadenceLocked => exact absurd rfl hd
    | _ => rfl

theorem lockFound_raised (p : Nat) (b : Burst) (s : State) : Raised [⟨.cadenceLock, none, some p⟩] (lockFound p b s)
    (enterCondition .cadenceLocked (raise ⟨.cadenceLock, none, some p⟩ (lockFound p b s))) := by
  have htells := (raise_tells ⟨.cadenceLock, none, some p⟩ (lockFound p b s)).trans (enterCondition_tells .cadenceLocked _)
  rw [List.append_nil] at htells
  exact htells.raised (.one _) ((raise_quiet _ _).trans (enterCondition_quiet _ _))

/-! ## The miss test (R48) -/

theorem missTest_of_lock {c : Word32} {k : Lock} {s : State} (h : s.track.lock = some k) :
    (before (k.predicted + BitVec.ofNat 32 s.params.cadenceTol) (coverageEnd c) = false → missTest c s = s) ∧
    (before (k.predicted + BitVec.ofNat 32 s.params.cadenceTol) (coverageEnd c) = true → k.misses < 2 → missTest c s =
      (s.countLine fun n => { n with misses := satInc n.misses }).modTrack fun x =>
        { x with lock := some { k with predicted := k.predicted + BitVec.ofNat 32 k.period, misses := k.misses + 1 } }) ∧
    (before (k.predicted + BitVec.ofNat 32 s.params.cadenceTol) (coverageEnd c) = true → 2 ≤ k.misses → missTest c s =
      raise ⟨.cadenceLost, none, some k.period⟩ ((s.countLine fun n => { n with misses := satInc n.misses }).modTrack fun x =>
        { x with history := [], lock := none })) := by
  unfold missTest
  rw [h]
  refine ⟨fun hnot => ?_, fun hyes hless => ?_, fun hyes hmore => ?_⟩
  · dsimp only
    rw [hnot]
    rfl
  · have hfew : ¬ k.misses + 1 ≥ 3 := by omega
    exact (if_pos hyes).trans (if_neg hfew)
  · have hthird : k.misses + 1 ≥ 3 := by omega
    exact (if_pos hyes).trans (if_pos hthird)

/-! ## The order of a report's bursts (R4, R44) -/

theorem insertByOffset_perm (b : ReportedBurst) (l : List ReportedBurst) : (insertByOffset b l).Perm (b :: l) := by
  induction l with
  | nil => exact .refl _
  | cons x rest ih =>
    unfold insertByOffset
    split
    · exact .refl _
    · exact (ih.cons x).trans (.swap b x rest)

theorem insertByOffset_sorted {b : ReportedBurst} {l : List ReportedBurst} (h : l.Pairwise fun a b => a.offset ≤ b.offset) :
    (insertByOffset b l).Pairwise fun a b => a.offset ≤ b.offset := by
  induction l with
  | nil => exact List.pairwise_singleton _ _
  | cons x rest ih =>
    obtain ⟨hx, hrest⟩ := List.pairwise_cons.mp h
    unfold insertByOffset
    split
    · rename_i hlt
      refine List.pairwise_cons.mpr ⟨fun y hy => ?_, h⟩
      rcases List.mem_cons.mp hy with rfl | hy
      · exact Nat.le_of_lt hlt
      · exact (Nat.le_of_lt hlt).trans (hx y hy)
    · rename_i hnot
      refine List.pairwise_cons.mpr ⟨fun y hy => ?_, ih hrest⟩
      rcases List.mem_cons.mp ((insertByOffset_perm b rest).mem_iff.mp hy) with rfl | hy
      · exact Nat.not_lt.mp hnot
      · exact hx y hy

theorem foldl_insertByOffset (bs l : List ReportedBurst) (h : l.Pairwise fun a b => a.offset ≤ b.offset) :
    (bs.foldl (fun l b => insertByOffset b l) l).Perm (bs ++ l) ∧
      (bs.foldl (fun l b => insertByOffset b l) l).Pairwise fun a b => a.offset ≤ b.offset := by
  induction bs generalizing l with
  | nil => exact ⟨.refl _, h⟩
  | cons b bs ih =>
    obtain ⟨hperm, hsorted⟩ := ih (insertByOffset b l) (insertByOffset_sorted h)
    refine ⟨hperm.trans ?_, hsorted⟩
    exact ((insertByOffset_perm b l).append_left bs).trans List.perm_middle

theorem sortBursts_spec (bs : List ReportedBurst) : (sortBursts bs).Perm bs ∧
    (sortBursts bs).Pairwise fun a b => a.offset ≤ b.offset := by
  obtain ⟨hperm, hsorted⟩ := foldl_insertByOffset bs [] .nil
  rw [List.append_nil] at hperm
  exact ⟨hperm, hsorted⟩

theorem burstInRange_eq (b : ReportedBurst) : burstInRange b = decide (b.offset ≤ 99 ∧ 1 ≤ b.length ∧ b.length ≤ 16) := by
  rw [burstInRange, Bool.and_assoc, ← Bool.decide_and, ← Bool.decide_and]

theorem addBurst_eq (h : List Burst) (b : Burst) : addBurst h b = (if h.length < 8 then h else h.drop 1) ++ [b] := by
  unfold addBurst
  split
  · rename_i hlt
    rw [if_pos (show h.length < 8 from hlt)]
  · rename_i hnot
    rw [if_neg (show ¬ h.length < 8 from hnot)]

/-- Settles O59, by the cases of a burst, of a new record and of the miss test. -/
theorem trackerFollowsTheBursts : Obligations.TrackerFollowsTheBursts := by
  unfold Obligations.TrackerFollowsTheBursts
  refine ⟨fun h r b s hh hlen hnear => takeBurst_merged hh ((touches_iff hlen).mpr hnear), fun b s hfar => ?_, fun c s => ?_,
    fun r s => ?_⟩
  · have hnew := takeBurst_recorded (b := b) (s := s) fun h r hh => by
      obtain ⟨hlen, hpast⟩ := hfar h r hh
      exact Bool.eq_false_iff.mpr fun ht => absurd ((touches_iff hlen).mp ht) (Nat.not_le.mpr hpast)
    have hrecorded : Untold s (recorded b s) := .same rfl rfl rfl rfl
    have hsame : ∀ c, conditionHolds (recorded b s) c = conditionHolds s c := fun c => by cases c <;> rfl
    rw [hnew]
    dsimp only
    rw [← addBurst_eq]
    refine ⟨fun hlock hshort => (trackBurst_of_search (s := recorded b s) hlock b).1 (lockTest_of_short hshort),
      fun old e₁ e₂ e₃ e₄ e₅ hlock hring => ⟨fun hnot => ?_, fun hbeat => ?_⟩, fun k hlock htol => ⟨fun hhit => ?_, fun hstray => ?_⟩⟩
    · refine (trackBurst_of_search (s := recorded b s) hlock b).1 ?_
      show lockTest _ (addBurst _ _) = none
      rw [hring]
      exact (lockTest_of_five _ old e₁ e₂ e₃ e₄ e₅).2 hnot
    · have hfound : lockTest (recorded b s).params.cadenceTol (recorded b s).track.history =
          some ((intervals [e₁, e₂, e₃, e₄, e₅]).sum / 4) := by
        show lockTest _ (addBurst _ _) = _
        rw [hring]
        exact (lockTest_of_five _ old e₁ e₂ e₃ e₄ e₅).1 hbeat
      rw [(trackBurst_of_search (s := recorded b s) hlock b).2 _ hfound]
      have henters := lockFound_enters (s := recorded b s) hrecorded hsame hlock ((intervals [e₁, e₂, e₃, e₄, e₅]).sum / 4) b
      exact ⟨henters.edgesCounted, lockFound_raised _ b (recorded b s)⟩
    · refine (trackBurst_of_lock (s := recorded b s) hlock b).trans (if_pos ?_)
      exact (isHit_iff htol _ _).mpr hhit
    · refine (trackBurst_of_lock (s := recorded b s) hlock b).trans (if_neg fun hhit => ?_)
      exact absurd ((isHit_iff htol _ _).mp hhit) (Nat.not_le.mpr hstray)
  · refine ⟨fun hlock => ?_, fun k hlock => ?_⟩
    · rw [missTest, hlock]
    · obtain ⟨hkept, hmissed, hlost⟩ := missTest_of_lock (c := c) hlock
      refine ⟨hkept, hmissed, fun hyes hmore => ?_⟩
      rw [hlost hyes hmore]
      exact raise_raised _ _
  · have hexec : exec (.frameReport r) s = .next (frameReportStep r (settle s)) := rfl
    dsimp only
    generalize settle s = u at hexec
    obtain ⟨hperm, hsorted⟩ := sortBursts_spec (r.bursts.filter burstInRange)
    rw [funext burstInRange_eq] at hperm hsorted
    refine ⟨_, hperm, hsorted, fun hstate => ?_, fun hstate => ?_⟩
    · rw [frameReportStep, hstate] at hexec
      refine hexec.trans (congrArg _ ?_)
      unfold trackReport reportBursts
      rw [funext burstInRange_eq]
      rfl
    · rw [frameReportStep, hstate] at hexec
      refine ⟨_, hexec, ?_⟩
      unfold reportInRun trackReport reportBursts
      rw [funext burstInRange_eq]
      rfl

end Sys2Proof.Machine
end

section
/-! PROOFS. A MARGIN-REPORT: the classes of the receive groups, the recommendation and the decision (R25, R45, R50 to R54). -/

namespace Sys2Proof.Machine

/-! ## The loading engine's part -/

/-- A report held, with the raise count that it makes. -/
def marginNoted (ratios : List Byte) (s : State) : State :=
  s.modLoad fun l =>
    { l with report := some (marginReport s.params s.load ratios)
             raiseCount := nextRaiseCount (marginReport s.params s.load ratios) l.raiseCount }

theorem loadingMargins_of_holdoff {ratios : List Byte} {s : State} (h : 0 < s.load.holdoff) : loadingMargins ratios s =
    (marginNoted ratios s).modLoad fun l => { l with holdoff := l.holdoff - 1 } := if_pos h

theorem loadingMargins_of_offer {ratios : List Byte} {s : State} (h : s.load.holdoff = 0)
    (hoffer : s.params.reloadEnable = 1 ∧ s.load.own = .none) :
    loadingMargins ratios s = buildOffer (marginReport s.params s.load ratios) (marginNoted ratios s) := by
  have hnot : ¬ 0 < (marginNoted ratios s).load.holdoff := by
    show ¬ 0 < s.load.holdoff
    omega
  exact (if_neg hnot).trans (if_pos hoffer)

theorem loadingMargins_of_none {ratios : List Byte} {s : State} (h : s.load.holdoff = 0)
    (hnone : ¬ (s.params.reloadEnable = 1 ∧ s.load.own = .none)) : loadingMargins ratios s = marginNoted ratios s := by
  have hnot : ¬ 0 < (marginNoted ratios s).load.holdoff := by
    show ¬ 0 < s.load.holdoff
    omega
  exact (if_neg hnot).trans (if_neg hnone)

theorem sendOffer_load (changes : List (Nat × Nat)) (p : Option Protection) (s : State) : (sendOffer changes p s).load =
    { s.load with
      offerNumber := s.load.offerNumber + 1, lastOffer := some (s.load.offerNumber + 1), raiseCount := 0
      own := .outstanding { number := s.load.offerNumber + 1, switch := s.line.superframe + 8
                            table := applyChanges s.load.rxLoads changes, newProt := p } } := by
  simp [sendOffer]

theorem sendOffer_queues (changes : List (Nat × Nat)) (p : Option Protection) (s : State) :
    (sendOffer changes p s).sch.queues = s.sch.queues ∧ (sendOffer changes p s).sch.vq = s.sch.vq := by
  obtain ⟨hqueues, hvq, -⟩ := mqOffer_queues (mkMessage .loadOffer 0 (offerBodyBytes
    { number := s.load.offerNumber + 1, switch := s.line.superframe + 8, changes := changes
      prot := p.map (offerProtOf (s.line.superframe + 8) (switchSymbol s.line.symbolCount 8)) })) s
  exact ⟨hqueues, hvq⟩

/-- What a MARGIN-REPORT leaves of the loading engine, and the report that it holds. -/
structure MarginsHeld (ratios : List Byte) (s t : State) : Prop where
  report : t.load.report = some (marginReport s.params s.load ratios)
  rxLoads : t.load.rxLoads = s.load.rxLoads
  txLoads : t.load.txLoads = s.load.txLoads
  prot : t.load.prot = s.load.prot
  tx : t.load.tx = s.load.tx
  thresh : t.load.thresh = s.load.thresh
  queues : t.sch.queues = s.sch.queues
  vq : t.sch.vq = s.sch.vq

theorem loadingMargins_held (ratios : List Byte) (s : State) : MarginsHeld ratios s (loadingMargins ratios s) := by
  rcases Nat.eq_zero_or_pos s.load.holdoff with hzero | hpos
  · by_cases hoffer : s.params.reloadEnable = 1 ∧ s.load.own = .none
    · rw [loadingMargins_of_offer hzero hoffer]
      unfold buildOffer
      dsimp only
      split
      · exact ⟨rfl, rfl, rfl, rfl, rfl, rfl, rfl, rfl⟩
      · generalize offerChanges _ _ _ = changes
        generalize newProtection (marginNoted ratios s) = p
        have hload := sendOffer_load changes p (marginNoted ratios s)
        obtain ⟨hqueues, hvq⟩ := sendOffer_queues changes p (marginNoted ratios s)
        exact ⟨by rw [hload]; rfl, by rw [hload]; rfl, by rw [hload]; rfl, by rw [hload]; rfl, by rw [hload]; rfl, by rw [hload]; rfl,
          hqueues, hvq⟩
    · rw [loadingMargins_of_none hzero hoffer]
      exact ⟨rfl, rfl, rfl, rfl, rfl, rfl, rfl, rfl⟩
  · rw [loadingMargins_of_holdoff hpos]
    exact ⟨rfl, rfl, rfl, rfl, rfl, rfl, rfl, rfl⟩

/-! ## The classes (R25) -/

theorem groupReport_strong_iff (p : Params) (l : Loading) (b : Nat) (ratio : Byte) :
    (groupReport p l b ratio).cls.strong = true ↔ (groupReport p l b ratio).cls.weak = false ∧
      ∃ h, (groupReport p l b ratio).headroom = some h ∧ p.mTarget ≤ h := by
  have hstrong : (groupReport p l b ratio).cls.strong = (!(groupReport p l b ratio).cls.weak &&
      (groupReport p l b ratio).headroom.elim false fun h => decide (p.mTarget ≤ h)) := by
    unfold groupReport
    dsimp only
    generalize (if b < Config.maxLoad then some ((ratio.toNat : Int) - threshold l (b + 1)) else none) = h
    cases h <;> rfl
  rw [hstrong, Bool.and_eq_true, Bool.not_eq_true']
  refine and_congr_right' ?_
  cases (groupReport p l b ratio).headroom with
  | none => simp
  | some h => simp

theorem marginReport_getElem {p : Params} {l : Loading} {ratios : List Byte} {g b : Nat} {ratio : Byte}
    (hb : l.rxLoads[g]? = some b) (hr : ratios[g]? = some ratio) :
    (marginReport p l ratios)[g]? = some (groupReport p l b ratio) := by
  rw [marginReport, List.getElem?_zipWith, hb, hr]

/-! ## The recommendation and the decision (R45, R51 to R53) -/

theorem foldl_max_length (h : List Burst) (n : Nat) :
    h.foldl (fun n b => max n b.length) n = max n ((h.map Burst.length).max?.getD 0) := by
  induction h generalizing n with
  | nil => simp
  | cons b h ih =>
    rw [List.foldl_cons, ih, List.map_cons, List.max?_cons]
    cases (h.map Burst.length).max? with
    | none => simp
    | some m => simp [max_assoc]

theorem longestBurst_eq (h : List Burst) : longestBurst h = (h.map Burst.length).max?.getD 0 := by
  rw [longestBurst, foldl_max_length, Nat.zero_max]

theorem recommend_of_none {lock : Option Lock} {lb : Nat} (h : lock = none ∨ lb = 0) (raw margin : Nat) :
    recommend raw lb lock margin = protectCandidate lb := by
  have hnone : guardCandidate lock lb margin = none := by
    unfold guardCandidate
    rcases h with rfl | rfl
    · rfl
    · cases lock with
      | none => rfl
      | some k => exact if_neg fun h => absurd h.1 (by decide)
  rw [recommend, hnone]

theorem recommend_of_lock {lb : Nat} (h : 0 < lb) (k : Lock) (raw margin : Nat) :
    (k.period ≤ lb + 2 * margin → recommend raw lb (some k) margin = protectCandidate lb) ∧
    (lb + 2 * margin < k.period → recommend raw lb (some k) margin =
      if (protectCandidate lb).capacity raw < Setting.capacity { level := .p0, guard := some (k.period, lb + 2 * margin) } raw then
        { level := .p0, guard := some (k.period, lb + 2 * margin) }
      else protectCandidate lb) := by
  refine ⟨fun hwide => ?_, fun hfits => ?_⟩
  · have hnone : guardCandidate (some k) lb margin = none := if_neg fun hg => absurd hg.2 (Nat.not_lt.mpr hwide)
    rw [recommend, hnone]
  · have hsome : guardCandidate (some k) lb margin = some { level := .p0, guard := some (k.period, lb + 2 * margin) } :=
      if_pos ⟨h, hfits⟩
    rw [recommend, hsome]

theorem decide53_spec (raw : Nat) (best inForce : Setting) (hold : Nat) :
    (best = inForce → decide53 raw best inForce hold = (inForce, 0)) ∧
    (best ≠ inForce → best.capacity raw < inForce.capacity raw → decide53 raw best inForce hold = (best, 0)) ∧
    (best ≠ inForce → inForce.capacity raw ≤ best.capacity raw → decide53 raw best inForce hold =
      (if 10 ≤ min (hold + 1) 255 then best else inForce, min (hold + 1) 255)) := by
  refine ⟨fun hsame => if_pos hsame, fun hne hless => (if_neg hne).trans (if_pos hless), fun hne hmore => ?_⟩
  refine (if_neg hne).trans ((if_neg (Nat.not_lt.mpr hmore)).trans ?_)
  show (if min (hold + 1) 255 ≥ 10 then (best, min (hold + 1) 255) else (inForce, min (hold + 1) 255)) = _
  split <;> rfl

theorem netOf_eq (raw : Nat) (l : Level) : netOf raw l = raw * (32 - l.share) / 32 := rfl

theorem Setting.capacity_eq (x : Setting) (raw : Nat) : x.capacity raw =
    x.guard.elim (125 * netOf raw x.level / 16) fun g => 125 * netOf raw x.level * (g.1 - g.2) / (16 * g.1) := by
  rw [Setting.capacity]
  cases x.guard <;> rfl

/-- Settles O34, by the classes, the recommendation and the decision. -/
theorem marginReportClassesTheGroups : Obligations.MarginReportClassesTheGroups := by
  unfold Obligations.MarginReportClassesTheGroups
  have hexec : ∀ ratios s, (settle s).line.state = .run → exec (.marginReport ratios) s =
      .next (loadingMargins ratios (decideProtection (settle s))) := fun ratios s hrun =>
    congrArg Host.Outcome.next (if_pos (State.inRun_iff.mpr hrun))
  refine ⟨fun ratios s => ⟨fun hrun => ?_, fun hrun => ?_⟩, fun ratios s => ?_, fun x raw => ?_⟩
  · have hrun' := hexec ratios s hrun
    generalize settle s = u at hrun hrun'
    have hheld := loadingMargins_held ratios (decideProtection u)
    obtain ⟨hpending, hdue, htime, hline, htrack, hrate, hcls, hphone, hvoice, hsupply, hevt, hagent⟩ :=
      loadingMargins_frame (decideProtection u) ratios
    refine ⟨_, marginReport u.params u.load ratios, hrun', hheld.report, List.length_zipWith, fun g b ratio hb hr => ?_,
      hheld.rxLoads, hheld.txLoads, hheld.prot, hheld.tx, hheld.thresh, by rw [htrack]; rfl, by rw [htrack]; rfl, hpending, hdue,
      htime, hline, hrate, hcls, hphone, hvoice, hsupply, hevt, hagent, hheld.queues, hheld.vq⟩
    refine ⟨_, marginReport_getElem hb hr, rfl, rfl, ?_, groupReport_strong_iff _ _ _ _, ?_⟩
    · show (decide _ && decide _) = true ↔ _
      rw [Bool.and_eq_true, decide_eq_true_iff, decide_eq_true_iff]
      rfl
    · show (decide _ && decide _) = true ↔ _
      rw [Bool.and_eq_true, decide_eq_true_iff, decide_eq_true_iff]
      rfl
  · exact congrArg Host.Outcome.next (if_neg (mt State.inRun_iff.mp hrun))
  · intro u hrun held longest width raw inForce protect
    have hrun' := hexec ratios s hrun
    obtain ⟨-, -, -, -, htrack, -, -, -, -, -, -, -⟩ := loadingMargins_frame (decideProtection u) ratios
    have hlongest : longestBurst held = longest := longestBurst_eq held
    obtain ⟨hsame, hless, hmore⟩ := decide53_spec raw (recommend raw longest u.track.lock u.params.guardMargin) inForce
      u.track.lowerHold
    refine ⟨_, recommend raw longest u.track.lock u.params.guardMargin,
      (decide53 raw (recommend raw longest u.track.lock u.params.guardMargin) inForce u.track.lowerHold).2,
      (decide53 raw (recommend raw longest u.track.lock u.params.guardMargin) inForce u.track.lowerHold).1, hrun', ?_,
      fun hnone => recommend_of_none hnone _ _, fun k hlock hpos => ?_, fun h => ?_, fun hne h => ?_, fun hne h => ?_⟩
    · rw [← hlongest]
      exact htrack
    · rw [hlock]
      exact recommend_of_lock hpos k raw u.params.guardMargin
    · rw [hsame h]
      exact ⟨rfl, rfl⟩
    · rw [hless hne h]
      exact ⟨rfl, rfl⟩
    · rw [hmore hne h]
      exact ⟨rfl, rfl⟩
  · obtain ⟨level, guard⟩ := x
    cases level <;> cases guard <;> rfl

end Sys2Proof.Machine
end

section
/-! PROOFS. The own offer that a MARGIN-REPORT calls for, its changes and its protection, and what sending it does (R26 to R30,
R54). -/

namespace Sys2Proof.Machine

/-! ## Ranking (R28) -/

/-- One index and key before another: by key, and by index on a tie. -/
def RankedBefore (x y : Nat × Int) : Prop := x.2 < y.2 ∨ (x.2 = y.2 ∧ x.1 < y.1)

theorem insertRanked_perm (x : Nat × Int) (l : List (Nat × Int)) : (insertRanked x l).Perm (x :: l) := by
  induction l with
  | nil => exact .refl _
  | cons y rest ih =>
    unfold insertRanked
    split
    · exact .refl _
    · exact (ih.cons y).trans (.swap x y rest)

theorem insertRanked_ranked {x : Nat × Int} {l : List (Nat × Int)} (hindex : ∀ y ∈ l, y.1 < x.1) (h : l.Pairwise RankedBefore) :
    (insertRanked x l).Pairwise RankedBefore := by
  induction l with
  | nil => exact List.pairwise_singleton _ _
  | cons y rest ih =>
    obtain ⟨hy, hrest⟩ := List.pairwise_cons.mp h
    unfold insertRanked
    split
    · rename_i hlt
      refine List.pairwise_cons.mpr ⟨fun z hz => .inl ?_, h⟩
      rcases List.mem_cons.mp hz with rfl | hz
      · exact hlt
      · rcases hy z hz with hless | ⟨hsame, -⟩
        · exact hlt.trans hless
        · exact hsame ▸ hlt
    · rename_i hnot
      refine List.pairwise_cons.mpr ⟨fun z hz => ?_, ih (fun w hw => hindex w (List.mem_cons_of_mem y hw)) hrest⟩
      rcases List.mem_cons.mp ((insertRanked_perm x rest).mem_iff.mp hz) with rfl | hz
      · rcases lt_or_eq_of_le (Int.not_lt.mp hnot) with hless | hsame
        · exact .inl hless
        · exact .inr ⟨hsame, hindex y List.mem_cons_self⟩
      · exact hy z hz

theorem foldl_insertRanked {l r : List (Nat × Int)} (hl : l.Pairwise fun x y => x.1 < y.1) (hr : r.Pairwise RankedBefore)
    (hindex : ∀ y ∈ r, ∀ x ∈ l, y.1 < x.1) :
    (l.foldl (fun r x => insertRanked x r) r).Perm (l ++ r) ∧ (l.foldl (fun r x => insertRanked x r) r).Pairwise RankedBefore := by
  induction l generalizing r with
  | nil => exact ⟨.refl _, hr⟩
  | cons x l ih =>
    obtain ⟨hx, hl⟩ := List.pairwise_cons.mp hl
    have hbefore : ∀ y ∈ insertRanked x r, ∀ z ∈ l, y.1 < z.1 := by
      intro y hy z hz
      rcases List.mem_cons.mp ((insertRanked_perm x r).mem_iff.mp hy) with rfl | hy
      · exact hx z hz
      · exact hindex y hy z (List.mem_cons_of_mem x hz)
    obtain ⟨hperm, hranked⟩ := ih hl (insertRanked_ranked (fun y hy => hindex y hy x List.mem_cons_self) hr) hbefore
    exact ⟨hperm.trans (((insertRanked_perm x r).append_left l).trans List.perm_middle), hranked⟩

/-- The groups of a report of which `p` holds, with a key of each. -/
def keyed (p : GroupReport → Bool) (key : GroupReport → Int) (gs : List GroupReport) : List (Nat × Int) :=
  (gs.zipIdx.filter fun x => p x.1).map fun x => (x.2, key x.1)

theorem mem_keyed {p : GroupReport → Bool} {key : GroupReport → Int} {gs : List GroupReport} {x : Nat × Int} :
    x ∈ keyed p key gs ↔ ∃ g, gs[x.1]? = some g ∧ p g = true ∧ key g = x.2 := by
  obtain ⟨i, k⟩ := x
  simp only [keyed, List.mem_map, List.mem_filter, Prod.mk.injEq, Prod.exists, List.mem_zipIdx_iff_getElem?]
  constructor
  · rintro ⟨g, j, ⟨hg, hp⟩, rfl, hk⟩
    exact ⟨g, hg, hp, hk⟩
  · rintro ⟨g, hg, hp, hk⟩
    exact ⟨g, i, ⟨hg, hp⟩, rfl, hk⟩

theorem keyed_ascending (p : GroupReport → Bool) (key : GroupReport → Int) (gs : List GroupReport) :
    (keyed p key gs).Pairwise fun x y => x.1 < y.1 := by
  have hzip : gs.zipIdx.Pairwise fun x y => x.2 < y.2 := by
    rw [← List.pairwise_map (f := Prod.snd) (R := (· < ·)), List.zipIdx_map_snd]
    exact List.pairwise_lt_range'
  exact List.pairwise_map.mpr (hzip.filter _)

/-- The groups of which `p` holds, ranked by a key. -/
theorem rankAscending_keyed (p : GroupReport → Bool) (key : GroupReport → Int) (gs : List GroupReport) :
    (∀ g, g ∈ rankAscending (keyed p key gs) ↔ ∃ x, gs[g]? = some x ∧ p x = true) ∧
    (rankAscending (keyed p key gs)).Pairwise fun a b => ∃ x y, gs[a]? = some x ∧ gs[b]? = some y ∧ p x = true ∧ p y = true ∧
      (key x < key y ∨ (key x = key y ∧ a < b)) := by
  obtain ⟨hperm, hranked⟩ := foldl_insertRanked (r := []) (keyed_ascending p key gs) .nil (by simp)
  rw [List.append_nil] at hperm
  refine ⟨fun g => ?_, ?_⟩
  · rw [rankAscending, List.mem_map]
    constructor
    · rintro ⟨x, hx, rfl⟩
      obtain ⟨y, hy, hp, -⟩ := mem_keyed.mp (hperm.mem_iff.mp hx)
      exact ⟨y, hy, hp⟩
    · rintro ⟨x, hx, hp⟩
      exact ⟨(g, key x), hperm.mem_iff.mpr (mem_keyed.mpr ⟨x, hx, hp, rfl⟩), rfl⟩
  · refine List.pairwise_map.mpr (hranked.imp_of_mem fun {a b} ha hb hbefore => ?_)
    obtain ⟨x, hx, hpx, hkx⟩ := mem_keyed.mp (hperm.mem_iff.mp ha)
    obtain ⟨y, hy, hpy, hky⟩ := mem_keyed.mp (hperm.mem_iff.mp hb)
    refine ⟨x, y, hx, hy, hpx, hpy, ?_⟩
    rw [hkx, hky]
    exact hbefore

/-! ## The changes (R28) -/

/-- A loss and a gain of a pair of groups. -/
def pairChanges (loads : List Nat) (x : Nat × Nat) : List (Nat × Nat) :=
  [(x.1, loads.getD x.1 0 - 1), (x.2, loads.getD x.2 0 + 1)]

/-- A loss of a group. -/
def lossOf (loads : List Nat) (g : Nat) : Nat × Nat := (g, loads.getD g 0 - 1)

theorem moveChanges_of_unpaired (loads ws : List Nat) {acc : List (Nat × Nat)} (h : acc.length ≤ 8) :
    moveChanges loads ws [] acc = acc ++ (ws.take (8 - acc.length)).map (lossOf loads) := by
  induction ws generalizing acc with
  | nil => rw [moveChanges, List.take_nil, List.map_nil, List.append_nil]
  | cons g ws ih =>
    rw [moveChanges]
    by_cases hroom : acc.length + 1 ≤ 8
    · have hlen : (acc ++ [lossOf loads g]).length = acc.length + 1 := by simp
      have hleft : 8 - acc.length = (8 - (acc.length + 1)) + 1 := by omega
      refine (if_pos hroom).trans ((ih (acc := acc ++ [lossOf loads g]) (by rw [hlen]; exact hroom)).trans ?_)
      rw [hlen, hleft, List.take_succ_cons, List.map_cons, List.append_assoc]
      rfl
    · have hnone : 8 - acc.length = 0 := by omega
      refine (if_neg hroom).trans ?_
      rw [hnone, List.take_zero, List.map_nil, List.append_nil]

/-- The walk of the weak groups: four pairs in all, and losses of the groups without a partner, eight changes in all. -/
theorem moveChanges_eq (loads ws ps : List Nat) {k : Nat} (hk : k ≤ 4) {acc : List (Nat × Nat)} (h : acc.length = 2 * k) :
    moveChanges loads ws ps acc = acc ++ ((ws.zip ps).take (4 - k)).flatMap (pairChanges loads) ++
      ((ws.drop ((ws.zip ps).take (4 - k)).length).take (8 - 2 * k - 2 * ((ws.zip ps).take (4 - k)).length)).map (lossOf loads) := by
  induction ws generalizing ps k acc with
  | nil => cases ps <;> simp [moveChanges]
  | cons g ws ih =>
    cases ps with
    | nil =>
      rw [moveChanges_of_unpaired loads _ (by omega), h]
      simp
    | cons p ps =>
      rw [moveChanges]
      by_cases hroom : acc.length + 2 ≤ 8
      · have hless : k + 1 ≤ 4 := by omega
        have hlen : (acc ++ pairChanges loads (g, p)).length = 2 * (k + 1) := by
          rw [List.length_append, h, pairChanges]
          rfl
        have hleft : 4 - k = (4 - (k + 1)) + 1 := by omega
        refine (if_pos hroom).trans ((ih ps hless hlen).trans ?_)
        rw [hleft, List.zip_cons_cons, List.take_succ_cons, List.flatMap_cons, List.length_cons, List.drop_succ_cons]
        have hrest : 8 - 2 * (k + 1) - 2 * ((ws.zip ps).take (4 - (k + 1))).length =
            8 - 2 * k - 2 * (((ws.zip ps).take (4 - (k + 1))).length + 1) := by omega
        rw [hrest, List.append_assoc acc]
      · have hfull : k = 4 := by omega
        subst hfull
        refine (if_neg hroom).trans ?_
        simp

/-- The changes of an offer, by the weak and the strong groups as they are ranked. -/
def changesOf (loads weak strong : List Nat) (raiseCount : Nat) : List (Nat × Nat) :=
  if weak ≠ [] then
    ((weak.zip strong).take 4).flatMap (pairChanges loads) ++
      ((weak.drop ((weak.zip strong).take 4).length).take (8 - 2 * ((weak.zip strong).take 4).length)).map (lossOf loads)
  else if 30 ≤ raiseCount then (strong.take 8).map fun g => (g, loads.getD g 0 + 1)
  else []

theorem weakRanked_eq (gs : List GroupReport) : weakRanked gs = rankAscending (keyed (·.cls.weak) (·.margin) gs) := rfl

theorem strongRanked_eq (gs : List GroupReport) : strongRanked gs =
    rankAscending (keyed (·.cls.strong) (fun x => -(x.headroom.getD 0)) gs) := rfl

theorem any_weak_iff (gs : List GroupReport) : (gs.any (·.cls.weak)) = true ↔ weakRanked gs ≠ [] := by
  have hmem := (rankAscending_keyed (·.cls.weak) (·.margin) gs).1
  rw [List.any_eq_true, weakRanked_eq]
  constructor
  · rintro ⟨x, hx, hweak⟩
    obtain ⟨i, hi⟩ := List.mem_iff_getElem?.mp hx
    exact List.ne_nil_of_mem ((hmem i).mpr ⟨x, hi, hweak⟩)
  · intro hne
    obtain ⟨i, hi⟩ := List.exists_mem_of_ne_nil _ hne
    obtain ⟨x, hx, hweak⟩ := (hmem i).mp hi
    exact ⟨x, List.mem_of_getElem? hx, hweak⟩

theorem offerChanges_eq (loads : List Nat) (gs : List GroupReport) (raiseCount : Nat) :
    offerChanges loads gs raiseCount = changesOf loads (weakRanked gs) (strongRanked gs) raiseCount := by
  unfold offerChanges changesOf
  refine if_congr (any_weak_iff gs) ?_ rfl
  exact moveChanges_eq loads _ _ (Nat.zero_le 4) rfl

/-- R25: a strong group of a report has a headroom. -/
theorem marginReport_headroom {p : Params} {l : Loading} {ratios : List Byte} {g : Nat} {x : GroupReport}
    (hx : (marginReport p l ratios)[g]? = some x) (hstrong : x.cls.strong = true) : ∃ m, x.headroom = some m := by
  rw [marginReport, List.getElem?_zipWith] at hx
  cases hb : l.rxLoads[g]? with
  | none => simp [hb] at hx
  | some b =>
    cases hr : ratios[g]? with
    | none => simp [hb, hr] at hx
    | some ratio =>
      rw [hb, hr] at hx
      obtain rfl := Option.some.inj hx
      obtain ⟨-, m, hm, -⟩ := (groupReport_strong_iff _ _ _ _).mp hstrong
      exact ⟨m, hm⟩

/-- The groups of a report ranked as an offer takes them. -/
theorem ranked_spec (p : Params) (l : Loading) (ratios : List Byte) (gs : List GroupReport) (hgs : gs = marginReport p l ratios) :
    (∀ g, g ∈ weakRanked gs ↔ ∃ x, gs[g]? = some x ∧ x.cls.weak = true) ∧
    (∀ g, g ∈ strongRanked gs ↔ ∃ x, gs[g]? = some x ∧ x.cls.strong = true) ∧
    (weakRanked gs).Pairwise (fun a b => ∃ x y, gs[a]? = some x ∧ gs[b]? = some y ∧
      (x.margin < y.margin ∨ (x.margin = y.margin ∧ a < b))) ∧
    (strongRanked gs).Pairwise (fun a b => ∃ x y m n, gs[a]? = some x ∧ gs[b]? = some y ∧ x.headroom = some m ∧
      y.headroom = some n ∧ (n < m ∨ (m = n ∧ a < b))) := by
  obtain ⟨hweak, hweakRanked⟩ := rankAscending_keyed (·.cls.weak) (·.margin) gs
  obtain ⟨hstrong, hstrongRanked⟩ := rankAscending_keyed (·.cls.strong) (fun x => -(x.headroom.getD 0)) gs
  refine ⟨hweak, hstrong, hweakRanked.imp ?_, hstrongRanked.imp ?_⟩
  · rintro a b ⟨x, y, hx, hy, -, -, hbefore⟩
    exact ⟨x, y, hx, hy, hbefore⟩
  · rintro a b ⟨x, y, hx, hy, hsx, hsy, hbefore⟩
    obtain ⟨m, hm⟩ := marginReport_headroom (hgs ▸ hx) hsx
    obtain ⟨n, hn⟩ := marginReport_headroom (hgs ▸ hy) hsy
    refine ⟨x, y, m, n, hx, hy, hm, hn, ?_⟩
    rw [hm, hn, Option.getD_some, Option.getD_some] at hbefore
    omega

/-! ## The raise count (R26) -/

theorem nextRaiseCount_eq (gs : List GroupReport) (n : Nat) : nextRaiseCount gs n =
    if gs.all (fun x => !x.cls.weak) && decide (4 ≤ (gs.filter fun x => x.cls.strong).length) then min (n + 1) 255 else 0 := by
  unfold nextRaiseCount
  have hall : (gs.all fun x => !x.cls.weak) = !gs.any (·.cls.weak) := by rw [List.not_any_eq_all_not]
  rw [hall]
  cases gs.any (·.cls.weak) with
  | true => rfl
  | false =>
    by_cases hfew : (gs.filter fun x => x.cls.strong).length < 4
    · simp [hfew, Nat.not_le.mpr hfew]
    · simp [hfew, Nat.not_lt.mp hfew, incUpTo]

/-! ## The protection of an offer (R29, R54) -/

theorem newProtection_of_kept {s : State} (h : s.track.decision = some s.load.prot.rx.setting) : newProtection s = none := by
  rw [newProtection, h]
  exact if_pos rfl

theorem newProtection_of_changed {s : State} {x : Setting} (h : s.track.decision = some x) (hne : x ≠ s.load.prot.rx.setting) :
    newProtection s = some (decisionProtection s x (switchSymbol s.line.symbolCount 8)) := by
  rw [newProtection, h]
  exact if_neg hne

theorem decisionProtection_setting (s : State) (x : Setting) (sym : Word32) : (decisionProtection s x sym).setting = x := by
  obtain ⟨level, guard⟩ := x
  cases guard <;> rfl

theorem decisionProtection_anchor {s : State} {x : Setting} {sym : Word32} {g : Guard} {k : Lock}
    (hg : (decisionProtection s x sym).guard = some g) (hk : s.track.lock = some k) (hpos : 0 < g.period) (hp : g.period < 2 ^ 32) :
    (g.anchor - sym).toNat < g.period ∧
      (g.period : Int) ∣ (k.predicted - BitVec.ofNat 32 s.params.guardMargin - sym).toInt - (g.anchor - sym).toNat := by
  obtain ⟨shape, -, rfl⟩ := Option.map_eq_some_iff.mp hg
  dsimp only at hpos hp ⊢
  rw [decisionAnchor, hk]
  exact anchorFrom_spec hpos hp

/-- R52: the guard of a recommendation has the lock's period, which is above 0. -/
theorem recommend_guard {raw lb margin : Nat} {lock : Option Lock} {g : Nat × Nat}
    (h : (recommend raw lb lock margin).guard = some g) : ∃ k, lock = some k ∧ g.1 = k.period ∧ 0 < k.period := by
  have hbare : (protectCandidate lb).guard = none := rfl
  by_cases hnone : lock = none ∨ lb = 0
  · rw [recommend_of_none hnone, hbare] at h
    cases h
  · obtain ⟨hlock, hlb⟩ := not_or.mp hnone
    obtain ⟨k, rfl⟩ := Option.ne_none_iff_exists'.mp hlock
    obtain ⟨hwide, hfits⟩ := recommend_of_lock (Nat.pos_of_ne_zero hlb) k raw margin
    rcases Nat.lt_or_ge (lb + 2 * margin) k.period with hless | hmore
    · rw [hfits hless] at h
      split at h
      · cases h
        exact ⟨k, rfl, rfl, by omega⟩
      · rw [hbare] at h
        cases h
    · rw [hwide hmore, hbare] at h
      cases h

/-- R53: the decision is the setting in force or the recommendation. -/
theorem decide53_cases (raw : Nat) (best inForce : Setting) (hold : Nat) :
    (decide53 raw best inForce hold).1 = inForce ∨ (decide53 raw best inForce hold).1 = best := by
  obtain ⟨hsame, hless, hmore⟩ := decide53_spec raw best inForce hold
  by_cases heq : best = inForce
  · exact .inl (by rw [hsame heq])
  · rcases Nat.lt_or_ge (best.capacity raw) (inForce.capacity raw) with h | h
    · exact .inr (by rw [hless heq h])
    · rw [hmore heq h]
      dsimp only
      split
      · exact .inr rfl
      · exact .inl rfl

/-! ## Sending the offer (R30) -/

theorem sendOffer_out (changes : List (Nat × Nat)) (p : Option Protection) (s : State) : (sendOffer changes p s).out =
    { s.out with commands := s.out.commands ++ [tableSetOf .receive (applyChanges s.load.rxLoads changes)
        (p.getD (carriedProtection .receive (s.line.symbolCount + 800) s)) (s.line.superframe + 8)
        (s.line.symbolCount + 800) true] } := by
  simp [sendOffer, State.send]
  rfl

theorem sendOffer_sch {changes : List (Nat × Nat)} {p : Option Protection} {s : State} (hrun : s.line.state = .run)
    (hroom : s.sch.mq.length < 8) : (sendOffer changes p s).sch = { s.sch with mq := s.sch.mq ++ [mkMessage .loadOffer 0
      (offerBodyBytes { number := s.load.offerNumber + 1, switch := s.line.superframe + 8, changes := changes
                        prot := p.map (offerProtOf (s.line.superframe + 8) (s.line.symbolCount + 800)) })] } :=
  (congrArg State.sch (mqOffer_of_room hrun hroom)).trans rfl

theorem decideProtection_track (u : State) : (decideProtection u).track.decision = some (decide53 (rawOf u.load.rxLoads)
    (recommend (rawOf u.load.rxLoads) (longestBurst (ageHistory u.line.symbolCount u.track.history)) u.track.lock
      u.params.guardMargin) u.load.prot.rx.setting u.track.lowerHold).1 := rfl

theorem buildOffer_of_empty {gs : List GroupReport} {s : State} (hchanges : offerChanges s.load.rxLoads gs s.load.raiseCount = [])
    (hprot : newProtection s = none) : buildOffer gs s = s := by
  rw [buildOffer, hchanges, hprot]
  exact if_pos rfl

theorem buildOffer_of_change {gs : List GroupReport} {s : State}
    (h : offerChanges s.load.rxLoads gs s.load.raiseCount ≠ [] ∨ newProtection s ≠ none) :
    buildOffer gs s = sendOffer (offerChanges s.load.rxLoads gs s.load.raiseCount) (newProtection s) s := by
  refine if_neg ?_
  rw [Bool.and_eq_true, List.isEmpty_iff, Option.isNone_iff_eq_none, not_and_or]
  exact h

/-- What the loading engine has of a MARGIN-REPORT before it builds an offer. -/
def marginState (ratios : List Byte) (u : State) : State := marginNoted ratios (decideProtection u)

/-- R54: a guard that a new protection carries lies on the lock's beat. -/
theorem newProtection_beat {ratios : List Byte} {u : State} {p : Protection} {g : Guard} {k : Lock}
    (hp : newProtection (marginState ratios u) = some p) (hg : p.guard = some g) (hk : u.track.lock = some k)
    (hfits : k.period < 2 ^ 32) : (g.anchor - (u.line.symbolCount + 800)).toNat < g.period ∧
      (g.period : Int) ∣ (k.predicted - BitVec.ofNat 32 u.params.guardMargin - (u.line.symbolCount + 800)).toInt -
        (g.anchor - (u.line.symbolCount + 800)).toNat := by
  have hdecision : (marginState ratios u).track.decision = _ := decideProtection_track u
  by_cases hkept : (marginState ratios u).track.decision = some u.load.prot.rx.setting
  · rw [newProtection_of_kept hkept] at hp
    cases hp
  · have hnew := (decide53_cases _ _ _ _).resolve_left fun h => hkept (hdecision.trans (congrArg some h))
    rw [newProtection_of_changed hdecision fun h => hkept (hdecision.trans (congrArg some h)), hnew] at hp
    obtain rfl := Option.some.inj hp
    have hshape := congrArg Setting.guard (decisionProtection_setting (marginState ratios u)
      (recommend (rawOf u.load.rxLoads) (longestBurst (ageHistory u.line.symbolCount u.track.history)) u.track.lock
        u.params.guardMargin) (switchSymbol u.line.symbolCount 8))
    have hperiod : g.period = k.period ∧ 0 < k.period := by
      rw [Protection.setting] at hshape
      obtain ⟨k', hk', hsame, hpos⟩ := recommend_guard (hshape.symm.trans (congrArg (Option.map Guard.shape) hg))
      cases hk.symm.trans hk'
      exact ⟨hsame, hpos⟩
    exact decisionProtection_anchor (s := marginState ratios u) hg hk (hperiod.1 ▸ hperiod.2) (hperiod.1 ▸ hfits)

/-- Settles O60, by the changes and the protection that a report and its decision call for. -/
theorem ownOfferIsBuiltAndSent : Obligations.OwnOfferIsBuiltAndSent := by
  unfold Obligations.OwnOfferIsBuiltAndSent
  intro ratios s
  have hexec : (settle s).line.state = .run → exec (.marginReport ratios) s =
      .next (loadingMargins ratios (decideProtection (settle s))) := fun hrun =>
    congrArg Host.Outcome.next (if_pos (State.inRun_iff.mpr hrun))
  generalize settle s = u at hexec
  intro _ hrun
  have hheld := loadingMargins_held ratios (decideProtection u)
  have htrack := (loadingMargins_frame (decideProtection u) ratios).2.2.2.2.1
  have hdecision := (congrArg Tracker.decision htrack).trans (decideProtection_track u)
  refine ⟨_, marginReport u.params u.load ratios, hexec hrun, hheld.report, ?_⟩
  intro healthy raised inForce unsent
  have hraised : nextRaiseCount (marginReport u.params u.load ratios) u.load.raiseCount = raised := nextRaiseCount_eq _ _
  have hnoted : (marginState ratios u).load =
      { u.load with report := some (marginReport u.params u.load ratios), raiseCount := raised } := by
    rw [← hraised]
    rfl
  refine ⟨fun hpos => ?_, fun hzero hnone => ?_, fun hzero henable hown => ?_⟩
  · have ht := loadingMargins_of_holdoff (ratios := ratios) (s := decideProtection u) hpos
    show _ ∧ _ ∧ _
    rw [ht]
    exact ⟨congrArg (fun l : Loading => { l with holdoff := l.holdoff - 1 }) hnoted, rfl, rfl⟩
  · have ht := loadingMargins_of_none (ratios := ratios) (s := decideProtection u) hzero
      fun h => hnone.elim (· h.1) (· h.2)
    show _ ∧ _ ∧ _
    rw [ht]
    exact ⟨hnoted.trans (by rw [← hzero]), rfl, rfl⟩
  · obtain ⟨hweak, hstrong, hweakRanked, hstrongRanked⟩ := ranked_spec u.params u.load ratios _ rfl
    refine ⟨_, _, hweak, hstrong, hweakRanked, hstrongRanked, ?_⟩
    have ht := loadingMargins_of_offer (ratios := ratios) (s := decideProtection u) hzero ⟨henable, hown⟩
    intro load pairs changes
    have hchanges : offerChanges (marginState ratios u).load.rxLoads (marginReport u.params u.load ratios)
        (marginState ratios u).load.raiseCount = changes := by
      rw [hnoted]
      exact offerChanges_eq _ _ _
    clear_value changes
    refine ⟨fun hnone hkept => ?_, fun hsome => ?_⟩
    · have hempty := buildOffer_of_empty (hchanges.trans hnone)
        (newProtection_of_kept (s := marginState ratios u) ((congrArg Tracker.decision htrack).symm.trans hkept))
      show _ ∧ _ ∧ _
      rw [ht.trans hempty]
      exact ⟨hnoted.trans (by rw [← hzero]), rfl, rfl⟩
    · have hnew : (loadingMargins ratios (decideProtection u)).track.decision ≠ some inForce →
          newProtection (marginState ratios u) ≠ none := by
        intro hne
        rw [newProtection_of_changed (s := marginState ratios u) (decideProtection_track u)
          fun h => hne (hdecision.trans (congrArg some h))]
        exact Option.some_ne_none _
      have hsent := buildOffer_of_change (gs := marginReport u.params u.load ratios) (s := marginState ratios u)
        (hchanges ▸ hsome.imp id hnew)
      rw [hchanges] at hsent
      intro number switch sym table
      refine ⟨newProtection (marginState ratios u), carriedProtection .receive sym (marginState ratios u), fun hkept => ?_,
        fun x hx hne => ?_, fun p g k hp hg hk hfits => newProtection_beat hp hg hk hfits, ?_, ?_, ?_, fun hroom => ?_⟩
      · exact newProtection_of_kept (s := marginState ratios u) ((congrArg Tracker.decision htrack).symm.trans hkept)
      · exact ⟨_, newProtection_of_changed (s := marginState ratios u) ((congrArg Tracker.decision htrack).symm.trans hx) hne,
          decisionProtection_setting _ _ _⟩
      · exact carriedProtection_carriedOver .receive sym (marginState ratios u)
      · rw [ht.trans hsent, sendOffer_load, hnoted]
        rfl
      · rw [ht.trans hsent, sendOffer_out]
        rfl
      · rw [ht.trans hsent, sendOffer_sch (s := marginState ratios u) hrun hroom]
        rfl

end Sys2Proof.Machine
end

section
/-! PROOFS. WRITE-TABLE and WRITE-ON: the checks of a write and the tables that it stores (R24, R76, R108, R161, R163). -/

namespace Sys2Proof.Machine

/-! ## The checks of a table's contents -/

theorem strictlyIncreasing_iff (l : List Nat) : strictlyIncreasing l = true ↔ l.Pairwise (· < ·) := by
  rw [← List.isChain_iff_pairwise]
  induction l with
  | nil => exact iff_of_true rfl .nil
  | cons a l ih =>
    cases l with
    | nil => exact iff_of_true rfl (.singleton a)
    | cons b l => rw [strictlyIncreasing, Bool.and_eq_true, decide_eq_true_iff, ih, List.isChain_cons_cons]

theorem threshAllowed_iff (t : List Nat) : threshAllowed t = true ↔ t.getD 0 0 = 0 ∧ (∀ x ∈ t, x ≤ 172) ∧ t.Pairwise (· < ·) := by
  rw [threshAllowed, Bool.and_eq_true, Bool.and_eq_true, beq_iff_eq, strictlyIncreasing_iff, and_assoc, List.all_eq_true]
  simp only [decide_eq_true_iff]

theorem cadenceTailEmpty_iff (e : List Segment) : cadenceTailEmpty e = true ↔ ∀ g ∈ e.drop (segments e).length, g = ⟨0, 0⟩ := by
  induction e with
  | nil => simp [cadenceTailEmpty]
  | cons g e ih =>
    by_cases hg : g = ⟨0, 0⟩
    · simp [cadenceTailEmpty, segments, hg]
    · have hseg : segments (g :: e) = g :: segments e := by simp [segments, hg]
      rw [cadenceTailEmpty, if_neg hg, ih, hseg, List.length_cons, List.drop_succ_cons]

theorem cadenceAllowed_iff (e : List Segment) : cadenceAllowed e = true ↔
    (∀ g ∈ e, g.on ≤ 400 ∧ g.off ≤ 400) ∧ ∀ g ∈ e.drop (segments e).length, g = ⟨0, 0⟩ := by
  rw [cadenceAllowed, Bool.and_eq_true, cadenceTailEmpty_iff, List.all_eq_true]
  simp only [Bool.and_eq_true, decide_eq_true_iff]

theorem ringUses_iff (q : PhonePort) (start count : Nat) :
    ringUses q start count = true ↔ ∃ x, q.ring = some x ∧ start ≤ x.entry ∧ x.entry < start + count := by
  unfold ringUses
  cases q.ring with
  | none => simp
  | some x => simp

theorem cadenceBusy_iff (s : State) (start count : Nat) : cadenceBusy s start count = true ↔
    ∃ p x, (s.port p).ring = some x ∧ start ≤ x.entry ∧ x.entry < start + count := by
  rw [cadenceBusy, Bool.or_eq_true, ringUses_iff, ringUses_iff]
  constructor
  · rintro (⟨x, hx⟩ | ⟨x, hx⟩)
    · exact ⟨.p1, x, hx⟩
    · exact ⟨.p2, x, hx⟩
  · rintro ⟨p, x, hx⟩
    cases p with
    | p1 => exact .inl ⟨x, hx⟩
    | p2 => exact .inr ⟨x, hx⟩

theorem threshBusy_iff (s : State) : threshBusy s = true ↔ s.line.state = .run ∧ s.params.reloadEnable = 1 := by
  rw [threshBusy, Bool.and_eq_true, State.inRun_iff, beq_iff_eq]

theorem replaceRun_eq {α : Type} (l new : List α) (start : Nat) {count : Nat} (h : new.length = count) :
    replaceRun l start new = l.take start ++ new ++ l.drop (start + count) := by
  rw [replaceRun, h]

theorem writeWatches_eq {w : Quad Watch} {start : Nat} {ws : List Watch} (h : start + ws.length ≤ 4) :
    [(writeWatches w start ws).i0, (writeWatches w start ws).i1, (writeWatches w start ws).i2, (writeWatches w start ws).i3] =
      replaceRun [w.i0, w.i1, w.i2, w.i3] start ws := by
  have hlen := length_replaceRun (l := [w.i0, w.i1, w.i2, w.i3]) (new := ws) (start := start) h
  unfold writeWatches
  generalize replaceRun [w.i0, w.i1, w.i2, w.i3] start ws = l at hlen
  obtain ⟨a, l, rfl⟩ := List.exists_cons_of_length_eq_add_one hlen
  obtain ⟨b, l, rfl⟩ := List.exists_cons_of_length_eq_add_one (Nat.succ.inj hlen)
  obtain ⟨c, l, rfl⟩ := List.exists_cons_of_length_eq_add_one (Nat.succ.inj (Nat.succ.inj hlen))
  obtain ⟨d, l, rfl⟩ := List.exists_cons_of_length_eq_add_one (Nat.succ.inj (Nat.succ.inj (Nat.succ.inj hlen)))
  obtain rfl := List.length_eq_zero_iff.mp (Nat.succ.inj (Nat.succ.inj (Nat.succ.inj (Nat.succ.inj hlen))))
  rfl

/-! ## The checks of a write, in their order (R163) -/

section
variable {id start count : Nat} {bytes : Bytes} {s : State}

theorem writeRun_of_readOnly (h : tableReadOnly id = true) : writeRun id start count bytes s = refuseWrite .refused s := if_pos h

theorem writeRun_of_past (hopen : tableReadOnly id = false) (h : tableSize s id < start + count) :
    writeRun id start count bytes s = refuseWrite .badIndex s :=
  (if_neg (by rw [hopen]; exact Bool.false_ne_true)).trans (if_pos h)

theorem writeRun_of_busy (hopen : tableReadOnly id = false) (hin : start + count ≤ tableSize s id)
    (h : writeBusy s id start count = true) : writeRun id start count bytes s = refuseWrite .busy s :=
  (if_neg (by rw [hopen]; exact Bool.false_ne_true)).trans ((if_neg (Nat.not_lt.mpr hin)).trans (if_pos h))

theorem writeRun_of_bad (hopen : tableReadOnly id = false) (hin : start + count ≤ tableSize s id)
    (hfree : writeBusy s id start count = false)
    (h : writeEntries id start count (cutEntries (entrySize id) count bytes) s = none) :
    writeRun id start count bytes s = refuseWrite .badValue s := by
  refine (if_neg (by rw [hopen]; exact Bool.false_ne_true)).trans ((if_neg (Nat.not_lt.mpr hin)).trans
    ((if_neg (by rw [hfree]; exact Bool.false_ne_true)).trans ?_))
  rw [h]

theorem writeRun_of_stored (hopen : tableReadOnly id = false) (hin : start + count ≤ tableSize s id)
    (hfree : writeBusy s id start count = false) {t : State}
    (h : writeEntries id start count (cutEntries (entrySize id) count bytes) s = some t) :
    writeRun id start count bytes s =
      .accept (writeReply id start count t) (setCursor (some { table := id, index := start + count }) t) := by
  refine (if_neg (by rw [hopen]; exact Bool.false_ne_true)).trans ((if_neg (Nat.not_lt.mpr hin)).trans
    ((if_neg (by rw [hfree]; exact Bool.false_ne_true)).trans ?_))
  rw [h]

end

/-! ## The two requests (R163) -/

theorem exec_writes {c : Instr} {row : RequestRow} {h : Request → State → Answer} (hc : handlerOf c = some (row, h)) {r : Request}
    {rest : List Request} {s : State} (asked : Asked row r rest s) {a : Answer} (hans : h r (executing rest s) = a) :
    exec c s = .next (replied r a.status a.body a.state) := by
  rw [exec_asked hc asked, hans]

theorem exec_writeRefused {c : Instr} {row : RequestRow} {h : Request → State → Answer} (hc : handlerOf c = some (row, h))
    {r : Request} {rest : List Request} {s : State} (asked : Asked row r rest s) {st : Status}
    (hans : h r (executing rest s) = refuseWrite st (executing rest s)) : exec c s = .next (replied r st []
      { executing rest s with agent := { (executing rest s).agent with cursor := none } }) := by
  refine (exec_writes hc asked hans).trans ?_
  generalize executing rest s = u
  rfl

theorem bodyHeld_iff (r : Request) : bodyHeld r = true ↔ r.bodyLen ≤ r.rest.length := decide_eq_true_iff

theorem bodyShort_iff (r : Request) (n : Nat) :
    (!bodyHeld r || decide (r.bodyLen < n)) = true ↔ r.rest.length < r.bodyLen ∨ r.bodyLen < n := by
  rw [Bool.or_eq_true, Bool.not_eq_true', ← Bool.not_eq_true, bodyHeld_iff, decide_eq_true_iff, Nat.not_le]

theorem answerWriteTable_eq (r : Request) (s : State) : answerWriteTable r s =
    if r.rest.length < r.bodyLen ∨ r.bodyLen < 5 then Answer.refuse .badLength s
    else if ¬ (1 ≤ byteAt r.body 0 ∧ byteAt r.body 0 ≤ 8) then refuseWrite .badTable s
    else if r.bodyLen ≠ 5 + field16 r.body 3 * entrySize (byteAt r.body 0) ∨ 1510 < field16 r.body 3 * entrySize (byteAt r.body 0) then
      Answer.refuse .badLength s
    else writeRun (byteAt r.body 0) (field16 r.body 1) (field16 r.body 3) (r.body.drop 5) s := by
  unfold answerWriteTable
  dsimp only
  refine ite_congr (propext (bodyShort_iff r 5)) (fun _ => rfl) fun _ => ite_congr (propext ?_) (fun _ => rfl) fun _ => rfl
  rw [Bool.not_eq_true', ← Bool.not_eq_true, tableValid_iff]

theorem answerWriteOn_of_cursor {r : Request} {s : State} {x : Cursor} (h : s.agent.cursor = some x) : answerWriteOn r s =
    if r.rest.length < r.bodyLen ∨ r.bodyLen < 2 then Answer.refuse .badLength s
    else if r.bodyLen ≠ 2 + field16 r.body 0 * entrySize x.table ∨ 1510 < field16 r.body 0 * entrySize x.table then
      Answer.refuse .badLength s
    else writeRun x.table x.index (field16 r.body 0) (r.body.drop 2) s := by
  unfold answerWriteOn
  dsimp only
  rw [h]
  exact ite_congr (propext (bodyShort_iff r 2)) (fun _ => rfl) fun _ => rfl

/-- How a write names its table, its run and its bytes: by the request, or by the request and the cursor. -/
def WriteNames (c : Instr) (row : RequestRow) (r : Request) (u : State) (id start count : Nat) (data : Bytes) : Prop :=
  (c = .writeTable ∧ row = .writeTable ∧ id = byteAt r.body 0 ∧ start = field16 r.body 1 ∧
      count = field16 r.body 3 ∧ 5 ≤ r.bodyLen ∧ r.bodyLen = 5 + count * entrySize id ∧ data = r.body.drop 5) ∨
    (c = .writeOn ∧ row = .writeOn ∧ u.agent.cursor = some { table := id, index := start } ∧
      count = field16 r.body 0 ∧ 2 ≤ r.bodyLen ∧ r.bodyLen = 2 + count * entrySize id ∧ data = r.body.drop 2)

/-- R163: a write of the right length to a table is answered by the checks of its run. -/
theorem exec_writeRun {c : Instr} {row : RequestRow} {r : Request} {rest : List Request} {id start count : Nat} {data : Bytes}
    {s : State} (asked : Asked row r rest s) (hheld : r.bodyLen ≤ r.rest.length)
    (hnames : WriteNames c row r (executing rest s) id start count data) (hfits : count * entrySize id ≤ 1510) (h1 : 1 ≤ id)
    (h8 : id ≤ 8) {a : Answer} (hrun : writeRun id start count data (executing rest s) = a) :
    exec c s = .next (replied r a.status a.body a.state) := by
  rcases hnames with ⟨rfl, rfl, rfl, rfl, rfl, hlong, hlen, rfl⟩ | ⟨rfl, rfl, hcursor, rfl, hlong, hlen, rfl⟩
  · refine exec_writes rfl asked ((answerWriteTable_eq r _).trans ?_)
    rw [if_neg (by omega), if_neg (not_not_intro ⟨h1, h8⟩), if_neg (not_or.mpr ⟨not_not_intro hlen, Nat.not_lt.mpr hfits⟩)]
    exact hrun
  · refine exec_writes rfl asked ((answerWriteOn_of_cursor hcursor).trans ?_)
    rw [if_neg (by omega), if_neg (not_or.mpr ⟨not_not_intro hlen, Nat.not_lt.mpr hfits⟩)]
    exact hrun

/-- The requests refused for their length, or for want of a cursor (R163). -/
theorem writes_refused (r : Request) (rest : List Request) (s : State) : let u := executing rest s
    (Asked .writeTable r rest s → let id := byteAt r.body 0
      (r.rest.length < r.bodyLen ∨ r.bodyLen < 5 → exec .writeTable s = .next (replied r .badLength [] u)) ∧
      (r.bodyLen ≤ r.rest.length → 5 ≤ r.bodyLen → id = 0 ∨ 8 < id → exec .writeTable s = .next
        (replied r .badTable [] { u with agent := { u.agent with cursor := none } })) ∧
      (r.bodyLen ≤ r.rest.length → 5 ≤ r.bodyLen → 1 ≤ id → id ≤ 8 →
        r.bodyLen ≠ 5 + field16 r.body 3 * entrySize id ∨ 1510 < field16 r.body 3 * entrySize id →
        exec .writeTable s = .next (replied r .badLength [] u))) ∧
    (Asked .writeOn r rest s →
      (u.agent.cursor = none → exec .writeOn s = .next (replied r .badIndex [] u)) ∧
      (∀ x, u.agent.cursor = some x →
        r.rest.length < r.bodyLen ∨ r.bodyLen < 2 ∨ r.bodyLen ≠ 2 + field16 r.body 0 * entrySize x.table ∨
          1510 < field16 r.body 0 * entrySize x.table →
        exec .writeOn s = .next (replied r .badLength [] u))) := by
  intro u
  refine ⟨fun asked => ?_, fun asked => ⟨fun hnone => ?_, fun x hx hbad => ?_⟩⟩
  · intro id
    have hans := answerWriteTable_eq r u
    refine ⟨fun hshort => ?_, fun hheld hlong hid => ?_, fun hheld hlong h1 h8 hlen => ?_⟩
    · rw [if_pos hshort] at hans
      exact exec_refused rfl asked hans
    · rw [if_neg (by omega), if_pos (show ¬ (1 ≤ id ∧ id ≤ 8) by omega)] at hans
      exact exec_writeRefused rfl asked hans
    · rw [if_neg (by omega), if_neg (not_not_intro ⟨h1, h8⟩), if_pos hlen] at hans
      exact exec_refused rfl asked hans
  · refine exec_refused rfl asked ?_
    unfold answerWriteOn
    dsimp only
    rw [hnone]
  · have hans := answerWriteOn_of_cursor (r := r) hx
    by_cases hshort : r.rest.length < r.bodyLen ∨ r.bodyLen < 2
    · rw [if_pos hshort] at hans
      exact exec_refused rfl asked hans
    · rw [if_neg hshort, if_pos (hbad.resolve_left (not_or.mp hshort).1 |>.resolve_left (not_or.mp hshort).2)] at hans
      exact exec_refused rfl asked hans

/-! ## The tables (R161, R163) -/

theorem writeBusy_thresh (s : State) (start count : Nat) :
    writeBusy s 2 start count = true ↔ s.line.state = .run ∧ s.params.reloadEnable = 1 := by
  rw [← threshBusy_iff, writeBusy]
  simp

theorem writeBusy_cadence (s : State) (start count : Nat) : writeBusy s 5 start count = true ↔
    ∃ p x, (s.port p).ring = some x ∧ start ≤ x.entry ∧ x.entry < start + count := by
  rw [← cadenceBusy_iff, writeBusy]
  simp

theorem writeEntries_thresh (start count : Nat) (entries : List Bytes) (s : State) (hlen : entries.length = count) :
    writeEntries 2 start count entries s =
      (if threshAllowed (s.load.thresh.take start ++ entries.map (fun b => field16 b 0) ++ s.load.thresh.drop (start + count)) then
        some { s with load := { s.load with
          thresh := s.load.thresh.take start ++ entries.map (fun b => field16 b 0) ++ s.load.thresh.drop (start + count) } }
      else none) := by
  rw [← replaceRun_eq s.load.thresh (entries.map fun b => field16 b 0) start (by rw [List.length_map, hlen])]
  rfl

theorem writeEntries_cadence (start count : Nat) (entries : List Bytes) (s : State) (hlen : entries.length = count) :
    writeEntries 5 start count entries s =
      (if (entries.map readCadence).all cadenceAllowed then
        some { s with phone := { s.phone with
          cadence := s.phone.cadence.take start ++ entries.map readCadence ++ s.phone.cadence.drop (start + count) } }
      else none) := by
  rw [← replaceRun_eq s.phone.cadence (entries.map readCadence) start (by rw [List.length_map, hlen])]
  rfl

theorem writeEntries_classes {start count : Nat} {entries : List Bytes} {s : State} {es : List ClassEntry}
    (hlen : entries.length = count) (h : readAll readClassEntry entries = some es) : writeEntries 1 start count entries s =
      some { s with cls := { s.cls with table := s.cls.table.take start ++ es ++ s.cls.table.drop (start + count) } } := by
  rw [← replaceRun_eq s.cls.table es start ((length_readAll h).trans hlen), writeEntries, h]
  rfl

theorem writeEntries_watches {start count : Nat} {entries : List Bytes} {s : State} {ws : List Watch}
    (h : readAll readWatch entries = some ws) : writeEntries 8 start count entries s =
      some { s with mon := { s.mon with watches := writeWatches s.mon.watches start ws } } := by
  rw [writeEntries, h]
  rfl

theorem writeEntries_unread {id start count : Nat} {entries : List Bytes} {s : State}
    (h : id = 1 ∧ readAll readClassEntry entries = none ∨ id = 8 ∧ readAll readWatch entries = none) :
    writeEntries id start count entries s = none := by
  rcases h with ⟨rfl, h⟩ | ⟨rfl, h⟩ <;> rw [writeEntries, h] <;> rfl

theorem all_cadenceAllowed (entries : List Bytes) : (entries.map readCadence).all cadenceAllowed = true ↔
    ∀ b ∈ entries, (∀ g ∈ readCadence b, g.on ≤ 400 ∧ g.off ≤ 400) ∧
      ∀ g ∈ (readCadence b).drop (segments (readCadence b)).length, g = ⟨0, 0⟩ := by
  rw [List.all_map, List.all_eq_true]
  exact forall₂_congr fun b _ => cadenceAllowed_iff (readCadence b)

end Sys2Proof.Machine
end

section
/-! PROOFS. What a write of parameters tells the rate unit, the scheduler and the loading engine (R37, R65, R66, R68, R88, R90,
R163). -/

namespace Sys2Proof.Machine

/-- The state with a run of parameters stored, of which no block has been told. -/
def paramsStored (start : Nat) (entries : List Bytes) (s : State) : State :=
  s.modAgent fun a => { a with params := storeParams a.params start entries }

/-! ## The rate unit (R65, R66, R68) -/

theorem recomputeAllowances_eq (s : State) : (recomputeAllowances s).rate = { s.rate with
    txAllowance := if s.line.state = .run then s.rate.effTx * s.params.voiceShare / 16 else 0
    rxAllowance := if s.line.state = .run then s.rate.capacity.rx * s.params.voiceShare / 16 else 0 } := by
  by_cases hrun : s.line.state = .run
  · rw [recomputeAllowances_rate hrun, if_pos hrun, if_pos hrun]
    rfl
  · rw [recomputeAllowances, if_neg (mt State.inRun_iff.mp hrun), if_neg hrun, if_neg hrun]
    rfl

theorem recomputeAllowances_enters (s : State) : Enters [] s (recomputeAllowances s) := by
  have hset : ∀ r : RateRecord, r.binding = s.rate.binding → Enters [] s (s.setRate r) := by
    intro r hr
    exact .untold (.same rfl rfl rfl rfl) fun c => by cases c <;> simp only [conditionHolds, State.setRate_rate, hr] <;> rfl
  unfold recomputeAllowances
  split
  · exact hset _ rfl
  · exact hset _ rfl

/-- The rates told of the caps. -/
theorem tellRate_of_caps {wrote : Nat → Bool} {s : State} (h : wrote 9 = true ∨ wrote (11 + s.supply.mode.code) = true) :
    tellRate wrote s = recompute s := if_pos (Bool.or_eq_true _ _ ▸ h)

theorem tellRate_of_others {wrote : Nat → Bool} {s : State} (h : ¬ wrote 9 = true) (h' : ¬ wrote (11 + s.supply.mode.code) = true) :
    tellRate wrote s = if wrote 10 then recomputeAllowances s else s :=
  if_neg (by rw [Bool.or_eq_true]; exact not_or.mpr ⟨h, h'⟩)

theorem tellRate_enters (wrote : Nat → Bool) (s : State) : Enters [] s (tellRate wrote s) := by
  unfold tellRate
  split
  · exact .recompute s
  · split
    · exact recomputeAllowances_enters s
    · exact .untold (.refl s) fun _ => rfl

theorem fireWith_none {f : WatchSource → Bool} {s : State} (h : ∀ i, f (s.mon.watches.get i).source = false) :
    fireWith raise f s = s :=
  List.foldl_fixed' (fun i => if_neg (by rw [h]; exact Bool.false_ne_true)) Ix4.all

/-- With no watch in EDGE mode the entry of a condition does nothing. -/
theorem tellRate_evt_of_unwatched (wrote : Nat → Bool) {s : State} (h : ∀ i x, (s.mon.watches.get i).source ≠ .edge x) :
    (tellRate wrote s).evt = s.evt := by
  have hcondition : ∀ c (t : State), t.mon = s.mon → t.evt = s.evt → (enterCondition c t).evt = s.evt := by
    intro c t hmon hevt
    rw [enterCondition, fireWith_none, hevt]
    intro i
    rw [hmon, beq_eq_false_iff_ne]
    exact h i c
  have hrates : (recompute s).evt = s.evt := by
    unfold recompute
    dsimp only
    split
    · split
      · rfl
      · exact hcondition _ _ rfl rfl
    · rfl
  unfold tellRate recomputeAllowances
  repeat' split
  · exact hrates
  all_goals rfl

/-! ## The limits (R88) -/

theorem trimNewest_maximal (limit : Nat) (l : List FrameRec) : ∃ k, k ≤ l.length ∧ trimNewest limit l = l.drop k ∧
    (0 < k → limit < occupancy (l.drop (k - 1))) := by
  induction l with
  | nil => exact ⟨0, le_rfl, rfl, fun h => absurd h (Nat.lt_irrefl 0)⟩
  | cons f rest ih =>
    unfold trimNewest
    split
    · exact ⟨0, Nat.zero_le _, rfl, fun h => absurd h (Nat.lt_irrefl 0)⟩
    · rename_i hover
      obtain ⟨k, hk, heq, hmax⟩ := ih
      refine ⟨k + 1, Nat.succ_le_succ hk, heq, fun _ => ?_⟩
      cases k with
      | zero => exact Nat.lt_of_not_le hover
      | succ j => exact hmax (Nat.succ_pos j)

/-- R88: what stays under a limit is as many of the oldest frames as the limit holds. -/
theorem keptWithin_maximal (limit : Nat) (q : List FrameRec) : ∃ n, n ≤ q.length ∧ keptWithin limit q = q.take n ∧
    (n < q.length → limit < occupancy (q.take (n + 1))) := by
  obtain ⟨k, hk, heq, hmax⟩ := trimNewest_maximal limit q.reverse
  rw [List.length_reverse] at hk
  have hdrop : ∀ j, (q.reverse.drop j).reverse = q.take (q.length - j) := by
    intro j
    rw [List.drop_reverse, List.reverse_reverse]
  refine ⟨q.length - k, Nat.sub_le _ _, ?_, fun hless => ?_⟩
  · rw [keptWithin, heq, hdrop]
  · have hpos : 0 < k := by omega
    have hover := hmax hpos
    rw [← occupancy_reverse, hdrop] at hover
    have hone : q.length - k + 1 = q.length - (k - 1) := by omega
    rw [hone]
    exact hover

/-- What the scheduler holds of a data queue, and the frames counted dropped from its tail. -/
def limitCell (t : State) (i : Ix4) : List FrameRec × Nat := (t.sch.queues.get i, t.mon.traffic.sch.tailDropped.get i)

/-- What a limit leaves of a queue, with the frames that it drops. -/
def limitedCell (wrote : Nat → Bool) (p : Params) (i : Ix4) (x : List FrameRec × Nat) : List FrameRec × Nat :=
  if wrote (24 + i.num) then
    (keptWithin (p.qLimit.get i) x.1, satAdd x.2 (x.1.length - (keptWithin (p.qLimit.get i) x.1).length))
  else x

theorem limits_cells (wrote : Nat → Bool) (s : State) (i : Ix4) :
    limitCell (Ix4.all.foldl (fun t i => if wrote (24 + i.num) then applyLimit i t else t) s) i =
      limitedCell wrote s.params i (limitCell s i) := by
  have h := foldl_cells (cell := limitCell) (κ := State.params) (g := limitedCell wrote)
    (f := fun t i => if wrote (24 + i.num) then applyLimit i t else t) (fun t j => by split <;> simp) (fun t j k => ?_)
    (l := Ix4.all) (by decide) s i
  · rw [h, if_pos i.mem_all]
  · unfold limitedCell
    by_cases hw : wrote (24 + j.num) = true
    · rw [if_pos hw, if_pos hw]
      have hqueue : (applyLimit j t).sch.queues.get k = _ := congrArg (fun x : Scheduler => x.queues.get k) (applyLimit_sch j t)
      have hcount : (applyLimit j t).mon.traffic.sch.tailDropped = t.mon.traffic.sch.tailDropped.addAt j
        ((t.sch.queues.get j).length - (keptWithin (t.params.qLimit.get j) (t.sch.queues.get j)).length) := rfl
      rw [limitCell, hqueue, hcount, Quad.get_set, Quad.addAt, Quad.get_set]
      split <;> rfl
    · rw [if_neg hw, if_neg hw]
      split
      · rename_i hk
        rw [hk]
      · rfl

/-! ## The shedding level (R90) -/

/-- The deficit of a data queue that has one. -/
def deficitCell (t : State) (i : Ix4) : Option Nat := i.drr.map fun d => t.sch.deficit.get d

theorem setShedLevel_deficit (level : Nat) (s : State) (i : Ix4) : deficitCell (setShedLevel level s) i =
    if newlyShed s.sch.shedLevel level i then (deficitCell s i).map fun _ => 0 else deficitCell s i := by
  have h := foldl_cells (cell := deficitCell) (κ := fun _ => ())
    (g := fun _ i x => if newlyShed s.sch.shedLevel level i then x.map fun _ => 0 else x)
    (f := fun t i => if shedAt level i && !shedAt s.sch.shedLevel i then flushShed i t else t) (fun _ _ => rfl) (fun t j k => ?_)
    (l := Ix4.all) (by decide) (s.modSch fun x => { x with shedLevel := level }) i
  · rw [if_pos i.mem_all] at h
    exact h
  · show deficitCell (if newlyShed s.sch.shedLevel level j then flushShed j t else t) k = _
    by_cases hnew : newlyShed s.sch.shedLevel level j = true
    · rw [if_pos hnew, if_pos hnew]
      unfold deficitCell
      rw [flushShed_sch]
      cases j <;> cases k <;> rfl
    · rw [if_neg hnew, if_neg hnew]
      split
      · rename_i hk
        rw [hk]
      · rfl

theorem setShedLevel_tailDropped (level : Nat) (s : State) :
    (setShedLevel level s).mon.traffic.sch.tailDropped = s.mon.traffic.sch.tailDropped :=
  foldl_keep (fun t : State => t.mon.traffic.sch.tailDropped) _ (fun t i => by split <;> rfl) Ix4.all _

theorem setShedLevel_mq (level : Nat) (s : State) : (setShedLevel level s).sch.mq = s.sch.mq :=
  foldl_keep (fun t : State => t.sch.mq) _ (fun t i => by split <;> rfl) Ix4.all _

/-! ## The scheduler (R88, R90) -/

theorem toldShed_of_written {wrote : Nat → Bool} {s : State} (h : wrote (17 + s.supply.mode.code) = true) :
    toldShed wrote s = setShedLevel (s.params.shed.get s.supply.mode) s := if_pos h

theorem toldShed_of_not {wrote : Nat → Bool} {s : State} (h : ¬ wrote (17 + s.supply.mode.code) = true) : toldShed wrote s = s :=
  if_neg h

theorem limits_deficit (wrote : Nat → Bool) (s : State) :
    (Ix4.all.foldl (fun t i => if wrote (24 + i.num) then applyLimit i t else t) s).sch.deficit = s.sch.deficit :=
  foldl_keep (fun t : State => t.sch.deficit) _ (fun t i => by split <;> rfl) Ix4.all _

theorem limits_mq (wrote : Nat → Bool) (s : State) :
    (Ix4.all.foldl (fun t i => if wrote (24 + i.num) then applyLimit i t else t) s).sch.mq = s.sch.mq :=
  foldl_keep (fun t : State => t.sch.mq) _ (fun t i => by split <;> rfl) Ix4.all _

theorem tellScheduler_mq (wrote : Nat → Bool) (s : State) : (tellScheduler wrote s).sch.mq = s.sch.mq := by
  rw [tellScheduler_eq, limits_mq]
  unfold toldShed
  split
  · exact setShedLevel_mq _ s
  · rfl

/-- A written shedding level is in force, and a queue newly shed is empty, not in progress and without a deficit. -/
theorem tellScheduler_shed {wrote : Nat → Bool} {s : State} (h : wrote (17 + s.supply.mode.code) = true) :
    (tellScheduler wrote s).sch.shedLevel = s.params.shed.get s.supply.mode ∧
    ∀ i, newlyShed s.sch.shedLevel (s.params.shed.get s.supply.mode) i = true → (tellScheduler wrote s).sch.queues.get i = [] ∧
      (tellScheduler wrote s).sch.inProgress ≠ some i ∧ ∀ d : Drr, d.queue = i → (tellScheduler wrote s).sch.deficit.get d = 0 := by
  have htold := toldShed_of_written h
  refine ⟨by rw [tellScheduler_level, htold, setShedLevel_level], fun i hnew => ⟨?_, fun hprogress => ?_, fun d hd => ?_⟩⟩
  · have hempty : (toldShed wrote s).sch.queues.get i = [] := by rw [htold, setShedLevel_queue, if_pos hnew]
    rw [tellScheduler_queue, hempty]
    exact List.prefix_nil.mp (limitedTo_prefix wrote s.params i [])
  · rw [tellScheduler_progress, htold, setShedLevel_progress, Option.filter_eq_some_iff, Option.filter_eq_some_iff, hnew] at hprogress
    exact Bool.false_ne_true hprogress.1.2
  · have hcell := setShedLevel_deficit (s.params.shed.get s.supply.mode) s i
    rw [if_pos hnew, deficitCell, deficitCell, Ix4.drr_eq_some.mpr hd] at hcell
    rw [tellScheduler_eq, limits_deficit, htold]
    exact Option.some.inj hcell

theorem tellScheduler_unshed {wrote : Nat → Bool} {s : State} (h : ¬ wrote (17 + s.supply.mode.code) = true) :
    (tellScheduler wrote s).sch.shedLevel = s.sch.shedLevel ∧ (tellScheduler wrote s).sch.deficit = s.sch.deficit := by
  rw [tellScheduler_level, tellScheduler_eq, limits_deficit, toldShed_of_not h]
  exact ⟨rfl, rfl⟩

/-- A queue that is not newly shed keeps as many of its oldest frames as its limit holds, where that is written. -/
theorem tellScheduler_kept {wrote : Nat → Bool} {s : State} {i : Ix4} (h : ¬ (wrote (17 + s.supply.mode.code) = true ∧
      newlyShed s.sch.shedLevel (s.params.shed.get s.supply.mode) i = true)) :
    (¬ wrote (24 + i.num) = true → (tellScheduler wrote s).sch.queues.get i = s.sch.queues.get i) ∧
    (wrote (24 + i.num) = true → ∃ n, (tellScheduler wrote s).sch.queues.get i = (s.sch.queues.get i).take n ∧
      n ≤ (s.sch.queues.get i).length ∧ occupancy ((s.sch.queues.get i).take n) ≤ s.params.qLimit.get i ∧
      (n < (s.sch.queues.get i).length → s.params.qLimit.get i < occupancy ((s.sch.queues.get i).take (n + 1))) ∧
      (tellScheduler wrote s).mon.traffic.sch.tailDropped.get i =
        satAdd (s.mon.traffic.sch.tailDropped.get i) ((s.sch.queues.get i).length - n) ∧
      (s.sch.inProgress = some i → ((tellScheduler wrote s).sch.inProgress = some i ↔ 0 < n ∨ s.sch.queues.get i = []))) := by
  have htold : limitCell (toldShed wrote s) i = limitCell s i ∧
      (s.sch.inProgress = some i → (toldShed wrote s).sch.inProgress = some i) := by
    by_cases hw : wrote (17 + s.supply.mode.code) = true
    · have hold : ¬ newlyShed s.sch.shedLevel (s.params.shed.get s.supply.mode) i = true := fun hnew => h ⟨hw, hnew⟩
      rw [toldShed_of_written hw, limitCell, setShedLevel_queue, if_neg hold, setShedLevel_tailDropped, setShedLevel_progress]
      refine ⟨rfl, fun hin => Option.filter_eq_some_iff.mpr ⟨hin, ?_⟩⟩
      rw [Bool.not_eq_true] at hold
      rw [hold]
      rfl
    · rw [toldShed_of_not hw]
      exact ⟨rfl, id⟩
  obtain ⟨hcell, hkeeps⟩ := htold
  have hlimited := limits_cells wrote (toldShed wrote s) i
  rw [← tellScheduler_eq, hcell, toldShed_params] at hlimited
  refine ⟨fun hw => ?_, fun hw => ?_⟩
  · rw [limitedCell, if_neg hw] at hlimited
    exact congrArg Prod.fst hlimited
  · rw [limitedCell, if_pos hw] at hlimited
    obtain ⟨n, hn, hkept, hmax⟩ := keptWithin_maximal (s.params.qLimit.get i) (s.sch.queues.get i)
    have hfits := occupancy_keptWithin (s.params.qLimit.get i) (s.sch.queues.get i)
    have hlen : (keptWithin (s.params.qLimit.get i) (s.sch.queues.get i)).length = n := by
      rw [hkept, List.length_take, Nat.min_eq_left hn]
    refine ⟨n, (congrArg Prod.fst hlimited).trans hkept, hn, hkept ▸ hfits, hmax, ?_, fun hin => ?_⟩
    · have hcount := congrArg Prod.snd hlimited
      dsimp only [limitCell] at hcount
      rw [hcount, hlen]
    · have hqueue : (toldShed wrote s).sch.queues.get i = s.sch.queues.get i := congrArg Prod.fst hcell
      have hcut : cutByLimit wrote s.params i (s.sch.queues.get i) = true ↔ n = 0 ∧ s.sch.queues.get i ≠ [] := by
        rw [cutByLimit, hw, Bool.true_and, Bool.and_eq_true, List.isEmpty_iff_length_eq_zero, hlen, Bool.not_eq_true',
          List.isEmpty_eq_false_iff]
      rw [tellScheduler_progress, Option.filter_eq_some_iff, hqueue, Bool.not_eq_true', ← Bool.not_eq_true, hcut, not_and_or,
        not_ne_iff, Nat.pos_iff_ne_zero]
      exact and_iff_right (hkeeps hin)

theorem tellScheduler_enters (wrote : Nat → Bool) (s : State) : Untold s (tellScheduler wrote s) ∧
    ∀ c, conditionHolds (tellScheduler wrote s) c = conditionHolds s c := by
  obtain ⟨-, -, -, hline, -, htrack, hrate, -, hphone, -, hsupply, hevt, hagent, -⟩ := tellScheduler_frame s wrote
  have hshed : (toldShed wrote s).mon.watches = s.mon.watches := by
    unfold toldShed
    split
    · exact foldl_keep (fun t : State => t.mon.watches) _ (fun t i => by split <;> rfl) Ix4.all _
    · rfl
  have hwatches : (tellScheduler wrote s).mon.watches = s.mon.watches := by
    rw [tellScheduler_eq, ← hshed]
    exact foldl_keep (fun t : State => t.mon.watches) _ (fun t i => by split <;> rfl) Ix4.all _
  refine ⟨.same hevt hwatches (by rw [hagent]) (by rw [hagent]), fun c => ?_⟩
  cases c <;> simp only [conditionHolds, hline, htrack, hrate, hphone, hsupply, State.inRun]

/-! ## The loading engine (R37) -/

/-- The parts of the state that a cutback is made from. -/
structure SameCutback (s t : State) : Prop where
  line : t.line = s.line
  load : t.load = s.load
  track : t.track = s.track
  supply : t.supply = s.supply
  agent : t.agent = s.agent
  out : t.out = s.out
  mq : t.sch.mq = s.sch.mq

theorem mqOffer_mq_of_same {s t : State} (h : SameCutback s t) (m : Message) : (mqOffer m t).sch.mq = (mqOffer m s).sch.mq := by
  have hrun : t.inRun = s.inRun := by rw [State.inRun, h.line]; rfl
  unfold mqOffer
  rw [hrun, h.mq]
  repeat' split
  · exact h.mq
  · exact congrArg (· ++ [m]) h.mq
  · exact h.mq
  · rfl
  · exact h.mq

theorem cutbackTest_eq (s : State) : cutbackTest s = if cutbackNeeded s = true ∧ s.load.tx = .none then sendCutback s else s := by
  rcases cutbackTest_cases s with ⟨heq, hkept⟩ | ⟨hneeded, hnone, heq⟩ <;> rw [heq]
  · exact (if_neg fun h => hkept h.1 h.2).symm
  · exact (if_pos ⟨hneeded, hnone⟩).symm

/-- The cutback of a state, as the transceiver and the far end are told of it. -/
theorem sendCutback_sent (s : State) : (sendCutback s).out = { s.out with commands := s.out.commands ++
      [tableSetOf .transmit (cutTable s.load.txLoads (loadCeiling s))
        (carriedProtection .transmit (switchSymbol s.line.symbolCount 8) s) (s.line.superframe + 8)
        (switchSymbol s.line.symbolCount 8) false] } ∧
    (sendCutback s).sch.mq = (mqOffer (mkMessage .cutback 0 ([s.load.cutbackNumber + 1, s.line.superframe + 8] ++
      (cutTable s.load.txLoads (loadCeiling s)).flatMap u8)) s).sch.mq := by
  refine ⟨?_, rfl⟩
  simp [sendCutback, State.send]

theorem cutbackTest_of_same {s t : State} (h : SameCutback s t) : (cutbackTest t).load = (cutbackTest s).load ∧
    (cutbackTest t).out = (cutbackTest s).out ∧ (cutbackTest t).sch.mq = (cutbackTest s).sch.mq := by
  have hceiling : loadCeiling t = loadCeiling s := by simp only [loadCeiling, State.params, h.supply, h.agent]
  have hneeded : cutbackNeeded t = cutbackNeeded s := by
    rw [cutbackNeeded, cutbackNeeded, hceiling, h.supply, h.load, State.inRun, State.inRun, h.line]
  have hprot : ∀ sym, carriedProtection .transmit sym t = carriedProtection .transmit sym s := by
    intro sym
    simp only [carriedProtection, h.load, h.track]
  rw [cutbackTest_eq, cutbackTest_eq, hneeded, h.load]
  by_cases hsends : cutbackNeeded s = true ∧ s.load.tx = .none
  · rw [if_pos hsends, if_pos hsends, sendCutback_load, sendCutback_load, (sendCutback_sent t).1, (sendCutback_sent s).1,
      (sendCutback_sent t).2, (sendCutback_sent s).2, hceiling, hprot, h.line, h.load, h.out]
    exact ⟨rfl, rfl, mqOffer_mq_of_same h _⟩
  · rw [if_neg hsends, if_neg hsends]
    exact ⟨h.load, h.out, h.mq⟩

/-- The loading engine told of the ceiling leaves the data queues and what is counted of them. -/
theorem mqOffer_data (m : Message) (s : State) :
    (mqOffer m s).sch = { s.sch with mq := (mqOffer m s).sch.mq } ∧
      (mqOffer m s).mon.traffic.sch.tailDropped = s.mon.traffic.sch.tailDropped := by
  unfold mqOffer
  repeat' split
  all_goals exact ⟨rfl, rfl⟩

theorem cutbackTest_data (s : State) : (cutbackTest s).sch = { s.sch with mq := (cutbackTest s).sch.mq } ∧
    (cutbackTest s).mon.traffic.sch.tailDropped = s.mon.traffic.sch.tailDropped := by
  rw [cutbackTest_eq]
  split
  · exact mqOffer_data _ s
  · exact ⟨rfl, rfl⟩

theorem tellLoading_of_written {wrote : Nat → Bool} {s : State} (h : wrote (14 + s.supply.mode.code) = true) :
    tellLoading wrote s = cutbackTest s := if_pos h

theorem tellLoading_of_not {wrote : Nat → Bool} {s : State} (h : ¬ wrote (14 + s.supply.mode.code) = true) :
    tellLoading wrote s = s := if_neg h

theorem tellLoading_data (wrote : Nat → Bool) (s : State) : (tellLoading wrote s).sch = { s.sch with mq := (tellLoading wrote s).sch.mq } ∧
    (tellLoading wrote s).mon.traffic.sch.tailDropped = s.mon.traffic.sch.tailDropped := by
  unfold tellLoading
  split
  · exact cutbackTest_data s
  · exact ⟨rfl, rfl⟩

theorem Enters.andTellLoading {es : List Event} {s t : State} (h : Enters es s t) (wrote : Nat → Bool) :
    Enters es s (tellLoading wrote t) := by
  unfold tellLoading
  split
  · exact h.andCutbackTest
  · exact h

end Sys2Proof.Machine
end

section
/-! PROOFS. What a write of parameters tells the phone ports and the event unit (R113, R150, R152), and the writes of tables
(R24, R76, R108, R159, R161, R163). -/

namespace Sys2Proof.Machine

/-! ## Port 2's feed (R113, R121) -/

/-- The loss of a feed leaves the scheduler but for VQ, and what is counted of the data queues. -/
structure SameData (s t : State) : Prop where
  sch : t.sch = { s.sch with vq := t.sch.vq }
  tailDropped : t.mon.traffic.sch.tailDropped = s.mon.traffic.sch.tailDropped

theorem SameData.trans {s t u : State} (h : SameData s t) (k : SameData t u) : SameData s u :=
  ⟨by rw [k.sch, h.sch], k.tailDropped.trans h.tailDropped⟩

theorem Quiet.sameData {s t : State} (h : Quiet s t) : SameData s t :=
  ⟨by rw [h.sch], by rw [h.mon]⟩

theorem freeRecord_sameData (p : PortId) (s : State) : SameData s (freeRecord p s) := ⟨rfl, rfl⟩

theorem countPort_sameData (p : PortId) (f : PortCounts → PortCounts) (s : State) : SameData s (s.countPort p f) := ⟨rfl, rfl⟩

theorem loseFeed_sameData (s : State) : SameData s (loseFeed s) := by
  have hdone : ∀ t, SameData t (raiseRingDone .p2 1 t) := by
    intro t
    unfold raiseRingDone
    exact (countPort_sameData _ _ t).trans (raise_quiet _ _).sameData
  have hunfed : SameData s (unfeed s) := ⟨rfl, rfl⟩
  have hring : SameData s (unfeedRing s) := by
    unfold unfeedRing
    split
    · exact hunfed.trans (hdone _)
    · exact hunfed
  have hclose : ∀ t, SameData t (feedLossClose t) := by
    intro t
    unfold feedLossClose
    split
    · exact ⟨rfl, rfl⟩
    · exact (freeRecord_sameData .p2 t).trans (raise_quiet _ _).sameData
    · exact (((freeRecord_sameData .p2 t).trans (freeRecord_sameData .p1 _)).trans (raise_quiet _ _).sameData).trans
        (raise_quiet _ _).sameData
  rw [loseFeed_eq]
  exact hring.trans (hclose _)

theorem setPort2Feed_sameData (on : Bool) (s : State) : SameData s (setPort2Feed on s) := by
  unfold setPort2Feed
  split <;> split
  · exact ⟨rfl, rfl⟩
  · exact loseFeed_sameData s
  · exact ⟨rfl, rfl⟩
  · exact ⟨rfl, rfl⟩

theorem setPort2Feed_voice_of_on (s : State) : (setPort2Feed true s).voice = s.voice := by
  unfold setPort2Feed
  split <;> rfl

/-- R121: the records after port 2 has lost its feed: its own is FREE, and so is the other of an intercom. -/
theorem loseFeed_records (s : State) : ((loseFeed s).record .p2).call = .free ∧
    (∀ n, (s.record .p2).call = .intercom n → ((loseFeed s).record .p1).call = .free) ∧
    ((∀ n, (s.record .p2).call ≠ .intercom n) → (loseFeed s).record .p1 = s.record .p1) := by
  have hvoice := (unfeedRing_enters s).2
  rw [← State.record_of_voice (p := .p1) hvoice, ← State.record_of_voice (p := .p2) hvoice, loseFeed_eq]
  generalize unfeedRing s = t
  refine ⟨feedLossClose_free.2, fun n hn => ?_, fun hnone => ?_⟩
  · have heq : feedLossClose t = raise (.withA .channelClosed 2)
        (raise (.withA .channelClosed 1) (freeRecord .p1 (freeRecord .p2 t))) := by
      rw [State.record] at hn
      rw [feedLossClose, hn]
    rw [heq, State.record_of_voice ((raise_quiet _ _).voice.trans (raise_quiet _ _).voice)]
    rfl
  · cases hcall : (t.record .p2).call with
    | free =>
      have heq : feedLossClose t = t := by
        rw [State.record] at hcall
        rw [feedLossClose, hcall]
      rw [heq]
    | line n =>
      have heq : feedLossClose t = raise (.withA .channelClosed 2) (freeRecord .p2 t) := by
        rw [State.record] at hcall
        rw [feedLossClose, hcall]
      rw [heq, State.record_of_voice (raise_quiet _ _).voice]
      rfl
    | intercom n => exact absurd hcall (hnone n)

/-! ## The event unit (R150, R152) -/

/-- The host woken where `b` says so. -/
theorem woken_eq (e : EventUnit) (b : Bool) : (if e.asleep && b then { e with asleep := false, wakePin := true } else e) =
    { e with asleep := e.asleep && !b, wakePin := e.wakePin || (e.asleep && b) } := by
  cases b with
  | true =>
    cases h : e.asleep with
    | true => simp
    | false =>
      cases e
      simp_all
  | false =>
    cases e
    simp

theorem wakeOnMask_evt (s : State) : (wakeOnMask s).evt = { s.evt with
    asleep := s.evt.asleep && !decide (s.evt.pending &&& s.params.wakeMask ≠ 0)
    wakePin := s.evt.wakePin || (s.evt.asleep && decide (s.evt.pending &&& s.params.wakeMask ≠ 0)) } := by
  have hwakes : wakeOnMask s = if s.evt.asleep && decide (s.evt.pending &&& s.params.wakeMask ≠ 0) then
      s.modEvt fun e => { e with asleep := false, wakePin := true } else s := by
    rw [wakeOnMask]
    refine if_congr ?_ rfl rfl
    rw [Bool.and_eq_true, Bool.and_eq_true, bne_iff_ne, decide_eq_true_iff]
  rw [hwakes, ← woken_eq]
  split <;> rfl

theorem tellEvents_evt (wrote : Nat → Bool) (s : State) : (tellEvents wrote s).evt = { s.evt with
    noticeDue := if wrote 37 = true then s.evt.noticeDue &&& s.params.noticeMask else s.evt.noticeDue
    asleep := s.evt.asleep && !(wrote 38 && decide (s.evt.pending &&& s.params.wakeMask ≠ 0))
    wakePin := s.evt.wakePin || (s.evt.asleep && wrote 38 && decide (s.evt.pending &&& s.params.wakeMask ≠ 0)) } := by
  unfold tellEvents
  cases wrote 38 with
  | true =>
    rw [if_pos rfl, wakeOnMask_evt, Bool.true_and, Bool.and_true]
    cases wrote 37 <;> rfl
  | false =>
    rw [if_neg Bool.false_ne_true, Bool.false_and, Bool.and_false, Bool.false_and, Bool.not_false, Bool.and_true, Bool.or_false]
    cases wrote 37 <;> rfl

/-! ## A write of parameters (R163) -/

section
variable (start count : Nat) (entries : List Bytes) (s : State)

/-- A write of parameters of which the rate unit has been told. -/
def toldRate : State := tellRate (wroteParam start count) (paramsStored start entries s)

/-- The scheduler and the loading engine too. -/
def toldLoading : State :=
  tellLoading (wroteParam start count) (tellScheduler (wroteParam start count) (toldRate start count entries s))

/-- And the phone ports. -/
def toldPhone : State := tellPhone (wroteParam start count) (toldLoading start count entries s)

theorem writeParams_told : writeParams start count entries s =
    tellEvents (wroteParam start count) (toldPhone start count entries s) := rfl

theorem toldLoading_phone : (toldLoading start count entries s).phone = s.phone ∧
    (toldLoading start count entries s).voice = s.voice ∧ (toldLoading start count entries s).supply = s.supply ∧
    (toldLoading start count entries s).agent = (paramsStored start entries s).agent := by
  refine ⟨?_, ?_, ?_, ?_⟩ <;> simp [toldLoading, toldRate, paramsStored]

theorem toldLoading_enters : Enters [] (paramsStored start entries s) (toldLoading start count entries s) := by
  obtain ⟨huntold, hsame⟩ := tellScheduler_enters (wroteParam start count) (toldRate start count entries s)
  exact ((tellRate_enters _ _).andUntold huntold hsame).andTellLoading _

/-- The occurrences of a write: those of the loss of port 2's feed. -/
def writeEvents : List Event :=
  if wroteParam start count (20 + s.supply.mode.code) = true ∧ (storeParams s.params start entries).port2Feed.get s.supply.mode ≠ 1
  then feedLossEvents s else []

theorem toldPhone_of_not {start count : Nat} {entries : List Bytes} {s : State}
    (h : ¬ wroteParam start count (20 + s.supply.mode.code) = true) :
    toldPhone start count entries s = toldLoading start count entries s := by
  obtain ⟨-, -, hsupply, -⟩ := toldLoading_phone start count entries s
  refine if_neg ?_
  rw [hsupply]
  exact h

theorem toldPhone_of_written {start count : Nat} {entries : List Bytes} {s : State}
    (h : wroteParam start count (20 + s.supply.mode.code) = true) : toldPhone start count entries s =
      setPort2Feed (port2FedIn (storeParams s.params start entries) s.supply.mode) (toldLoading start count entries s) := by
  obtain ⟨-, -, hsupply, hagent⟩ := toldLoading_phone start count entries s
  rw [toldPhone, tellPhone, hsupply]
  refine (if_pos h).trans ?_
  rw [State.params, hagent]
  rfl

theorem toldPhone_enters : Enters (writeEvents start count entries s) (paramsStored start entries s)
    (toldPhone start count entries s) := by
  obtain ⟨hphone, hvoice, hsupply, -⟩ := toldLoading_phone start count entries s
  have htold := toldLoading_enters start count entries s
  by_cases hw : wroteParam start count (20 + s.supply.mode.code) = true
  · have hfeed := setPort2Feed_enters (port2FedIn (storeParams s.params start entries) s.supply.mode)
      (toldLoading start count entries s)
    rw [feedLossEvents_of_same hphone hvoice] at hfeed
    have hevents : writeEvents start count entries s =
        if port2FedIn (storeParams s.params start entries) s.supply.mode then [] else feedLossEvents s := by
      rw [writeEvents]
      by_cases hon : (storeParams s.params start entries).port2Feed.get s.supply.mode = 1
      · rw [if_neg fun h => h.2 hon, if_pos ((port2FedIn_iff _ _).mpr hon)]
      · rw [if_pos ⟨hw, hon⟩, if_neg (mt (port2FedIn_iff _ _).mp hon)]
    rw [toldPhone_of_written hw, hevents]
    refine htold.trans hfeed fun c => ?_
    by_cases hc : c = .port2OffHook
    · subst hc
      left
      simp only [conditionHolds, hphone]
      rfl
    · exact .inr (setPort2Feed_conditionHolds _ _ hc)
  · rw [toldPhone_of_not hw, writeEvents, if_neg fun h => hw h.1]
    exact htold

end

end Sys2Proof.Machine
end

section
/-! PROOFS. WRITE-TABLE and WRITE-ON (R24, R37, R65, R66, R68, R76, R88, R90, R108, R113, R150, R152, R159, R161, R163): what a write
of parameters comes to, and the writes of every table. -/

namespace Sys2Proof.Machine

theorem wroteParam_iff {start count i : Nat} : wroteParam start count i = true ↔ start ≤ i ∧ i < start + count := by
  rw [wroteParam, Bool.and_eq_true, decide_eq_true_iff, decide_eq_true_iff]

section
variable (start count : Nat) (entries : List Bytes) (s : State)

theorem toldRate_of : (toldRate start count entries s).sch = s.sch ∧
    (toldRate start count entries s).params = storeParams s.params start entries ∧
    (toldRate start count entries s).supply = s.supply ∧
    (toldRate start count entries s).mon.traffic = s.mon.traffic := by
  refine ⟨by simp [toldRate, paramsStored], by simp [toldRate, paramsStored, State.params], by simp [toldRate, paramsStored], ?_⟩
  unfold toldRate tellRate recomputeAllowances
  repeat' split
  · rw [(recompute_quiet _).mon]
    rfl
  all_goals rfl

theorem toldPhone_sameData : SameData (toldLoading start count entries s) (toldPhone start count entries s) := by
  unfold toldPhone tellPhone
  split
  · exact setPort2Feed_sameData _ _
  · exact ⟨rfl, rfl⟩

/-- Of a write of parameters the scheduler alone touches the data queues, and the loading engine alone MQ. -/
theorem writeParams_sch : (writeParams start count entries s).sch =
    { (tellScheduler (wroteParam start count) (toldRate start count entries s)).sch with
      mq := (toldLoading start count entries s).sch.mq, vq := (writeParams start count entries s).sch.vq } ∧
    (writeParams start count entries s).mon.traffic.sch.tailDropped =
      (tellScheduler (wroteParam start count) (toldRate start count entries s)).mon.traffic.sch.tailDropped := by
  obtain ⟨-, -, -, -, -, -, -, -, hsch, -, -, -, hmon, -, -⟩ :=
    tellEvents_frame (toldPhone start count entries s) (wroteParam start count)
  obtain ⟨hdata, hcount⟩ := toldPhone_sameData start count entries s
  obtain ⟨hdata', hcount'⟩ := tellLoading_data (wroteParam start count)
    (tellScheduler (wroteParam start count) (toldRate start count entries s))
  rw [writeParams_told, hsch, hmon, hcount]
  refine ⟨?_, hcount'⟩
  rw [hdata]
  exact congrArg (fun x : Scheduler => { x with vq := (toldPhone start count entries s).sch.vq }) hdata'

/-- R37, R163: of the blocks told of a write the loading engine alone makes a cutback. -/
theorem writeParams_load : (writeParams start count entries s).load = (toldLoading start count entries s).load ∧
    (writeParams start count entries s).out = (toldLoading start count entries s).out := by
  constructor <;> simp [writeParams_told, toldPhone]

theorem toldScheduler_sameCutback : SameCutback (paramsStored start entries s)
    (tellScheduler (wroteParam start count) (toldRate start count entries s)) := by
  have hmq : (tellScheduler (wroteParam start count) (toldRate start count entries s)).sch.mq = s.sch.mq := by
    rw [tellScheduler_mq, (toldRate_of start count entries s).1]
  refine ⟨?_, ?_, ?_, ?_, ?_, ?_, hmq⟩ <;> simp [toldRate]

theorem toldLoading_of_written {start count : Nat} {entries : List Bytes} {s : State}
    (h : wroteParam start count (14 + s.supply.mode.code) = true) :
    (toldLoading start count entries s).load = (cutbackTest (paramsStored start entries s)).load ∧
    (toldLoading start count entries s).out = (cutbackTest (paramsStored start entries s)).out ∧
    (toldLoading start count entries s).sch.mq = (cutbackTest (paramsStored start entries s)).sch.mq := by
  have hsame := toldScheduler_sameCutback start count entries s
  have heq : toldLoading start count entries s =
      cutbackTest (tellScheduler (wroteParam start count) (toldRate start count entries s)) :=
    tellLoading_of_written (by rw [hsame.supply]; exact h)
  rw [heq]
  exact cutbackTest_of_same hsame

theorem toldLoading_of_not {start count : Nat} {entries : List Bytes} {s : State}
    (h : ¬ wroteParam start count (14 + s.supply.mode.code) = true) : (toldLoading start count entries s).load = s.load ∧
    (toldLoading start count entries s).out = s.out ∧ (toldLoading start count entries s).sch.mq = s.sch.mq := by
  have hsame := toldScheduler_sameCutback start count entries s
  have heq : toldLoading start count entries s = tellScheduler (wroteParam start count) (toldRate start count entries s) :=
    tellLoading_of_not (by rw [hsame.supply]; exact h)
  rw [heq]
  exact ⟨hsame.load, hsame.out, hsame.mq⟩

theorem writeParams_evt : (writeParams start count entries s).evt = { (toldPhone start count entries s).evt with
    noticeDue := if wroteParam start count 37 = true then
        (toldPhone start count entries s).evt.noticeDue &&& (storeParams s.params start entries).noticeMask
      else (toldPhone start count entries s).evt.noticeDue
    asleep := (toldPhone start count entries s).evt.asleep && !(wroteParam start count 38 &&
      decide ((toldPhone start count entries s).evt.pending &&& (storeParams s.params start entries).wakeMask ≠ 0))
    wakePin := (toldPhone start count entries s).evt.wakePin || ((toldPhone start count entries s).evt.asleep &&
      wroteParam start count 38 &&
      decide ((toldPhone start count entries s).evt.pending &&& (storeParams s.params start entries).wakeMask ≠ 0)) } := by
  have hparams : (toldPhone start count entries s).params = storeParams s.params start entries := by
    simp [toldPhone, toldLoading, toldRate, paramsStored, State.params]
  rw [writeParams_told, tellEvents_evt, hparams]

/-- The occurrences of a write, and the watches that it hits. -/
theorem writeParams_counted : LogGains (writeEvents start count entries s) s (writeParams start count entries s) ∧
    EdgesCounted s (writeParams start count entries s) ∧
    ∀ e ∈ writeEvents start count entries s, (writeParams start count entries s).evt.pending.has e.kind = true := by
  have henters := toldPhone_enters start count entries s
  have hevt := writeParams_evt start count entries s
  have hlog := congrArg EventUnit.log hevt
  have hpending := congrArg EventUnit.pending hevt
  have honce : OnSetOnce (writeEvents start count entries s) := by
    refine onSetOnce_of_each ?_
    unfold writeEvents
    split
    · exact feedLossEvents_each s
    · exact fun e he => absurd he List.not_mem_nil
  obtain ⟨-, -, -, hline, -, htrack, hrate, -, -, hphone, -, hsupply, hmon, -, -⟩ :=
    tellEvents_frame (toldPhone start count entries s) (wroteParam start count)
  refine ⟨(henters.logGains honce).of_log hlog, fun i c hc => ?_, fun e he => ?_⟩
  · have hholds : c.Holds (writeParams start count entries s) ↔ c.Holds (toldPhone start count entries s) := by
      rw [← conditionHolds_iff, ← conditionHolds_iff, writeParams_told]
      cases c <;> simp only [conditionHolds, hline, htrack, hrate, hphone, hsupply, State.inRun]
    have hcounts := (henters.edgesCounted i c hc).of_same (u := writeParams start count entries s) (congrArg Monitor.watches hmon)
      hpending
    rw [← hholds] at hcounts
    have hstored : c.Holds (paramsStored start entries s) ↔ c.Holds s := by cases c <;> rfl
    rw [hstored] at hcounts
    exact hcounts
  · rw [hpending]
    exact henters.set e he

end

/-- The loss or the return of port 2's feed by a write. -/
theorem writeParams_ports {start count : Nat} {entries : List Bytes} {s : State}
    (h : wroteParam start count (20 + s.supply.mode.code) = true) : ∃ u : State, u.phone = s.phone ∧ u.voice = s.voice ∧
      (writeParams start count entries s).phone =
        (setPort2Feed (port2FedIn (storeParams s.params start entries) s.supply.mode) u).phone ∧
      (writeParams start count entries s).voice =
        (setPort2Feed (port2FedIn (storeParams s.params start entries) s.supply.mode) u).voice := by
  obtain ⟨hphone, hvoice, -, -⟩ := toldLoading_phone start count entries s
  refine ⟨toldLoading start count entries s, hphone, hvoice, ?_, ?_⟩
  all_goals
    rw [writeParams_told, toldPhone_of_written h]
    simp

theorem writeParams_ports_of_not {start count : Nat} {entries : List Bytes} {s : State}
    (h : ¬ wroteParam start count (20 + s.supply.mode.code) = true) : (writeParams start count entries s).voice = s.voice ∧
      (writeParams start count entries s).phone = s.phone := by
  obtain ⟨hphone, hvoice, -, -⟩ := toldLoading_phone start count entries s
  obtain ⟨-, -, -, -, -, -, -, -, -, hphone', hvoice', -, -, -, -⟩ :=
    tellEvents_frame (toldPhone start count entries s) (wroteParam start count)
  rw [writeParams_told, hphone', hvoice', toldPhone_of_not h]
  exact ⟨hvoice, hphone⟩

theorem PhonePort.fedAs_true (q : PhonePort) : q.fedAs true =
    if q.state = .unfed then { q with state := .onHook, pulses := 0, accepted := false, stable := 0 } else q := by
  unfold PhonePort.fedAs
  by_cases h : q.state = .unfed
  · rw [if_pos h, if_neg fun hfed => fed_iff.mp hfed h, if_pos rfl]
  · rw [if_neg h, if_pos (fed_iff.mpr h)]

theorem PhonePort.fedAs_false {q : PhonePort} (h : q.state ≠ .unfed) : q.fedAs false =
    { q with state := .unfed, ring := none, pulses := 0, digits := [], stable := 0 } := by
  rw [PhonePort.fedAs, fed_iff.mpr h]
  rfl

theorem feedLossEvents_ring {s : State} (h : (s.port .p2).state = .ringing) : Event.withA .ringDone 1 ∈ feedLossEvents s := by
  rw [feedLossEvents_of_fed (by rw [h]; exact fun hne => nomatch hne), ringLost, if_pos h]
  exact List.mem_append_left _ List.mem_cons_self

theorem feedLossEvents_call {s : State} (hfed : (s.port .p2).state ≠ .unfed) (h : (s.record .p2).call ≠ .free) :
    Event.withA .channelClosed 2 ∈ feedLossEvents s := by
  rw [feedLossEvents_of_fed hfed]
  refine List.mem_append_right _ ?_
  unfold callLost
  cases hcall : (s.record .p2).call with
  | free => exact absurd hcall h
  | line n => exact List.mem_singleton_self _
  | intercom n => exact List.mem_cons_of_mem _ (List.mem_singleton_self _)

/-- R113: what a PORT2-FEED of the mode in force does. -/
theorem writeParams_feed {start count : Nat} {entries : List Bytes} {s : State}
    (h : wroteParam start count (20 + s.supply.mode.code) = true) : let p := storeParams s.params start entries
    let v := writeParams start count entries s
    (p.port2Feed.get s.supply.mode = 1 → v.voice = s.voice ∧ v.phone = { s.phone with ports := ⟨s.port .p1,
      if (s.port .p2).state = .unfed then
        { s.port .p2 with state := .onHook, pulses := 0, accepted := false, stable := 0 }
      else s.port .p2⟩ }) ∧
    (p.port2Feed.get s.supply.mode ≠ 1 → (s.port .p2).state = .unfed → v.voice = s.voice ∧ v.phone = s.phone) ∧
    (p.port2Feed.get s.supply.mode ≠ 1 → (s.port .p2).state ≠ .unfed →
      v.phone = { s.phone with ports := ⟨s.port .p1,
        { s.port .p2 with state := .unfed, ring := none, pulses := 0, digits := [], stable := 0 }⟩ } ∧
      (v.record .p2).call = .free ∧
      (∀ n, (s.record .p2).call = .intercom n → (v.record .p1).call = .free) ∧
      ((∀ n, (s.record .p2).call ≠ .intercom n) → v.record .p1 = s.record .p1) ∧
      ((s.port .p2).state = .ringing → v.evt.pending.has .ringDone = true) ∧
      ((s.record .p2).call ≠ .free → v.evt.pending.has .channelClosed = true)) := by
  intro p v
  obtain ⟨u, hphone, hvoice, hvphone, hvvoice⟩ := writeParams_ports (entries := entries) h
  have hport := State.port_of_phone hphone
  have hset := (writeParams_counted start count entries s).2.2
  refine ⟨fun hon => ?_, fun hoff hunfed => ?_, fun hoff hfed => ?_⟩
  · rw [(port2FedIn_iff p s.supply.mode).mpr hon] at hvphone hvvoice
    refine ⟨hvvoice.trans ((setPort2Feed_voice_of_on u).trans hvoice), hvphone.trans ?_⟩
    rw [setPort2Feed_phone, hphone, hport, hport, PhonePort.fedAs_true]
  · have hlost : port2FedIn p s.supply.mode = false := Bool.not_eq_true _ ▸ mt (port2FedIn_iff p s.supply.mode).mp hoff
    have hkept : (u.port .p2).fed = false := by rw [hport, PhonePort.fed, hunfed]; rfl
    rw [hlost, setPort2Feed_of_kept hkept] at hvphone hvvoice
    exact ⟨hvvoice.trans hvoice, hvphone.trans hphone⟩
  · have hlost : port2FedIn p s.supply.mode = false := Bool.not_eq_true _ ▸ mt (port2FedIn_iff p s.supply.mode).mp hoff
    have hon : (u.port .p2).fed = true := fed_iff.mpr (by rw [hport]; exact hfed)
    have hevents : writeEvents start count entries s = feedLossEvents s := if_pos ⟨h, hoff⟩
    have hlose : setPort2Feed false u = loseFeed u := by
      rw [setPort2Feed, hon]
      rfl
    obtain ⟨htwo, hone, hkept⟩ := loseFeed_records u
    rw [hlost] at hvphone hvvoice
    rw [hlose] at hvvoice
    rw [State.record_of_voice hvoice] at hone hkept
    have hrecord := State.record_of_voice hvvoice
    refine ⟨hvphone.trans ?_, (congrArg ChannelRecord.call (hrecord .p2)).trans htwo, fun n hn => ?_, fun hnone => ?_,
      fun hring => ?_, fun hcall => ?_⟩
    · rw [setPort2Feed_phone, hphone, hport, hport, PhonePort.fedAs_false hfed]
    · exact (congrArg ChannelRecord.call (hrecord .p1)).trans (hone n hn)
    · exact (hrecord .p1).trans ((hkept hnone).trans (State.record_of_voice hvoice .p1))
    · exact hset _ (hevents ▸ feedLossEvents_ring hring)
    · exact hset _ (hevents ▸ feedLossEvents_call hfed hcall)

theorem shedAt_newly {old level : Nat} {i : Ix4} : newlyShed old level i = true ↔ shedAt level i = true ∧ shedAt old i = false := by
  rw [newlyShed, Bool.and_eq_true, Bool.not_eq_true']

/-- Settles O55: the checks of a write in their order, the run of each table, and what a write of parameters tells the blocks. -/
theorem tableWrites : Obligations.TableWrites := by
  unfold Obligations.TableWrites
  refine ⟨writes_refused, fun c row r rest id start count data s => ?_, ?_⟩
  · intro u asked hheld hnames hfits h1 h8 entries refused stored inUse allowedCadence
    have hexec := fun {a} => exec_writeRun (a := a) asked hheld hnames hfits h1 h8
    have hlen : entries.length = count := length_cutEntries ..
    have hrefused : ∀ {st}, writeRun id start count data u = refuseWrite st u → refused st := fun h => (hexec h).trans rfl
    have hbad : tableReadOnly id = false → start + count ≤ tableSize u id → writeBusy u id start count = false →
        writeEntries id start count entries u = none → refused .badValue := fun hopen hin hfree h =>
      hrefused (writeRun_of_bad hopen hin hfree h)
    have hstored : ∀ {t}, tableReadOnly id = false → start + count ≤ tableSize u id → writeBusy u id start count = false →
        writeEntries id start count entries u = some t → stored (writeReply id start count t) t := fun hopen hin hfree h =>
      (hexec (writeRun_of_stored hopen hin hfree h)).trans rfl
    clear_value u entries
    clear hexec hnames
    refine ⟨fun hid => ?_, fun hid hpast => ?_, fun hid hin hrun henable => ?_, fun hid hin hopen => ?_, fun es hid hin hes => ?_,
      fun hid hin hnone => ?_, fun hid hin huse => ?_, fun hid hin hunused => ?_, fun hid hin => ?_, fun ws hid hin hws => ?_,
      fun hid hin hnone => ?_⟩
    · exact hrefused (writeRun_of_readOnly (by rcases hid with rfl | rfl | rfl <;> rfl))
    · exact hrefused (writeRun_of_past (by rcases hid with rfl | rfl | rfl | rfl | rfl <;> rfl) hpast)
    · subst hid
      exact hrefused (writeRun_of_busy rfl hin ((writeBusy_thresh u start count).mpr ⟨hrun, henable⟩))
    · subst hid
      have hfree : writeBusy u 2 start count = false := by
        rw [← Bool.not_eq_true, writeBusy_thresh, not_and_or]
        exact hopen
      intro table allowed
      have hentries := writeEntries_thresh start count entries u hlen
      refine ⟨fun hok => hstored rfl hin hfree (hentries.trans (if_pos ((threshAllowed_iff table).mpr hok))), fun hnot => ?_⟩
      exact hbad rfl hin hfree (hentries.trans (if_neg (mt (threshAllowed_iff table).mp hnot)))
    · subst hid
      exact hstored rfl hin rfl (writeEntries_classes hlen hes)
    · exact hbad (by rw [hid]; rfl) (by rw [hid]; exact hin) (by rw [hid]; rfl) (writeEntries_unread (.inl ⟨hid, hnone⟩))
    · subst hid
      exact hrefused (writeRun_of_busy rfl hin ((writeBusy_cadence u start count).mpr huse))
    · subst hid
      have hfree : writeBusy u 5 start count = false := by
        rw [← Bool.not_eq_true, writeBusy_cadence]
        exact hunused
      have hentries := writeEntries_cadence start count entries u hlen
      refine ⟨fun hok => hstored rfl hin hfree (hentries.trans (if_pos ((all_cadenceAllowed entries).mpr hok))), fun hnot => ?_⟩
      exact hbad rfl hin hfree (hentries.trans (if_neg (mt (all_cadenceAllowed entries).mp hnot)))
    · subst hid
      exact ⟨hstored rfl hin rfl rfl, by simp [writeParams]⟩
    · subst hid
      refine ⟨_, hstored rfl hin rfl (writeEntries_watches hws), ?_, rfl⟩
      have hcount : ws.length = count := (length_readAll hws).trans hlen
      rw [← replaceRun_eq _ ws start hcount]
      exact writeWatches_eq (by rw [hcount]; exact hin)
    · exact hbad (by rw [hid]; rfl) (by rw [hid]; exact hin) (by rw [hid]; rfl) (writeEntries_unread (.inr ⟨hid, hnone⟩))
  · intro start count entries s p w v wrote mode
    have hwrote : ∀ i, wroteParam start count i = true ↔ wrote i := fun i => wroteParam_iff
    obtain ⟨hpending, htime, hline, htrack, hsupply, htable, hhome⟩ := writeParams_frame s start count entries
    obtain ⟨hsch, hparams, hmode, htraffic⟩ := toldRate_of start count entries s
    obtain ⟨hvsch, hvcount⟩ := writeParams_sch start count entries s
    obtain ⟨hvload, hvout⟩ := writeParams_load start count entries s
    obtain ⟨hlog, hedges, hset⟩ := writeParams_counted start count entries s
    have hevt := writeParams_evt start count entries s
    refine ⟨⟨writeParams_agent start count entries s, hsupply, hline, htrack, htime, hpending, htable, hhome⟩, fun hcaps => ?_,
      fun h9 hcap h10 => ?_, fun h9 hcap h10 => ?_, fun hshed => ?_, fun hshed => ?_, fun i hkept => ?_, fun hceiling => ?_,
      fun hceiling => ?_, fun hfeed => ?_, fun hfeed => ?_, ?_, hedges, fun h37 k hk => ?_, fun h38 hasleep => ?_,
      fun hfeed hnone => ?_⟩
    · have hrates := tellRate_of_caps (s := w) (hcaps.imp (hwrote 9).mpr (hwrote _).mpr)
      exact (writeParams_rate start count entries s).trans ((congrArg State.rate hrates).trans (recompute_rate w))
    · have hrates := tellRate_of_others (s := w) (mt (hwrote 9).mp h9) (mt (hwrote _).mp hcap)
      rw [if_neg (mt (hwrote 10).mp h10)] at hrates
      exact (writeParams_rate start count entries s).trans ((congrArg State.rate hrates).trans rfl)
    · have hrates := tellRate_of_others (s := w) (mt (hwrote 9).mp h9) (mt (hwrote _).mp hcap)
      rw [if_pos ((hwrote 10).mpr h10)] at hrates
      exact (writeParams_rate start count entries s).trans ((congrArg State.rate hrates).trans (recomputeAllowances_eq w))
    · have htold := tellScheduler_shed (s := toldRate start count entries s) (by rw [hmode]; exact (hwrote _).mpr hshed)
      rw [hmode, hsch, hparams] at htold
      show (writeParams start count entries s).sch.shedLevel = _ ∧ ∀ i, _ → _ →
        (writeParams start count entries s).sch.queues.get i = [] ∧ (writeParams start count entries s).sch.inProgress ≠ some i ∧
        ∀ d : Drr, d.queue = i → (writeParams start count entries s).sch.deficit.get d = 0
      rw [hvsch]
      exact ⟨htold.1, fun i hnew hold => htold.2 i (shedAt_newly.mpr ⟨hnew, hold⟩)⟩
    · have htold := tellScheduler_unshed (s := toldRate start count entries s) (by rw [hmode]; exact mt (hwrote _).mp hshed)
      rw [hsch] at htold
      show (writeParams start count entries s).sch.shedLevel = _ ∧ (writeParams start count entries s).sch.deficit = _
      rw [hvsch]
      exact htold
    · have htold := tellScheduler_kept (wrote := wroteParam start count) (s := toldRate start count entries s) (i := i) (by
        rw [hmode, hsch, hparams, hwrote, shedAt_newly]
        exact hkept)
      rw [hsch, hparams, htraffic, hwrote] at htold
      have hqueues := congrArg Scheduler.queues hvsch
      have hprogress := congrArg Scheduler.inProgress hvsch
      dsimp only at hqueues hprogress
      rw [← hqueues, ← hprogress, ← hvcount] at htold
      exact htold
    · obtain ⟨hload, hout, hmq⟩ := toldLoading_of_written (entries := entries) ((hwrote _).mpr hceiling)
      exact ⟨hvload.trans hload, hvout.trans hout, (congrArg Scheduler.mq hvsch).trans hmq⟩
    · obtain ⟨hload, hout, hmq⟩ := toldLoading_of_not (entries := entries) (mt (hwrote _).mp hceiling)
      exact ⟨hvload.trans hload, hvout.trans hout, (congrArg Scheduler.mq hvsch).trans hmq⟩
    · exact writeParams_feed ((hwrote _).mpr hfeed)
    · exact writeParams_ports_of_not (mt (hwrote _).mp hfeed)
    · have hevents : writeEvents start count entries s = if wrote (20 + mode) ∧ p.port2Feed.get s.supply.mode ≠ 1 then
          feedLossEvents s else [] := if_congr (and_congr_left' (hwrote _)) rfl rfl
      exact hevents ▸ hlog
    · have hdue := congrArg EventUnit.noticeDue hevt
      rw [if_pos ((hwrote 37).mpr h37)] at hdue
      have hmasked : KindSet.has ((toldPhone start count entries s).evt.noticeDue &&& p.noticeMask) k = true :=
        (congrArg (fun x : KindSet => x.has k) hdue).symm.trans hk
      rw [KindSet.has, BitVec.getLsbD_and, Bool.and_eq_true] at hmasked
      exact hmasked.2
    · have hawake := (congrArg EventUnit.asleep hevt).symm.trans hasleep
      dsimp only at hawake
      rw [(hwrote 38).mpr h38, Bool.true_and, Bool.and_eq_true, Bool.not_eq_true', decide_eq_false_iff_not, not_ne_iff] at hawake
      exact (congrArg (fun e : EventUnit => e.pending &&& p.wakeMask) hevt).trans hawake.2
    · have htold : (toldPhone start count entries s).evt = s.evt := by
        rw [toldPhone_of_not (mt (hwrote _).mp hfeed)]
        have hrates : (toldRate start count entries s).evt = s.evt :=
          tellRate_evt_of_unwatched (wroteParam start count) (s := paramsStored start entries s) hnone
        rw [← hrates]
        simp [toldLoading]
      rw [htold] at hevt
      have hmask : decide (wrote 38) = wroteParam start count 38 := Bool.eq_iff_iff.mpr (decide_eq_true_iff.trans (hwrote 38).symm)
      have hnotice : (if wroteParam start count 37 = true then s.evt.noticeDue &&& p.noticeMask else s.evt.noticeDue) =
          if wrote 37 then s.evt.noticeDue &&& p.noticeMask else s.evt.noticeDue := if_congr (hwrote 37) rfl rfl
      rw [hmask, ← hnotice]
      exact hevt

end Sys2Proof.Machine
end
